-- ==== Sys2Proof/Word.lean ====
section
/-! DEFINITION. The word types of the Cendaro CDX-440 and the index types its records are kept under. -/

namespace Sys2Proof

/-- One byte of a frame body or of an entry image (12, R192, R194). -/
abbrev Byte := BitVec 8

/-- A berth, 0..3 (00, Terms). -/
abbrev Berth := Fin 4

/-- A converter module, 0..7; modules 0 to 3 are group A, 4 to 7 group B (04, Module Table). -/
abbrev ModuleId := Fin 8

/-- The Node Table entry of ring address `n + 1`, for addresses 1..31 (10, the tables and the entry order). -/
abbrev NodeIx := Fin 31

/-- A slot of a tariff table, 0..15 (R140). -/
abbrev Slot := Fin 16

/-- A 32-bit tick time; 1024 ticks to a cycle (R23). -/
abbrev Ticks := BitVec 32

/-- The 22-bit extended cycle count (R2). -/
abbrev Ext := BitVec 22

/-- One item for each of the three voltage or current phases (R17). -/
structure Tri (α : Type) where
  l1 : α
  l2 : α
  l3 : α
  deriving DecidableEq, Repr

/-- The same item for each phase. -/
def triOf {α : Type} (a : α) : Tri α := ⟨a, a, a⟩

/-- A function applied to each phase. -/
def triMap {α β : Type} (f : α → β) (t : Tri α) : Tri β := ⟨f t.l1, f t.l2, f t.l3⟩

/-- A function applied phase by phase to two triples. -/
def triZip {α β γ : Type} (f : α → β → γ) (t : Tri α) (u : Tri β) : Tri γ :=
  ⟨f t.l1 u.l1, f t.l2 u.l2, f t.l3 u.l3⟩

end Sys2Proof
end

