-- ==== Sys2Proof/Syntax.lean ====
section
/-! DEFINITION. The commands of the CDX-440, one constructor for each row of spec/opcode_table.json.

Outside events carry the frame that arrives. Events of a boundary or of a point cycle name the object they
concern. The twenty-six management requests carry no operand of their own: a request is executed from the head of
the request queue, and its arguments are the argument bytes queued there (R183). -/

namespace Sys2Proof

/-- A breaker: the plug breaker or the ship's shore breaker of a berth (05). -/
inductive Breaker where
  | pb (b : Berth)
  | sb (b : Berth)
  deriving DecidableEq, Repr

/-- A measured point: B, P or S of a berth, or the grid incomer G (R17). -/
inductive Point where
  | bus (b : Berth)
  | plug (b : Berth)
  | ship (b : Berth)
  | incomer
  deriving DecidableEq, Repr

/-- A frame as it arrives on the ring input, less the kind that the command's name gives: the header fields of R192
(the high four bits of the kind byte, which the part ignores, among them), the body and the received CRC-16. -/
structure Arrival where
  dest : Byte
  source : Byte
  kindHigh : BitVec 4
  length : BitVec 16
  cycle : BitVec 16
  body : List Byte
  crc : BitVec 16
  deriving DecidableEq, Repr

/-- The two kinds of the part's own frames besides CYC (R5): a response or a notice. -/
inductive OwnKind where
  | mrs
  | evn
  deriving DecidableEq, Repr

/-- Which of two things that fall together in one delivery is taken first. `sectionFirst`: the command section is
written before the delivery's own effects (R9: a command changed at the instant of a frame's passage is carried by that
frame or by the next). `supervisionFirst`: an uncommanded open is taken by the Berth Supervision before the Session
Controller (R117: either may be taken first). -/
structure DeliveryOrder where
  sectionFirst : Bool
  supervisionFirst : Bool
  deriving DecidableEq, Repr

/-- The commands, in the order of the opcode table. -/
inductive Instr where
  /-- RESET_ASSERT (R16). -/
  | resetAssert
  /-- RESET_RELEASE (R16). -/
  | resetRelease
  /-- CYCLE_BOUNDARY (R2). With `deferEmission` the cycle frame is emitted among the boundary's due events and not
  before them (R3: a change that falls together with an emission shows in that frame or in the next). -/
  | cycleBoundary (deferEmission : Bool)
  /-- NODE_LOST (R11, R12). -/
  | nodeLost (n : NodeIx)
  /-- NODE_RECOVERED (R12). -/
  | nodeRecovered (n : NodeIx)
  /-- RING_DOWN (R14). -/
  | ringDown
  /-- RING_UP (R14). -/
  | ringUp
  /-- CYC_RETURN (R14). -/
  | cycReturn (f : Arrival)
  /-- OWN_FRAME_RETURN (R5). -/
  | ownFrameReturn (k : OwnKind) (f : Arrival)
  /-- FOREIGN_FRAME (R4), of kind `8 + k`. -/
  | foreignFrame (k : BitVec 3) (f : Arrival)
  /-- CORRUPT_FRAME (R4), of kind `k`, 0..7. -/
  | corruptFrame (k : BitVec 3) (f : Arrival)
  /-- SMP_DELIVERY (R7). -/
  | smpDelivery (f : Arrival)
  /-- MOD_DELIVERY (R52). -/
  | modDelivery (o : DeliveryOrder) (f : Arrival)
  /-- BRK_DELIVERY (R75). -/
  | brkDelivery (o : DeliveryOrder) (f : Arrival)
  /-- SIU_DELIVERY (R8). -/
  | siuDelivery (o : DeliveryOrder) (f : Arrival)
  /-- NO_CROSSING_TIMEOUT (R25). -/
  | noCrossingTimeout (p : Point)
  /-- MEASUREMENT_SECOND_END (R30). With `refreshFirst` the headroom refresh is taken before the closes (R105). -/
  | measurementSecondEnd (refreshFirst : Bool)
  /-- FREE_STEP (R41). -/
  | freeStep (b : Berth)
  /-- HOLDOVER_ENTRY (R44). -/
  | holdoverEntry (b : Berth)
  /-- MODULE_START_LIMIT (R55, R57). -/
  | moduleStartLimit (m : ModuleId)
  /-- MODULE_OPERATE_LIMIT (R69). -/
  | moduleOperateLimit (m : ModuleId)
  /-- COOLDOWN_END (R58). -/
  | cooldownEnd (m : ModuleId)
  /-- SWITCHING_ISSUE (R68). -/
  | switchingIssue
  /-- BREAKER_OPERATE_LIMIT (R79). -/
  | breakerOperateLimit (k : Breaker)
  /-- PB_CLOSE_RETRY (R96). -/
  | pbCloseRetry (b : Berth)
  /-- STAGE_LIMIT_EXPIRY (R98). -/
  | stageLimitExpiry (b : Berth)
  /-- SETTLE_END (R101). -/
  | settleEnd (b : Berth)
  /-- RAMP_STEP (R102). -/
  | rampStep (b : Berth)
  /-- BLANK_END (R124). -/
  | blankEnd (b : Berth)
  /-- RESTART_DUE (R133). -/
  | restartDue (b : Berth)
  /-- RESTART (R134). -/
  | restart (b : Berth)
  /-- SECOND_TICK (R137). -/
  | secondTick
  /-- TARIFF_ACTIVATION (R144). -/
  | tariffActivation
  /-- DEMAND_BLOCK_END (R147). -/
  | demandBlockEnd
  /-- HELD_OVER_APPLY (R155). -/
  | heldOverApply (b : Berth)
  /-- CONFIG_TIMEOUT (R171). -/
  | configTimeout
  /-- SCRUB_READ (R177). -/
  | scrubRead
  /-- REQUEST_FRAME (R6). -/
  | requestFrame (f : Arrival)
  /-- READ_TABLE_ENTRY (R169). -/
  | readTableEntry
  /-- WRITE_TABLE_ENTRY (R170). -/
  | writeTableEntry
  /-- COMMIT (R172). -/
  | commit
  /-- ENTER_CONFIGURATION (R174, R175). -/
  | enterConfiguration
  /-- SET_CLOCK (R139). -/
  | setClock
  /-- WRITE_TARIFF_ENTRY (R140). -/
  | writeTariffEntry
  /-- ACTIVATE_TARIFF (R142). -/
  | activateTariff
  /-- CANCEL_ACTIVATION (R143). -/
  | cancelActivation
  /-- OPEN_SESSION (R94). -/
  | openSession
  /-- HANDOVER_IN (R99). -/
  | handoverIn
  /-- ABORT_HANDOVER (R100). -/
  | abortHandover
  /-- HANDOVER_OUT (R110). -/
  | handoverOut
  /-- CLOSE_SESSION (R113). -/
  | closeSession
  /-- ABORT_SESSION (R114). -/
  | abortSession
  /-- CLEAR_FAULT (R135). -/
  | clearFault
  /-- BLOCK_MODULE (R62). -/
  | blockModule
  /-- UNBLOCK_MODULE (R62). -/
  | unblockModule
  /-- MARK_BREAKER (R82). -/
  | markBreaker
  /-- READ_BILLING (R160). -/
  | readBilling
  /-- RELEASE_BILLING (R161). -/
  | releaseBilling
  /-- READ_METER (R167). -/
  | readMeter
  /-- RING_SURVEY (R15). -/
  | ringSurvey
  /-- READ_STATUS (R190). -/
  | readStatus
  /-- READ_EVENTS (R187). -/
  | readEvents
  /-- CLEAR_EVENTS (R188). -/
  | clearEvents
  /-- SET_EVENT_MASK (R187). -/
  | setEventMask
  /-- FIRST_CYCLE_FRAME (R16). -/
  | firstCycleFrame
  deriving DecidableEq, Repr

end Sys2Proof
end

