-- ==== Sys2Proof/Config.lean ====
section
/-! DEFINITION. What the spec leaves open: the free values. Each is an opaque constant without a body, so nothing can
be proved of its value and a statement holds whatever it is. Constants that the spec fixes stand where they are used. -/

namespace Sys2Proof.Config

/-- What a yes/no byte of 2..255 in the configuration store reads as. Only a change in the store without a write can
bring such a byte (R169, R194); the spec states no reading of it. DESIGN CHOICE, entry 11: a free value. -/
opaque undefinedFlag : Byte → Bool

/-- The class (0 WARN, 1 ERROR, 2 RESTART, 3 LATCHED) that a Reaction entry of byte 4..255 gives; only a change in the
store without a write can bring such a byte (R122). DESIGN CHOICE, entry 11: a free value. -/
opaque undefinedClass : Byte → Fin 4

/-- What a field of the given width in bits holds for a result that does not fit it, where the spec states none (the 64-bit
energy registers and the block sum, R152; the 32-bit gap seconds, R157; the 16-bit per-mille figures, R27). DESIGN CHOICE,
entries 12 and 25. -/
opaque overflow : (w : Nat) → Nat → BitVec w

/-- The width in bytes of a field that holds a named value and appears in no frame or image (R195). DESIGN CHOICE, entry 13: a free
value of the field. -/
opaque namedWidth : (field : String) → Nat

/-- The code of a named value of a field for which R195 and the Codes table give no code. DESIGN CHOICE, entry 13: a free value of the
field and the name. -/
opaque namedCode : (field name : String) → Nat

end Sys2Proof.Config
end

