-- ==== Sys2Proof/Machine/State.lean ====
section
/-! DEFINITION. The state of the CDX-440 as plain data: every record, queue, counter, mode and mark that a chapter of the
spec gives a block, the queue of waiting commands, and `State.reset`, the part right after its reset line is released. -/

namespace Sys2Proof.Machine

open Sys2Proof

/-! ## Named values -/

/-- Kinds 0 to 7, defined for the ring (R4). -/
inductive FrameKind where
  | cyc | smp | mod | brk | siu | mrq | mrs | evn
  deriving DecidableEq, Repr

/-- Ring state (R14). -/
inductive RingState where
  | up | down
  deriving DecidableEq, Repr

/-- Rotation of a measured point (R28). -/
inductive Rotation where
  | ok | reversed | unknown
  deriving DecidableEq, Repr

/-- Oscillator mode (R39). -/
inductive OscMode where
  | free | track | lock
  deriving DecidableEq, Repr

/-- State of a module record (04, module states). -/
inductive ModuleState where
  | free | starting | bound | stopping | cooldown | failed | blocked
  deriving DecidableEq, Repr

/-- State reported by a module controller (R52). -/
inductive ReportedState where
  | stopped | starting | running | fault
  deriving DecidableEq, Repr

/-- Status of a module breaker, PB or SB as reported (12, Codes). -/
inductive BreakerStatus where
  | open | closed | moving | fault
  deriving DecidableEq, Repr

/-- Selector position as reported; `unmatched` is a position matching no berth (R193). -/
inductive Selector where
  | none | berth (b : Berth) | unmatched
  deriving DecidableEq, Repr

/-- Run command of a module (R53). -/
inductive RunCommand where
  | run | stop
  deriving DecidableEq, Repr

/-- Module breaker operation in force (R69). -/
inductive ModuleOp where
  | none | close | open | protectionOpen
  deriving DecidableEq, Repr

/-- Operation waiting in the switching queue (R67). -/
inductive QueuedOp where
  | close | open
  deriving DecidableEq, Repr

/-- Why a module entered FAILED (R59). -/
inductive FailureCause where
  | reportedFault | nodeLost | breakerFault | selector | startLimit | operateLimit
  deriving DecidableEq, Repr

/-- Urgency of an allocation request (R63). -/
inductive Urgency where
  | normal | urgent
  deriving DecidableEq, Repr

/-- Command in force at a PB or SB (05, the breaker record). -/
inductive BreakerCommand where
  | none | close | open
  deriving DecidableEq, Repr

/-- Cable alignment (R83). -/
inductive Alignment where
  | inactive | collecting
  deriving DecidableEq, Repr

/-- Sync attempt (R86, R89). -/
inductive SyncAttempt where
  | inactive | evaluating | closeIssued
  deriving DecidableEq, Repr

/-- The thirteen session states (06). -/
inductive SessionState where
  | idle | reserving | energising | connected | syncing | parallel | rampIn | shore | recall | rampOut | parting
  | draining | faulted
  deriving DecidableEq, Repr

/-- Why the last session ended (06, the session record). -/
inductive EndReason where
  | closed | aborted | noModules | energiseTimeout | plugOpened | fault
  deriving DecidableEq, Repr

/-- Drain step (R115). -/
inductive DrainStep where
  | sb | pb | done
  deriving DecidableEq, Repr

/-- Ship state (12, Codes). -/
inductive ShipState where
  | genSupply | readyForShore | genOff | genParallel | shipEsd
  deriving DecidableEq, Repr

/-- Handover phase written to the ship (R119). -/
inductive HandoverPhase where
  | none | cableLive | sync | parallel | shoreSupply | recall | parting
  deriving DecidableEq, Repr

/-- The thirteen fault kinds, in the order of the Reaction Table (R122). -/
inductive FaultKind where
  | overcurrent | busVoltage | busFrequency | reversePower | phasing | sbFail | pbFail | sbOpened | shipEsd | meterLost
  | shipLinkLost | plugUnitLost | lockLost
  deriving DecidableEq, Repr

/-- The class of a fault kind (R122). -/
inductive FaultClass where
  | warn | error | restart | latched
  deriving DecidableEq, Repr

/-- Mode of the part (10). -/
inductive Mode where
  | config | operate
  deriving DecidableEq, Repr

/-- State of the scrub walker (R177). -/
inductive WalkerState where
  | stopped | running | verifying
  deriving DecidableEq, Repr

/-- Result of a completed pass (R177). -/
inductive PassResult where
  | matched | mismatched
  deriving DecidableEq, Repr

/-- Node role (12, Codes). -/
inductive Role where
  | none | station | muBerth | muIncomer | module | plugBu | siu
  deriving DecidableEq, Repr

/-- Direction of a second's energy (R152). -/
inductive Direction where
  | importing | exporting | none
  deriving DecidableEq, Repr

/-- Why a billing record was closed (09, Billing records). -/
inductive CloseReason where
  | bandChange | dayEnd | tariffChange | clockSet | sessionEnd | fault
  deriving DecidableEq, Repr

/-- Scope of event status (00, Terms). -/
inductive Scope where
  | station
  | berth (b : Berth)
  deriving DecidableEq, Repr

/-- Flags of the station scope, in the order of the event status table (11). -/
inductive StationFlag where
  | unknownNode | nodeLost | nodeRecovered | ringDown | ringUp | moduleFailed | importHigh | tariffActivated
  | recordReady | recordRingFull | configTimeout | configInvalid | configValid | requestDropped
  deriving DecidableEq, Repr

/-- Flags of a berth scope, in the order of the event status table (11). -/
inductive BerthFlag where
  | capacityLost | closeMeasured | sessionConnected | shoreSupply | shipReturned | sessionEnded | stageSlow | syncTimeout
  | recallTimeout | handoverFailed | warn | trip | restart
  deriving DecidableEq, Repr

/-- Kind of a response (R184). -/
inductive AnswerKind where
  | done | accepted | refused
  deriving DecidableEq, Repr

/-- Refusal reason (R184). -/
inductive Reason where
  | state | mode | range | locked | signature | inconsistent | unknown | noRecord | sequence | billingFull | pending | source
  deriving DecidableEq, Repr

/-! ## Frames, requests and responses -/

/-- A frame on the ring: the header bytes of R192 (the kind byte whole), the body and the CRC-16. -/
structure RingFrame where
  dest : Byte
  source : Byte
  kindByte : Byte
  length : BitVec 16
  cycle : BitVec 16
  body : List Byte
  crc : BitVec 16
  deriving DecidableEq, Repr

/-- One field of a response's detail or results (R195): a field that a frame or image carries, with its width in bytes;
a number of 8 bytes, signed; an absent field, all ones of its width; the one-byte item count of a list; bytes as they
stand; a named value of a field whose width and codes the spec does not give, or that field's absence; or a value without a
code in a field whose width it gives (entry 13). -/
inductive Item where
  | code (width : Nat) (value : Nat)
  | num (value : Int)
  | absent (width : Nat)
  | count (n : Nat)
  | bytes (l : List Byte)
  | named (field name : String)
  | namedAbsent (field : String)
  | uncoded (width : Nat) (field name : String)
  deriving DecidableEq, Repr

/-- A request as queued: its source address, tag, code and argument bytes (R181, R195). -/
structure Request where
  source : Byte
  tag : BitVec 16
  code : Byte
  args : List Byte
  deriving DecidableEq, Repr

/-- The owner's answer to a request (R184). -/
structure Answer where
  kind : AnswerKind
  reason : Option Reason
  items : List Item
  deriving DecidableEq, Repr

/-- A response waiting for insertion: the address it goes to, the tag and code it echoes, and the answer (R184). -/
structure Response where
  dest : Byte
  tag : BitVec 16
  code : Byte
  answer : Answer
  deriving DecidableEq, Repr

/-- A queued notice: its scope and the flag numbers it names, in the order added (R189). -/
structure Notice where
  scope : Scope
  flags : List Nat
  deriving DecidableEq, Repr

/-! ## Ring Interface -/

/-- Health record of a node (R11). -/
structure Health where
  counter : Nat
  lost : Bool
  delivered : Bool
  deriving DecidableEq, Repr

/-- Item of a survey set (R15). -/
structure SurveyItem where
  source : Byte
  kinds : List FrameKind
  late : Bool
  deriving DecidableEq, Repr

/-- What the Ring Interface holds (01). `taken` marks the nodes whose delivery of the running cycle has been taken (R7), `fresh` those
whose health record a repair write has reset in it (R13; entry 9). -/
structure Rif where
  started : Bool
  cycle : BitVec 16
  ext : Ext
  cycleOperate : Bool
  ring : RingState
  miss : Nat
  ret : Nat
  returned : Bool
  health : Vector Health 31
  taken : Vector Bool 31
  fresh : Vector Bool 31
  pointsFed : List Point
  insertion : List RingFrame
  current : List SurveyItem
  previous : List SurveyItem
  lastUnknown : Option (Byte × FrameKind)
  deriving DecidableEq, Repr

/-! ## Measurement Front End -/

/-- RMS window: three sums of squares and the count of samples (R26). -/
structure Window where
  sums : Tri Nat
  count : Nat
  deriving DecidableEq, Repr

/-- The measurement record of a point (02). -/
structure MeasRecord where
  heldV : Tri Int
  heldI : Tri Int
  armed : Tri Bool
  lastCross : Tri (Option Ticks)
  period : Nat
  freq : Nat
  stale : Bool
  rms : Tri Nat
  pointRms : Nat
  lineVolts : Nat
  permille : Tri (Option Nat)
  pointPermille : Option Nat
  rotation : Rotation
  substCount : Nat
  window : Window
  peak : Nat
  acc : Int
  tally : Nat
  substTally : Nat
  rawSum : Int
  lastPower : Int
  lastSubst : Nat
  deriving DecidableEq, Repr

/-- The thirteen measurement records (02). -/
structure Mfe where
  bus : Vector MeasRecord 4
  plug : Vector MeasRecord 4
  ship : Vector MeasRecord 4
  incomer : MeasRecord
  deriving DecidableEq, Repr

/-! ## Reference Oscillator Bank -/

/-- The oscillator record of a berth (03). -/
structure Osc where
  phase : BitVec 32
  k : BitVec 32
  fset : Nat
  fnom : Nat
  mode : OscMode
  slew : Nat
  watchdog : Nat
  holdover : Bool
  deriving DecidableEq, Repr

/-! ## Station time -/

/-- Station time (R137). -/
structure StationTime where
  day : Nat
  second : Nat
  weekday : Nat
  deriving DecidableEq, Repr

/-! ## Module Pool Manager -/

/-- The module record (04). -/
structure ModuleRecord where
  state : ModuleState
  berth : Option Berth
  reported : ReportedState
  kva : Nat
  breaker : BreakerStatus
  selector : Selector
  output : Int
  run : RunCommand
  op : ModuleOp
  opAge : Nat
  stageTimer : Nat
  startLimit : Nat
  stopPhase : Bool
  cooldown : Nat
  cause : Option FailureCause
  deriving DecidableEq, Repr

/-- Entry of the allocation queue (04). -/
structure AllocEntry where
  berth : Berth
  count : Nat
  urgency : Urgency
  queuedAt : StationTime
  deriving DecidableEq, Repr

/-- Entry of the switching queue (R67). -/
structure SwitchEntry where
  module : ModuleId
  op : QueuedOp
  deriving DecidableEq, Repr

/-- What the Module Pool Manager holds (04). -/
structure Mpm where
  module : Vector ModuleRecord 8
  alloc : List AllocEntry
  switching : List SwitchEntry
  ageA : Nat
  ageB : Nat
  ageStation : Nat
  deriving DecidableEq, Repr

/-! ## Breaker and Synchroniser -/

/-- The breaker record (05). -/
structure BreakerRecord where
  status : BreakerStatus
  ready : Bool
  offset : Nat
  command : BreakerCommand
  issue : Ext
  limit : Nat
  withdrawn : Bool
  withdrawCycle : Ext
  limitReported : Bool
  measuring : Bool
  learned : Nat
  lastMeasured : Option Nat
  mark : Bool
  deriving DecidableEq, Repr

/-- The last sync evaluation: θ, slip, advance, Δθ, θ_pred and the result of each window in the order of the table of
R88. θ, Δθ and θ_pred are absent where their steps are not made (R87). -/
structure SyncEval where
  theta : Option Int
  slip : Int
  advance : Nat
  deltaTheta : Option Int
  thetaPred : Option Int
  angleOk : Bool
  slipOk : Bool
  voltageOk : Bool
  frequencyOk : Bool
  rotationOk : Bool
  sbReady : Bool
  sbFree : Bool
  pbClosed : Bool
  deriving DecidableEq, Repr

/-- The sync record of a berth (05). -/
structure SyncRecord where
  alignment : Alignment
  collected : Nat
  firstAngle : Int
  angleSum : Int
  cableOffset : Option Int
  pNew : Option Ticks
  pOld : Option Ticks
  attempt : SyncAttempt
  stability : Nat
  lastEval : Option SyncEval
  deriving DecidableEq, Repr

/-- What the Breaker and Synchroniser holds (05). -/
structure Bsy where
  pb : Vector BreakerRecord 4
  sb : Vector BreakerRecord 4
  sync : Vector SyncRecord 4
  deriving DecidableEq, Repr

/-! ## Session Controller -/

/-- The session record of a berth (06). `pbRetry` and `pbTaken` hold what R96 and R115 ask to be remembered
(entry 24). -/
structure Session where
  state : SessionState
  number : Option Nat
  account : Option (BitVec 32)
  fnom : Option Nat
  vnom : Option Nat
  requested : Nat
  share : Nat
  stageTimer : Nat
  stageLimit : Nat
  strikes : Nat
  stepTimer : Nat
  quietCount : Nat
  quietSeconds : Nat
  settle : Nat
  endReason : Option EndReason
  pbAsked : Bool
  pbRetry : Bool
  metering : Bool
  closeIssued : Bool
  abortPending : Bool
  drain : DrainStep
  pbTaken : Bool
  gensMayDisconnect : Bool
  gensStart : Bool
  ship : ShipState
  shipOutput : Int
  starting : Nat
  bound : Nat
  sigma : Nat
  cap : Nat
  phase : HandoverPhase
  deriving DecidableEq, Repr

/-- What the Session Controller holds (06): the session records, the session number counter, and the headroom record. -/
structure Ses where
  berth : Vector Session 4
  nextNumber : Nat
  budget : Nat
  stationImport : Int
  incomerLost : Bool
  deriving DecidableEq, Repr

/-! ## Berth Supervision -/

/-- A count with its raised mark (07). -/
structure Filter where
  count : Nat
  raised : Bool
  deriving DecidableEq, Repr

/-- The filters of the watched points B, P and S (R126, R127). -/
structure Watched where
  bus : Filter
  plug : Filter
  ship : Filter
  deriving DecidableEq, Repr

/-- The supervision record of a berth (07). -/
structure Supervision where
  armed : Bool
  blank : Nat
  overcurrent : Filter
  voltage : Watched
  frequency : Watched
  reverse : Filter
  tripKind : Option FaultKind
  tripClass : Option FaultClass
  tripCycle : BitVec 16
  tripTime : StationTime
  laterFaults : Nat
  laterKind : Option FaultKind
  warnedKind : Option FaultKind
  warnCount : Nat
  attempts : Nat
  restartTimer : Nat
  restartDue : Bool
  deriving DecidableEq, Repr

/-! ## Station Clock and Tariff Unit -/

/-- A tariff entry (08). -/
structure TariffEntry where
  band : Nat
  mask : BitVec 8
  start : Nat
  price : Nat
  deriving DecidableEq, Repr

/-- The band in force (R145); `tariff` is the tariff mark, TARIFF when set and NO_TARIFF when clear. -/
structure Band where
  band : Nat
  price : Nat
  slot : Option Slot
  tariff : Bool
  deriving DecidableEq, Repr

/-- The demand block in progress (R147). -/
structure DemandBlock where
  start : StationTime
  elapsed : Nat
  deriving DecidableEq, Repr

/-- What is left to do of a second tick: whether its day changed, whether it has made an activation, and the band in
force before it (R137, R145, R146; entry 24). -/
structure TickWork where
  dayChange : Bool
  activated : Bool
  oldBand : Band
  deriving DecidableEq, Repr

/-- What the Station Clock and Tariff Unit holds (08). -/
structure Ctu where
  time : StationTime
  clockUnset : Bool
  phaseCount : Nat
  active : Vector (Option TariffEntry) 16
  pendingTable : Vector (Option TariffEntry) 16
  activation : Option (Nat × Nat)
  band : Band
  block : DemandBlock
  tick : Option TickWork
  deriving DecidableEq, Repr

/-! ## Meter and Billing Unit -/

/-- A band entry of a billing record (09). -/
structure BandEntry where
  band : Nat
  price : Nat
  importE : Nat
  exportE : Nat
  charge : Nat
  carry : Nat
  tariff : Bool
  deriving DecidableEq, Repr

/-- A band entry of a record in the ring: the carry is dropped at placement (09, Billing records). -/
structure ClosedEntry where
  band : Nat
  price : Nat
  importE : Nat
  exportE : Nat
  charge : Nat
  tariff : Bool
  deriving DecidableEq, Repr

/-- An open record (R157). -/
structure OpenRecord where
  session : Option Nat
  account : Option (BitVec 32)
  openedAt : StationTime
  entries : List BandEntry
  peakDemand : Nat
  substituted : Nat
  gap : Nat
  mixed : Bool
  unverified : Bool
  clockUnset : Bool
  noTariff : Bool
  deriving DecidableEq, Repr

/-- A closed record in the record ring (R159). -/
structure ClosedRecord where
  number : Nat
  session : Option Nat
  berth : Berth
  account : Option (BitVec 32)
  openedAt : StationTime
  closedAt : StationTime
  reason : CloseReason
  entries : List ClosedEntry
  peakDemand : Nat
  substituted : Nat
  gap : Nat
  mixed : Bool
  unverified : Bool
  clockUnset : Bool
  noTariff : Bool
  deriving DecidableEq, Repr

/-- Last second of a meter (R152). -/
structure LastSecond where
  energy : Nat
  direction : Direction
  rawSum : Int
  subst : Nat
  gap : Bool
  deriving DecidableEq, Repr

/-- An account boundary with all it carries (R146). -/
structure AcctBoundary where
  reason : CloseReason
  time : StationTime
  band : Nat
  price : Nat
  tariff : Bool
  clockUnset : Bool
  deriving DecidableEq, Repr

/-- A demand block end with what it carries (R147). -/
structure BlockEnd where
  start : StationTime
  length : Nat
  deriving DecidableEq, Repr

/-- The deferral of a closure (R162). -/
structure Deferral where
  reason : CloseReason
  instant : StationTime
  notedUnset : Option Bool
  split : Nat
  ended : Option (CloseReason × StationTime)
  deriving DecidableEq, Repr

/-- The meter of a berth (09). -/
structure Meter where
  running : Bool
  session : Option Nat
  account : Option (BitVec 32)
  importReg : Nat
  exportReg : Nat
  importRem : Nat
  exportRem : Nat
  price : Nat
  blockSum : Nat
  lastSecond : Option LastSecond
  lastTag : Option Ext
  heldBlock : Option BlockEnd
  heldBoundary : Option AcctBoundary
  heldFor : Ext
  record : Option OpenRecord
  deferral : Option Deferral
  finalPending : Bool
  deriving DecidableEq, Repr

/-- What the Meter and Billing Unit holds (09). `nextRecord` above 4,294,967,295 is the exhausted counter (R159). -/
structure Mbu where
  meter : Vector Meter 4
  ring : List ClosedRecord
  queue : List Berth
  nextRecord : Nat
  deriving DecidableEq, Repr

/-! ## Configuration Store: entries hold their image fields as the store holds them (R194) -/

/-- The Station entry. -/
structure StationEntry where
  importLimit : BitVec 24
  tLong : BitVec 16
  tShort : BitVec 16
  cooldown : BitVec 24
  restartDelay : BitVec 24
  controller : Byte
  deriving DecidableEq, Repr

/-- A Node entry. -/
structure NodeEntry where
  role : Byte
  target : Byte
  vfs : BitVec 16
  ifs : BitVec 16
  mirrored : Byte
  limit : Byte
  deriving DecidableEq, Repr

/-- A Berth entry. -/
structure BerthEntry where
  enabled : Byte
  maxModules : Byte
  loading : Byte
  rampRate : BitVec 16
  residual : BitVec 16
  slipTarget : BitVec 16
  closeWindow : BitVec 16
  slipMax : BitVec 16
  dvMax : Byte
  reserveLimit : BitVec 24
  energiseLimit : BitVec 24
  syncLimit : BitVec 24
  rampLimit : BitVec 24
  recallLimit : BitVec 24
  partingLimit : BitVec 16
  settle : BitVec 16
  iTrip : BitVec 16
  ocFilter : Byte
  blank : BitVec 16
  vLow : BitVec 16
  vHigh : BitVec 16
  vFilter : Byte
  reverse : BitVec 16
  deriving DecidableEq, Repr

/-- A Module entry. -/
structure ModuleEntry where
  enabled : Byte
  rating : BitVec 16
  startLimit : BitVec 16
  deriving DecidableEq, Repr

/-- A Breaker entry. -/
structure BreakerEntry where
  configured : BitVec 24
  minimum : BitVec 24
  maximum : BitVec 24
  limit : BitVec 16
  deriving DecidableEq, Repr

/-- The six configuration tables (10). -/
structure Tables where
  station : StationEntry
  node : Vector NodeEntry 31
  berth : Vector BerthEntry 4
  module : Vector ModuleEntry 8
  pb : Vector BreakerEntry 4
  sb : Vector BreakerEntry 4
  reaction : Vector Byte 13
  deriving DecidableEq, Repr

/-- The scrub walker (R177). -/
structure Walker where
  state : WalkerState
  position : Nat
  spacing : Nat
  crc : BitVec 32
  passes : Nat
  result : Option PassResult
  deriving DecidableEq, Repr

/-- What the Configuration Store holds (10). -/
structure Cfs where
  tables : Tables
  mode : Mode
  invalid : Bool
  signature : Option (BitVec 32)
  timer : Option Nat
  walker : Walker
  deriving DecidableEq, Repr

/-! ## Management Request Handler -/

/-- Latched or masked marks of the five scopes; bit `i` is flag `i` (12, Codes). -/
structure Marks where
  station : BitVec 16
  berth : Vector (BitVec 16) 4
  deriving DecidableEq, Repr

/-- What the Management Request Handler holds (11). -/
structure Mrh where
  requests : List Request
  responses : List Response
  hold : Bool
  dropped : Nat
  latched : Marks
  masked : Marks
  notices : List Notice
  deriving DecidableEq, Repr

/-! ## Events made due by a boundary or a point cycle -/

/-- An event of the part itself that is due: one for each event row of the table that a boundary or a point cycle
brings, and the deferred emission of the cycle frame (R3). -/
inductive Due where
  | emission
  | nodeLost (n : NodeIx)
  | nodeRecovered (n : NodeIx)
  | ringDown
  | ringUp
  | noCrossingTimeout (p : Point)
  | measurementSecondEnd
  | freeStep (b : Berth)
  | holdoverEntry (b : Berth)
  | moduleStartLimit (m : ModuleId)
  | moduleOperateLimit (m : ModuleId)
  | cooldownEnd (m : ModuleId)
  | switchingIssue
  | breakerOperateLimit (k : Breaker)
  | pbCloseRetry (b : Berth)
  | stageLimitExpiry (b : Berth)
  | settleEnd (b : Berth)
  | rampStep (b : Berth)
  | blankEnd (b : Berth)
  | restartDue (b : Berth)
  | restart (b : Berth)
  | secondTick
  | tariffActivation
  | demandBlockEnd
  | heldOverApply (b : Berth)
  | configTimeout
  | scrubRead
  deriving DecidableEq, Repr

/-! ## The whole state -/

/-- The state of the part. -/
structure State where
  pending : List Instr
  due : List Due
  ringOut : List RingFrame
  resetHeld : Bool
  rif : Rif
  mfe : Mfe
  rob : Vector Osc 4
  mpm : Mpm
  bsy : Bsy
  ses : Ses
  sup : Vector Supervision 4
  ctu : Ctu
  mbu : Mbu
  cfs : Cfs
  mrh : Mrh
  deriving DecidableEq, Repr

/-- Reasons the machine stops with a fault: none. Nothing in the spec stops the part; a berth's fault is a change of
state (R129 to R131). -/
inductive Fault where
  deriving DecidableEq, Repr

/-- Reasons a command is refused. -/
inductive Refusal where
  /-- The command has no meaning yet in this model. Raised by no meaning; safe, since the machine stops. -/
  | notModelled (mnemonic : String)
  deriving DecidableEq, Repr

/-! ## Reset values -/

/-- Station time after reset (R138). -/
def zeroTime : StationTime := ⟨0, 0, 0⟩

/-- A health record after reset (R16). -/
def Health.reset : Health := ⟨0, false, false⟩

/-- A measurement record after reset (R34). -/
def MeasRecord.reset : MeasRecord :=
  { heldV := triOf 0, heldI := triOf 0, armed := triOf false, lastCross := triOf none, period := 0, freq := 0,
    stale := true, rms := triOf 0, pointRms := 0, lineVolts := 0, permille := triOf none, pointPermille := none,
    rotation := .unknown, substCount := 0, window := ⟨triOf 0, 0⟩, peak := 0, acc := 0, tally := 0, substTally := 0,
    rawSum := 0, lastPower := 0, lastSubst := 0 }

/-- An oscillator record after reset (R35). -/
def Osc.reset : Osc :=
  { phase := 0, k := 53687091, fset := 50000, fnom := 50000, mode := .free, slew := 0, watchdog := 0, holdover := false }

/-- A module record after reset (R71). -/
def ModuleRecord.reset : ModuleRecord :=
  { state := .free, berth := none, reported := .stopped, kva := 0, breaker := .open, selector := .none, output := 0,
    run := .stop, op := .none, opAge := 0, stageTimer := 0, startLimit := 0, stopPhase := false, cooldown := 0,
    cause := none }

/-- A breaker record after reset (R74). The withdrawal cycle, of no meaning while withdrawn is clear, is 0: DESIGN
CHOICE, entry 29. -/
def BreakerRecord.reset : BreakerRecord :=
  { status := .open, ready := false, offset := 0, command := .none, issue := 0, limit := 0, withdrawn := false,
    withdrawCycle := 0, limitReported := false, measuring := false, learned := 100000, lastMeasured := none, mark := false }

/-- A sync record after reset (R83). -/
def SyncRecord.reset : SyncRecord :=
  { alignment := .inactive, collected := 0, firstAngle := 0, angleSum := 0, cableOffset := none, pNew := none, pOld := none,
    attempt := .inactive, stability := 0, lastEval := none }

/-- A session record after reset (R93). -/
def Session.reset : Session :=
  { state := .idle, number := none, account := none, fnom := none, vnom := none, requested := 1, share := 0,
    stageTimer := 0, stageLimit := 0, strikes := 0, stepTimer := 0, quietCount := 0, quietSeconds := 0, settle := 0,
    endReason := none, pbAsked := false, pbRetry := false, metering := false, closeIssued := false, abortPending := false,
    drain := .done, pbTaken := false, gensMayDisconnect := false, gensStart := false, ship := .genSupply, shipOutput := 0,
    starting := 0, bound := 0, sigma := 0, cap := 0, phase := .none }

/-- A filter at rest (07). -/
def Filter.clear : Filter := ⟨0, false⟩

/-- The filters of three watched points at rest (07). -/
def Watched.clear : Watched := ⟨Filter.clear, Filter.clear, Filter.clear⟩

/-- A supervision record after reset (R123). -/
def Supervision.reset : Supervision :=
  { armed := false, blank := 0, overcurrent := Filter.clear, voltage := Watched.clear, frequency := Watched.clear,
    reverse := Filter.clear, tripKind := none, tripClass := none, tripCycle := 0, tripTime := zeroTime, laterFaults := 0,
    laterKind := none, warnedKind := none, warnCount := 0, attempts := 0, restartTimer := 0, restartDue := false }

/-- The band in force with every slot of the active table empty (R138, R145). -/
def Band.noTariff : Band := ⟨0, 0, none, false⟩

/-- The Station Clock and Tariff Unit after reset (R138). The weekday of the block's start is 0: DESIGN CHOICE,
entry 29. -/
def Ctu.reset : Ctu :=
  { time := zeroTime, clockUnset := true, phaseCount := 0, active := Vector.replicate 16 none,
    pendingTable := Vector.replicate 16 none, activation := none, band := Band.noTariff, block := ⟨zeroTime, 0⟩,
    tick := none }

/-- A meter after reset (R149). -/
def Meter.reset : Meter :=
  { running := false, session := none, account := none, importReg := 0, exportReg := 0, importRem := 0, exportRem := 0,
    price := 0, blockSum := 0, lastSecond := none, lastTag := none, heldBlock := none, heldBoundary := none, heldFor := 0,
    record := none, deferral := none, finalPending := false }

/-- The Station entry's reset contents (R168). -/
def StationEntry.reset : StationEntry :=
  { importLimit := 20000, tLong := 2000, tShort := 400, cooldown := 30000, restartDelay := 30000, controller := 31 }

/-- A Node entry's reset contents (R168): role NONE, target 0. -/
def NodeEntry.reset : NodeEntry :=
  { role := 0, target := 0, vfs := 10000, ifs := 1000, mirrored := 0, limit := 8 }

/-- A Berth entry's reset contents (R168): the defaults of 03, 05, 06 and 07. -/
def BerthEntry.reset : BerthEntry :=
  { enabled := 0, maxModules := 2, loading := 95, rampRate := 500, residual := 100, slipTarget := 100, closeWindow := 1000,
    slipMax := 200, dvMax := 50, reserveLimit := 600000, energiseLimit := 120000, syncLimit := 90000, rampLimit := 300000,
    recallLimit := 180000, partingLimit := 5000, settle := 2000, iTrip := 2000, ocFilter := 8, blank := 200, vLow := 900,
    vHigh := 1100, vFilter := 5, reverse := 200 }

/-- A Module entry's reset contents (R168). -/
def ModuleEntry.reset : ModuleEntry := { enabled := 0, rating := 1000, startLimit := 20000 }

/-- A Breaker entry's reset contents (R168). -/
def BreakerEntry.reset : BreakerEntry := { configured := 100000, minimum := 20000, maximum := 300000, limit := 1000 }

/-- The Reaction Table's reset contents, as class codes 0 WARN, 1 ERROR, 2 RESTART, 3 LATCHED (R122, R168). -/
def reactionReset : Vector Byte 13 := #v[3, 1, 0, 1, 3, 1, 1, 1, 1, 1, 1, 2, 0]

/-- The tables' reset contents (R168). -/
def Tables.reset : Tables :=
  { station := StationEntry.reset, node := Vector.replicate 31 NodeEntry.reset, berth := Vector.replicate 4 BerthEntry.reset,
    module := Vector.replicate 8 ModuleEntry.reset, pb := Vector.replicate 4 BreakerEntry.reset,
    sb := Vector.replicate 4 BreakerEntry.reset, reaction := reactionReset }

/-- The scrub walker after reset: STOPPED (R168). Its position, spacing count, CRC, pass count and result, of no meaning
until a pass starts, are 0, 0, all ones, 0 and absent: DESIGN CHOICE, entry 29. -/
def Walker.reset : Walker :=
  { state := .stopped, position := 0, spacing := 0, crc := 0xFFFFFFFF, passes := 0, result := none }

/-- The Configuration Store after reset (R168). -/
def Cfs.reset : Cfs :=
  { tables := Tables.reset, mode := .config, invalid := false, signature := none, timer := none, walker := Walker.reset }

/-- Marks of every scope clear (R186). -/
def Marks.clear : Marks := ⟨0, Vector.replicate 4 0⟩

/-- The Management Request Handler after reset (R191). -/
def Mrh.reset : Mrh :=
  { requests := [], responses := [], hold := false, dropped := 0, latched := Marks.clear, masked := Marks.clear,
    notices := [] }

/-- The Ring Interface after reset (R16). -/
def Rif.reset : Rif :=
  { started := false, cycle := 0, ext := 0, cycleOperate := false, ring := .up, miss := 0, ret := 0, returned := false,
    health := Vector.replicate 31 Health.reset, taken := Vector.replicate 31 false, fresh := Vector.replicate 31 false,
    pointsFed := [], insertion := [], current := [], previous := [], lastUnknown := none }

/-- The Measurement Front End after reset (R34). -/
def Mfe.reset : Mfe :=
  { bus := Vector.replicate 4 MeasRecord.reset, plug := Vector.replicate 4 MeasRecord.reset,
    ship := Vector.replicate 4 MeasRecord.reset, incomer := MeasRecord.reset }

/-- The Module Pool Manager after reset (R71). -/
def Mpm.reset : Mpm :=
  { module := Vector.replicate 8 ModuleRecord.reset, alloc := [], switching := [], ageA := 40000, ageB := 40000,
    ageStation := 40000 }

/-- The Breaker and Synchroniser after reset (R74, R83). -/
def Bsy.reset : Bsy :=
  { pb := Vector.replicate 4 BreakerRecord.reset, sb := Vector.replicate 4 BreakerRecord.reset,
    sync := Vector.replicate 4 SyncRecord.reset }

/-- The Session Controller after reset (R93, R105). -/
def Ses.reset : Ses :=
  { berth := Vector.replicate 4 Session.reset, nextNumber := 1, budget := 0, stationImport := 0, incomerLost := false }

/-- The Meter and Billing Unit after reset (R149). -/
def Mbu.reset : Mbu := { meter := Vector.replicate 4 Meter.reset, ring := [], queue := [], nextRecord := 1 }

/-- The part right after its reset line is released, before its first cycle frame (R16, R34, R35, R71, R74, R83, R93,
R123, R138, R149, R168, R191). -/
def State.reset : State :=
  { pending := [], due := [], ringOut := [], resetHeld := false, rif := Rif.reset, mfe := Mfe.reset,
    rob := Vector.replicate 4 Osc.reset, mpm := Mpm.reset, bsy := Bsy.reset, ses := Ses.reset,
    sup := Vector.replicate 4 Supervision.reset, ctu := Ctu.reset, mbu := Mbu.reset, cfs := Cfs.reset, mrh := Mrh.reset }

end Sys2Proof.Machine
end

