-- ==== Sys2Proof/Machine/Ops.lean ====
section
/-! DEFINITION. The named operations over the state's records, and the byte, angle and CRC arithmetic that every block
uses. Nothing else reads or writes a vector of records. -/

namespace Sys2Proof.Machine

open Sys2Proof

/-! ## Vectors of records -/

/-- Record `i` of a vector. -/
def vget {α : Type} {n : Nat} (v : Vector α n) (i : Fin n) : α := v.get i

/-- A vector with record `i` replaced. -/
def vset {α : Type} {n : Nat} (v : Vector α n) (i : Fin n) (x : α) : Vector α n := v.set i.val x i.isLt

/-- A vector with every record replaced by a function of its number and itself. -/
def vmapIx {α β : Type} {n : Nat} (f : Fin n → α → β) (v : Vector α n) : Vector β n := Vector.ofFn (fun i => f i (vget v i))

/-- The records of a vector, lowest number first. -/
def vlist {α : Type} {n : Nat} (v : Vector α n) : List α := (List.finRange n).map (vget v)

/-- A state change made for each number in turn, lowest first. -/
def forEach {σ : Type} {n : Nat} (f : Fin n → σ → σ) (s : σ) : σ := (List.finRange n).foldl (fun s i => f i s) s

/-! ## Bytes and numbers (12: most significant byte first, two's complement) -/

/-- The low `w` bytes of a number, most significant first. -/
def bytesOf : Nat → Nat → List Byte
  | 0, _ => []
  | w + 1, n => BitVec.ofNat 8 (n / 256 ^ w) :: bytesOf w n

/-- The number that bytes carry, most significant first. -/
def natOf (l : List Byte) : Nat := l.foldl (fun acc b => acc * 256 + b.toNat) 0

/-- `w` bytes of a signed number in two's complement. -/
def bytesOfInt (w : Nat) (z : Int) : List Byte := bytesOf w (z % (256 ^ w : Nat)).toNat

/-- The signed number that bytes carry in two's complement. -/
def intOf (l : List Byte) : Int :=
  if 2 * natOf l < 256 ^ l.length then (natOf l : Int) else (natOf l : Int) - (256 ^ l.length : Nat)

/-- `w` bytes from offset `i`. -/
def field (l : List Byte) (i w : Nat) : List Byte := (l.drop i).take w

/-- The byte at offset `i`, 0 past the end. -/
def byteAt (l : List Byte) (i : Nat) : Byte := (l[i]?).getD 0

/-- A yes/no field: 1 for yes or set, 0 for no or clear (12). -/
def boolByte (b : Bool) : Byte := if b then 1 else 0

/-! ## CRC (R192, R194) -/

/-- One bit into a CRC register of any width: the top bit is exclusive-ored with the data bit, the register shifts left,
and the polynomial is exclusive-ored in when that gave 1. -/
def crcBit {w : Nat} (poly reg : BitVec w) (bit : Bool) : BitVec w :=
  if reg.msb != bit then (reg <<< 1) ^^^ poly else reg <<< 1

/-- One byte into a CRC register, most significant bit first. -/
def crcByte {w : Nat} (poly reg : BitVec w) (b : Byte) : BitVec w :=
  [7, 6, 5, 4, 3, 2, 1, 0].foldl (fun r i => crcBit poly r (b.getLsbD i)) reg

/-- Bytes into a CRC register in order. -/
def crcFold {w : Nat} (poly reg : BitVec w) (l : List Byte) : BitVec w := l.foldl (crcByte poly) reg

/-- The CRC-16 of a frame's header and body (R192). -/
def crc16 (l : List Byte) : BitVec 16 := crcFold 0x8005 0xFFFF l

/-- The CRC-32 register after more image bytes (R194). -/
def crc32Fold (reg : BitVec 32) (l : List Byte) : BitVec 32 := crcFold 0x04C11DB7 reg l

/-- The CRC-32 register's initial value, all ones (R194). -/
def crc32Init : BitVec 32 := 0xFFFFFFFF

/-! ## Angles, times and counters -/

/-- An angle folded to −18000..+17999 cd by whole multiples of 36000 (00, Units). -/
def foldAngle (z : Int) : Int := (z + 18000) % 36000 - 18000

/-- A difference of 32-bit times read signed (R84, R87). -/
def signedDiff (a b : Ticks) : Int := (a - b).toInt

/-- A configured time in ms turned into cycles, four to the ms (00, Time). -/
def msCycles (ms : Nat) : Nat := 4 * ms

/-- Whether one station time lies before or at another; the weekday takes no part (R137). -/
def timeAtOrBefore (day second : Nat) (t : StationTime) : Bool := day < t.day || (day == t.day && second ≤ t.second)

/-- A result in a field of `w` bits. The spec states no value for one that does not fit: DESIGN CHOICE, entries 12 and 25, a free
value of the field's width. -/
def fitWidth (w n : Nat) : Nat := if n < 2 ^ w then n else (Config.overflow w n).toNat

/-- A sum into a counter of `w` bits. -/
def addWidth (w a b : Nat) : Nat := fitWidth w (a + b)

/-- A count that stays at a highest value (R21, R130, R131, R154, R177, R181). -/
def satAdd (top a b : Nat) : Nat := min top (a + b)

/-! ## The state's records -/

/-- The state at the start of a step: nothing sent yet in it (entry 5). -/
def State.quiet (s : State) : State := { s with ringOut := [] }

/-- The state after sending frames on the ring output, in order. -/
def State.send (s : State) (l : List RingFrame) : State := { s with ringOut := s.ringOut ++ l }

/-- The state with more events due, after those that already are. -/
def State.addDue (s : State) (l : List Due) : State := { s with due := s.due ++ l }

/-- The state with an event due added once. -/
def State.addDueOnce (s : State) (d : Due) : State := if d ∈ s.due then s else { s with due := s.due ++ [d] }

/-- The current extended cycle count. -/
def State.ext (s : State) : Ext := s.rif.ext

/-- The extended cycle count of the cycle that the last boundary ended. -/
def State.endedExt (s : State) : Ext := s.rif.ext - 1

/-- Whether the part is in OPERATE mode. -/
def State.operating (s : State) : Bool := s.cfs.mode == .operate

/-- The session record of berth `b`. -/
def State.session (s : State) (b : Berth) : Session := vget s.ses.berth b

/-- The state with berth `b`'s session record replaced. -/
def State.setSession (s : State) (b : Berth) (r : Session) : State := { s with ses := { s.ses with berth := vset s.ses.berth b r } }

/-- The oscillator record of berth `b`. -/
def State.osc (s : State) (b : Berth) : Osc := vget s.rob b

/-- The state with berth `b`'s oscillator record replaced. -/
def State.setOsc (s : State) (b : Berth) (r : Osc) : State := { s with rob := vset s.rob b r }

/-- The record of module `m`. -/
def State.module (s : State) (m : ModuleId) : ModuleRecord := vget s.mpm.module m

/-- The state with module `m`'s record replaced. -/
def State.setModule (s : State) (m : ModuleId) (r : ModuleRecord) : State :=
  { s with mpm := { s.mpm with module := vset s.mpm.module m r } }

/-- The record of a breaker. -/
def State.breaker (s : State) (k : Breaker) : BreakerRecord :=
  match k with
  | .pb b => vget s.bsy.pb b
  | .sb b => vget s.bsy.sb b

/-- The state with a breaker's record replaced. -/
def State.setBreaker (s : State) (k : Breaker) (r : BreakerRecord) : State :=
  match k with
  | .pb b => { s with bsy := { s.bsy with pb := vset s.bsy.pb b r } }
  | .sb b => { s with bsy := { s.bsy with sb := vset s.bsy.sb b r } }

/-- The sync record of berth `b`. -/
def State.sync (s : State) (b : Berth) : SyncRecord := vget s.bsy.sync b

/-- The state with berth `b`'s sync record replaced. -/
def State.setSync (s : State) (b : Berth) (r : SyncRecord) : State :=
  { s with bsy := { s.bsy with sync := vset s.bsy.sync b r } }

/-- The supervision record of berth `b`. -/
def State.superv (s : State) (b : Berth) : Supervision := vget s.sup b

/-- The state with berth `b`'s supervision record replaced. -/
def State.setSuperv (s : State) (b : Berth) (r : Supervision) : State := { s with sup := vset s.sup b r }

/-- The meter of berth `b`. -/
def State.meter (s : State) (b : Berth) : Meter := vget s.mbu.meter b

/-- The state with berth `b`'s meter replaced. -/
def State.setMeter (s : State) (b : Berth) (r : Meter) : State := { s with mbu := { s.mbu with meter := vset s.mbu.meter b r } }

/-- The measurement record of a point. -/
def State.meas (s : State) (p : Point) : MeasRecord :=
  match p with
  | .bus b => vget s.mfe.bus b
  | .plug b => vget s.mfe.plug b
  | .ship b => vget s.mfe.ship b
  | .incomer => s.mfe.incomer

/-- The state with a point's measurement record replaced. -/
def State.setMeas (s : State) (p : Point) (r : MeasRecord) : State :=
  match p with
  | .bus b => { s with mfe := { s.mfe with bus := vset s.mfe.bus b r } }
  | .plug b => { s with mfe := { s.mfe with plug := vset s.mfe.plug b r } }
  | .ship b => { s with mfe := { s.mfe with ship := vset s.mfe.ship b r } }
  | .incomer => { s with mfe := { s.mfe with incomer := r } }

/-- The health record of a node. -/
def State.health (s : State) (n : NodeIx) : Health := vget s.rif.health n

/-- The state with a node's health record replaced. -/
def State.setHealth (s : State) (n : NodeIx) (r : Health) : State :=
  { s with rif := { s.rif with health := vset s.rif.health n r } }

/-- The configuration tables. -/
def State.tables (s : State) : Tables := s.cfs.tables

/-- The Node entry of a node. -/
def State.nodeEntry (s : State) (n : NodeIx) : NodeEntry := vget s.cfs.tables.node n

/-- The Berth entry of berth `b`. -/
def State.berthEntry (s : State) (b : Berth) : BerthEntry := vget s.cfs.tables.berth b

/-- The Module entry of module `m`. -/
def State.moduleEntry (s : State) (m : ModuleId) : ModuleEntry := vget s.cfs.tables.module m

/-- The Breaker entry of a breaker. -/
def State.breakerEntry (s : State) (k : Breaker) : BreakerEntry :=
  match k with
  | .pb b => vget s.cfs.tables.pb b
  | .sb b => vget s.cfs.tables.sb b

/-- The berth a breaker belongs to. -/
def breakerBerth (k : Breaker) : Berth :=
  match k with
  | .pb b => b
  | .sb b => b

end Sys2Proof.Machine
end

