-- ==== Sys2Proof/Machine/Flags.lean ====
section
/-! DEFINITION. The event flags: latching an event in a scope and gathering it into the scope's notice (R186, R189), and
the HOLD flag with the count it follows (R181, R185). -/

namespace Sys2Proof.Machine

open Sys2Proof

/-- The number of a station flag (12, Codes). -/
def stationFlagNumber (f : StationFlag) : Nat :=
  match f with
  | .unknownNode => 0 | .nodeLost => 1 | .nodeRecovered => 2 | .ringDown => 3 | .ringUp => 4 | .moduleFailed => 5
  | .importHigh => 6 | .tariffActivated => 7 | .recordReady => 8 | .recordRingFull => 9 | .configTimeout => 10
  | .configInvalid => 11 | .configValid => 12 | .requestDropped => 13

/-- The number of a berth flag (12, Codes). -/
def berthFlagNumber (f : BerthFlag) : Nat :=
  match f with
  | .capacityLost => 0 | .closeMeasured => 1 | .sessionConnected => 2 | .shoreSupply => 3 | .shipReturned => 4
  | .sessionEnded => 5 | .stageSlow => 6 | .syncTimeout => 7 | .recallTimeout => 8 | .handoverFailed => 9 | .warn => 10
  | .trip => 11 | .restart => 12

/-- How many flags a scope has (11, Event status). -/
def scopeFlagCount (c : Scope) : Nat :=
  match c with
  | .station => 14
  | .berth _ => 13

/-- The marks of a scope. -/
def Marks.get (m : Marks) (c : Scope) : BitVec 16 :=
  match c with
  | .station => m.station
  | .berth b => vget m.berth b

/-- Marks with a scope's replaced. -/
def Marks.set (m : Marks) (c : Scope) (v : BitVec 16) : Marks :=
  match c with
  | .station => { m with station := v }
  | .berth b => { m with berth := vset m.berth b v }

/-- A flag added to its scope's notice: to the one queued, not twice, or to a new one at the back (R189). The order among flags that one
event latches, which R189 does not give, is that of the definitions that latch them (DESIGN CHOICE, entry 44). -/
def addToNotice (l : List Notice) (c : Scope) (n : Nat) : List Notice :=
  if l.any (fun x => x.scope == c) then
    l.map (fun x => if x.scope == c && !(x.flags.contains n) then { x with flags := x.flags ++ [n] } else x)
  else l ++ [⟨c, [n]⟩]

/-- An event raised in a scope (R186): a latched flag changes nothing; a clear one is latched, and joins a notice when it
is not masked. -/
def latchNumber (m : Mrh) (c : Scope) (n : Nat) : Mrh :=
  if (m.latched.get c).getLsbD n then m
  else
    { m with
      latched := m.latched.set c (m.latched.get c ||| (1#16 <<< n))
      notices := if (m.masked.get c).getLsbD n then m.notices else addToNotice m.notices c n }

/-- A station event latched. -/
def State.latchStation (s : State) (f : StationFlag) : State :=
  { s with mrh := latchNumber s.mrh .station (stationFlagNumber f) }

/-- A berth event latched. -/
def State.latchBerth (s : State) (b : Berth) (f : BerthFlag) : State :=
  { s with mrh := latchNumber s.mrh (.berth b) (berthFlagNumber f) }

/-- The count of MRH: requests queued plus responses waiting (R181). -/
def Mrh.count (m : Mrh) : Nat := m.requests.length + m.responses.length

/-- HOLD after the count has changed: set at 12, cleared at 4, kept between (R185). -/
def holdAfter (count : Nat) (old : Bool) : Bool := if 12 ≤ count then true else if count ≤ 4 then false else old

/-- MRH with HOLD brought up to its count. -/
def Mrh.updateHold (m : Mrh) : Mrh := { m with hold := holdAfter m.count m.hold }

end Sys2Proof.Machine
end

