-- ==== Sys2Proof/WellFormed.lean ====
section
/-! DEFINITION. When a command is well formed. Every operand but a frame's length has a type that holds only its
legal values; what is left to check is that an arriving frame has been received whole (R1). A frame cut short is no
well-formed arrival; its meaning is to be neither forwarded nor used. -/

namespace Sys2Proof

/-- A frame received whole: the body holds as many bytes as the header's length field says (R1, R192). -/
def Arrival.whole (f : Arrival) : Bool := f.body.length == f.length.toNat

/-- The well-formedness check of a command. -/
def Instr.wellFormed (i : Instr) : Bool :=
  match i with
  | .cycReturn f => f.whole
  | .ownFrameReturn _ f => f.whole
  | .foreignFrame _ f => f.whole
  | .corruptFrame _ f => f.whole
  | .smpDelivery f => f.whole
  | .modDelivery _ f => f.whole
  | .brkDelivery _ f => f.whole
  | .siuDelivery _ f => f.whole
  | .requestFrame f => f.whole
  | .resetAssert | .resetRelease | .firstCycleFrame => true
  | .cycleBoundary _ => true
  | .nodeLost _ | .nodeRecovered _ => true
  | .ringDown | .ringUp => true
  | .noCrossingTimeout _ => true
  | .measurementSecondEnd _ => true
  | .freeStep _ | .holdoverEntry _ => true
  | .moduleStartLimit _ | .moduleOperateLimit _ | .cooldownEnd _ => true
  | .switchingIssue => true
  | .breakerOperateLimit _ => true
  | .pbCloseRetry _ | .stageLimitExpiry _ | .settleEnd _ | .rampStep _ => true
  | .blankEnd _ | .restartDue _ | .restart _ => true
  | .secondTick | .tariffActivation | .demandBlockEnd => true
  | .heldOverApply _ => true
  | .configTimeout | .scrubRead => true
  | .readTableEntry | .writeTableEntry | .commit | .enterConfiguration => true
  | .setClock | .writeTariffEntry | .activateTariff | .cancelActivation => true
  | .openSession | .handoverIn | .abortHandover | .handoverOut => true
  | .closeSession | .abortSession | .clearFault => true
  | .blockModule | .unblockModule | .markBreaker => true
  | .readBilling | .releaseBilling | .readMeter | .ringSurvey => true
  | .readStatus | .readEvents | .clearEvents | .setEventMask => true

end Sys2Proof
end

