-- ==== Sys2Proof/Machine/Operands.lean ====
section
/-! DEFINITION. The operand forms: the bytes of frames (R192, R193), the codes of named fields, the entry images and their
ranges (R194, R170, R172), the entry indices, and the look-ups of the Node Table that say which node feeds what (R8, R17). -/

namespace Sys2Proof.Machine

open Sys2Proof

/-! ## Codes (12) -/

/-- Kind number 0..7 of a kind (R192). -/
def kindNumber (k : FrameKind) : Nat :=
  match k with
  | .cyc => 0 | .smp => 1 | .mod => 2 | .brk => 3 | .siu => 4 | .mrq => 5 | .mrs => 6 | .evn => 7

/-- The kind of a number below 8 (R192). -/
def kindOf (n : BitVec 3) : FrameKind :=
  if n = 0 then .cyc else if n = 1 then .smp else if n = 2 then .mod else if n = 3 then .brk else if n = 4 then .siu
  else if n = 5 then .mrq else if n = 6 then .mrs else .evn

/-- The role a role byte encodes; 7..255 encode none (R194). -/
def roleOf (b : Byte) : Option Role :=
  if b = 0 then some .none else if b = 1 then some .station else if b = 2 then some .muBerth else if b = 3 then some .muIncomer
  else if b = 4 then some .module else if b = 5 then some .plugBu else if b = 6 then some .siu else none

/-- A yes/no byte of the store. 2..255 encode no value and only an upset of the store brings them: a free value (entry 11). -/
def flagOf (b : Byte) : Bool := if b = 0 then false else if b = 1 then true else Config.undefinedFlag b

/-- The class of a class number (12, Codes). -/
def classOfNumber (n : Fin 4) : FaultClass :=
  match n with
  | 0 => .warn | 1 => .error | 2 => .restart | 3 => .latched

/-- The class a Reaction byte gives. 4..255 encode no value: a free value (entry 11). -/
def classOf (b : Byte) : FaultClass :=
  if h : b.toNat < 4 then classOfNumber ⟨b.toNat, h⟩ else classOfNumber (Config.undefinedClass b)

/-- The Reaction entry of a fault kind (R122). -/
def faultNumber (k : FaultKind) : Fin 13 :=
  match k with
  | .overcurrent => 0 | .busVoltage => 1 | .busFrequency => 2 | .reversePower => 3 | .phasing => 4 | .sbFail => 5
  | .pbFail => 6 | .sbOpened => 7 | .shipEsd => 8 | .meterLost => 9 | .shipLinkLost => 10 | .plugUnitLost => 11
  | .lockLost => 12

/-- Code of a session state (12, Codes). -/
def sessionStateCode (st : SessionState) : Nat :=
  match st with
  | .idle => 0 | .reserving => 1 | .energising => 2 | .connected => 3 | .syncing => 4 | .parallel => 5 | .rampIn => 6
  | .shore => 7 | .recall => 8 | .rampOut => 9 | .parting => 10 | .draining => 11 | .faulted => 12

/-- Code of a handover phase (12, Codes). -/
def phaseCode (p : HandoverPhase) : Nat :=
  match p with
  | .none => 0 | .cableLive => 1 | .sync => 2 | .parallel => 3 | .shoreSupply => 4 | .recall => 5 | .parting => 6

/-- Code of a refusal reason (12, Codes). -/
def reasonCode (r : Reason) : Nat :=
  match r with
  | .state => 1 | .mode => 2 | .range => 3 | .locked => 4 | .signature => 5 | .inconsistent => 6 | .unknown => 7
  | .noRecord => 8 | .sequence => 9 | .billingFull => 10 | .pending => 11 | .source => 12

/-- Code of a response kind (R192). -/
def answerKindCode (k : AnswerKind) : Nat :=
  match k with
  | .done => 0 | .accepted => 1 | .refused => 2

/-- Code of the mode (12, Codes). -/
def modeCode (m : Mode) : Nat :=
  match m with
  | .config => 0 | .operate => 1

/-- Number of a scope, 0 the station, 1 to 4 berths 0 to 3 (R187). -/
def scopeNumber (c : Scope) : Nat :=
  match c with
  | .station => 0
  | .berth b => b.val + 1

/-- The scope of a number (R187). -/
def scopeOf (n : Nat) : Option Scope :=
  if n = 0 then some .station else if h : n - 1 < 4 then some (.berth ⟨n - 1, h⟩) else none

/-- The berth of a byte, absent outside 0..3. -/
def berthOf (b : Byte) : Option Berth := if h : b.toNat < 4 then some ⟨b.toNat, h⟩ else none

/-- The module of a byte, absent outside 0..7. -/
def moduleOf (b : Byte) : Option ModuleId := if h : b.toNat < 8 then some ⟨b.toNat, h⟩ else none

/-- The breaker of a byte, 0..3 PB0..PB3 and 4..7 SB0..SB3 (R195). -/
def breakerOf (b : Byte) : Option Breaker :=
  if h : b.toNat < 4 then some (.pb ⟨b.toNat, h⟩) else if h : b.toNat - 4 < 4 then some (.sb ⟨b.toNat - 4, h⟩) else none

/-- The Node entry index of a ring address; addresses outside 1..31 have none. -/
def nodeOf (a : Byte) : Option NodeIx := if h : 1 ≤ a.toNat ∧ a.toNat - 1 < 31 then some ⟨a.toNat - 1, h.2⟩ else none

/-- The ring address of a Node entry. -/
def nodeAddress (n : NodeIx) : Byte := BitVec.ofNat 8 (n.val + 1)

/-! ## Frames -/

/-- The seven header bytes (R192). -/
def headerBytes (f : RingFrame) : List Byte :=
  [f.dest, f.source, f.kindByte] ++ bytesOf 2 f.length.toNat ++ bytesOf 2 f.cycle.toNat

/-- The CRC-16 computed over a frame's header and body (R192). -/
def frameCrc (f : RingFrame) : BitVec 16 := crc16 (headerBytes f ++ f.body)

/-- An arriving frame as a ring frame of the kind nibble given. -/
def arrivalFrame (k : BitVec 4) (f : Arrival) : RingFrame :=
  { dest := f.dest, source := f.source, kindByte := f.kindHigh ++ k, length := f.length, cycle := f.cycle, body := f.body,
    crc := f.crc }

/-- A frame that the part builds: source 0, high kind bits 0, its CRC computed (R192, R10). -/
def ownFrame (dest : Byte) (k : FrameKind) (cycle : BitVec 16) (body : List Byte) : RingFrame :=
  let f : RingFrame :=
    { dest := dest, source := 0, kindByte := BitVec.ofNat 8 (kindNumber k), length := BitVec.ofNat 16 body.length,
      cycle := cycle, body := body, crc := 0 }
  { f with crc := frameCrc f }

/-- A frame forwarded rewritten: the body given, the header as received, the CRC computed afresh (R1, R192). -/
def rewriteFrame (f : RingFrame) (body : List Byte) : RingFrame :=
  let g : RingFrame := { f with body := body }
  { g with crc := frameCrc g }

/-- Whether the body length is one the kind allows (R4, R192). -/
def lengthGood (k : FrameKind) (n : Nat) : Bool :=
  match k with
  | .cyc => n == 14
  | .smp => n == 12
  | .mod => n == 23
  | .brk => n == 4
  | .siu => n == 25
  | .mrq => 3 ≤ n && n ≤ 50
  | .mrs => 5 ≤ n && n ≤ 2048
  | .evn => 5 ≤ n && n ≤ 18

/-- The length check and then the CRC check of a frame of kind 0 to 7 (R4). -/
def checksGood (k : FrameKind) (f : RingFrame) : Bool := lengthGood k f.length.toNat && frameCrc f == f.crc

/-- The role that matches a kind in the source check (R5). -/
def roleMatches (k : FrameKind) (r : Role) : Bool :=
  match k with
  | .smp => r == .muBerth || r == .muIncomer
  | .mod => r == .module
  | .brk => r == .plugBu
  | .siu => r == .siu
  | .cyc | .mrq | .mrs | .evn => false

/-! ## Delivered fields (R192, R193) -/

/-- Three samples from offset `i`. -/
def samplesAt (body : List Byte) (i : Nat) : Tri Int :=
  ⟨intOf (field body i 2), intOf (field body (i + 2) 2), intOf (field body (i + 4) 2)⟩

/-- Reported state; undefined values read as FAULT (R193). -/
def reportedOf (b : Byte) : ReportedState :=
  if b = 0 then .stopped else if b = 1 then .starting else if b = 2 then .running else .fault

/-- Breaker status; undefined values read as FAULT (R193). -/
def statusOf (b : Byte) : BreakerStatus := if b = 0 then .open else if b = 1 then .closed else if b = 2 then .moving else .fault

/-- Selector position; undefined values read as a position matching no berth (R193). -/
def selectorOf (b : Byte) : Selector :=
  if b = 0 then .none else match berthOf (b - 1) with
    | some x => .berth x
    | none => .unmatched

/-- Ready flag; undefined values read as clear (R193). -/
def readyOf (b : Byte) : Bool := b == 1

/-- Contact offset; 250..255 read as 249 (R193). -/
def offsetOf (b : Byte) : Nat := min 249 b.toNat

/-- Ship state; undefined values read as the one last delivered (R193). -/
def shipOf (old : ShipState) (b : Byte) : ShipState :=
  if b = 0 then .genSupply else if b = 1 then .readyForShore else if b = 2 then .genOff else if b = 3 then .genParallel
  else if b = 4 then .shipEsd else old

/-! ## Entry images (R194) -/

/-- An entry of the six tables. -/
inductive EntryRef where
  | station
  | node (n : NodeIx)
  | berth (b : Berth)
  | module (m : ModuleId)
  | breaker (k : Breaker)
  | reaction (i : Fin 13)
  deriving DecidableEq, Repr

/-- The entry that a table code and an entry number name; absent outside the six tables or a table's range (R169, R195). -/
def entryNamed (table entry : Byte) : Option EntryRef :=
  if table = 0 then (if entry = 0 then some .station else none)
  else if table = 1 then (nodeOf entry).map .node
  else if table = 2 then (berthOf entry).map .berth
  else if table = 3 then (moduleOf entry).map .module
  else if table = 4 then (breakerOf entry).map .breaker
  else if table = 5 then (if h : entry.toNat < 13 then some (.reaction ⟨entry.toNat, h⟩) else none)
  else none

/-- Table code and entry number of an entry, as a refusal names it (R195). -/
def entryCodes (e : EntryRef) : Nat × Nat :=
  match e with
  | .station => (0, 0)
  | .node n => (1, n.val + 1)
  | .berth b => (2, b.val)
  | .module m => (3, m.val)
  | .breaker (.pb b) => (4, b.val)
  | .breaker (.sb b) => (4, b.val + 4)
  | .reaction i => (5, i.val)

/-- The entries in entry index order, 0 to 64 (10). -/
def allEntries : List EntryRef :=
  [.station] ++ (List.finRange 31).map .node ++ (List.finRange 4).map .berth ++ (List.finRange 8).map .module
    ++ (List.finRange 4).map (fun b => .breaker (.pb b)) ++ (List.finRange 4).map (fun b => .breaker (.sb b))
    ++ (List.finRange 13).map .reaction

/-- The image size of the table a code names (R195). -/
def imageSize (table : Byte) : Option Nat :=
  if table = 0 then some 14 else if table = 1 then some 8 else if table = 2 then some 45 else if table = 3 then some 5
  else if table = 4 then some 11 else if table = 5 then some 1 else none

/-- The image of the Station entry. -/
def stationImage (e : StationEntry) : List Byte :=
  bytesOf 3 e.importLimit.toNat ++ bytesOf 2 e.tLong.toNat ++ bytesOf 2 e.tShort.toNat ++ bytesOf 3 e.cooldown.toNat
    ++ bytesOf 3 e.restartDelay.toNat ++ [e.controller]

/-- The Station entry of an image. -/
def stationOfImage (l : List Byte) : StationEntry :=
  { importLimit := BitVec.ofNat 24 (natOf (field l 0 3)), tLong := BitVec.ofNat 16 (natOf (field l 3 2)),
    tShort := BitVec.ofNat 16 (natOf (field l 5 2)), cooldown := BitVec.ofNat 24 (natOf (field l 7 3)),
    restartDelay := BitVec.ofNat 24 (natOf (field l 10 3)), controller := byteAt l 13 }

/-- The image of a Node entry. -/
def nodeImage (e : NodeEntry) : List Byte :=
  [e.role, e.target] ++ bytesOf 2 e.vfs.toNat ++ bytesOf 2 e.ifs.toNat ++ [e.mirrored, e.limit]

/-- The Node entry of an image. -/
def nodeOfImage (l : List Byte) : NodeEntry :=
  { role := byteAt l 0, target := byteAt l 1, vfs := BitVec.ofNat 16 (natOf (field l 2 2)),
    ifs := BitVec.ofNat 16 (natOf (field l 4 2)), mirrored := byteAt l 6, limit := byteAt l 7 }

/-- The image of a Berth entry. -/
def berthImage (e : BerthEntry) : List Byte :=
  [e.enabled, e.maxModules, e.loading] ++ bytesOf 2 e.rampRate.toNat ++ bytesOf 2 e.residual.toNat
    ++ bytesOf 2 e.slipTarget.toNat ++ bytesOf 2 e.closeWindow.toNat ++ bytesOf 2 e.slipMax.toNat ++ [e.dvMax]
    ++ bytesOf 3 e.reserveLimit.toNat ++ bytesOf 3 e.energiseLimit.toNat ++ bytesOf 3 e.syncLimit.toNat
    ++ bytesOf 3 e.rampLimit.toNat ++ bytesOf 3 e.recallLimit.toNat ++ bytesOf 2 e.partingLimit.toNat
    ++ bytesOf 2 e.settle.toNat ++ bytesOf 2 e.iTrip.toNat ++ [e.ocFilter] ++ bytesOf 2 e.blank.toNat
    ++ bytesOf 2 e.vLow.toNat ++ bytesOf 2 e.vHigh.toNat ++ [e.vFilter] ++ bytesOf 2 e.reverse.toNat

/-- The Berth entry of an image. -/
def berthOfImage (l : List Byte) : BerthEntry :=
  { enabled := byteAt l 0, maxModules := byteAt l 1, loading := byteAt l 2,
    rampRate := BitVec.ofNat 16 (natOf (field l 3 2)), residual := BitVec.ofNat 16 (natOf (field l 5 2)),
    slipTarget := BitVec.ofNat 16 (natOf (field l 7 2)), closeWindow := BitVec.ofNat 16 (natOf (field l 9 2)),
    slipMax := BitVec.ofNat 16 (natOf (field l 11 2)), dvMax := byteAt l 13,
    reserveLimit := BitVec.ofNat 24 (natOf (field l 14 3)), energiseLimit := BitVec.ofNat 24 (natOf (field l 17 3)),
    syncLimit := BitVec.ofNat 24 (natOf (field l 20 3)), rampLimit := BitVec.ofNat 24 (natOf (field l 23 3)),
    recallLimit := BitVec.ofNat 24 (natOf (field l 26 3)), partingLimit := BitVec.ofNat 16 (natOf (field l 29 2)),
    settle := BitVec.ofNat 16 (natOf (field l 31 2)), iTrip := BitVec.ofNat 16 (natOf (field l 33 2)),
    ocFilter := byteAt l 35, blank := BitVec.ofNat 16 (natOf (field l 36 2)), vLow := BitVec.ofNat 16 (natOf (field l 38 2)),
    vHigh := BitVec.ofNat 16 (natOf (field l 40 2)), vFilter := byteAt l 42, reverse := BitVec.ofNat 16 (natOf (field l 43 2)) }

/-- The image of a Module entry. -/
def moduleImage (e : ModuleEntry) : List Byte := [e.enabled] ++ bytesOf 2 e.rating.toNat ++ bytesOf 2 e.startLimit.toNat

/-- The Module entry of an image. -/
def moduleOfImage (l : List Byte) : ModuleEntry :=
  { enabled := byteAt l 0, rating := BitVec.ofNat 16 (natOf (field l 1 2)),
    startLimit := BitVec.ofNat 16 (natOf (field l 3 2)) }

/-- The image of a Breaker entry. -/
def breakerImage (e : BreakerEntry) : List Byte :=
  bytesOf 3 e.configured.toNat ++ bytesOf 3 e.minimum.toNat ++ bytesOf 3 e.maximum.toNat ++ bytesOf 2 e.limit.toNat

/-- The Breaker entry of an image. -/
def breakerOfImage (l : List Byte) : BreakerEntry :=
  { configured := BitVec.ofNat 24 (natOf (field l 0 3)), minimum := BitVec.ofNat 24 (natOf (field l 3 3)),
    maximum := BitVec.ofNat 24 (natOf (field l 6 3)), limit := BitVec.ofNat 16 (natOf (field l 9 2)) }

/-- The image of an entry as the store holds it. -/
def entryImage (t : Tables) (e : EntryRef) : List Byte :=
  match e with
  | .station => stationImage t.station
  | .node n => nodeImage (vget t.node n)
  | .berth b => berthImage (vget t.berth b)
  | .module m => moduleImage (vget t.module m)
  | .breaker (.pb b) => breakerImage (vget t.pb b)
  | .breaker (.sb b) => breakerImage (vget t.sb b)
  | .reaction i => [vget t.reaction i]

/-- The tables after an entry takes an image whole (R170). -/
def setEntryImage (t : Tables) (e : EntryRef) (l : List Byte) : Tables :=
  match e with
  | .station => { t with station := stationOfImage l }
  | .node n => { t with node := vset t.node n (nodeOfImage l) }
  | .berth b => { t with berth := vset t.berth b (berthOfImage l) }
  | .module m => { t with module := vset t.module m (moduleOfImage l) }
  | .breaker (.pb b) => { t with pb := vset t.pb b (breakerOfImage l) }
  | .breaker (.sb b) => { t with sb := vset t.sb b (breakerOfImage l) }
  | .reaction i => { t with reaction := vset t.reaction i (byteAt l 0) }

/-! ## Ranges of the fields -/

/-- `lo ≤ n ≤ hi`. -/
def within (lo hi n : Nat) : Bool := lo ≤ n && n ≤ hi

/-- Every Station field in its range (10). -/
def stationInRange (e : StationEntry) : Bool :=
  within 0 100000 e.importLimit.toNat && within 0 10000 e.tLong.toNat && within 0 10000 e.tShort.toNat
    && within 0 600000 e.cooldown.toNat && within 1000 600000 e.restartDelay.toNat && within 1 31 e.controller.toNat

/-- Whether a target fits a role (10, Node entry). -/
def targetFits (r : Role) (target : Nat) : Bool :=
  match r with
  | .none | .station | .muIncomer => target == 0
  | .muBerth | .plugBu | .siu => target ≤ 3
  | .module => target ≤ 7

/-- Every Node field in its range, the target fitting the role and the health limit even (10, R170). -/
def nodeInRange (e : NodeEntry) : Bool :=
  (match roleOf e.role with
    | some r => targetFits r e.target.toNat
    | none => false)
    && within 1 65535 e.vfs.toNat && within 1 65535 e.ifs.toNat && within 0 1 e.mirrored.toNat
    && within 2 30 e.limit.toNat && e.limit.toNat % 2 == 0

/-- Every Berth field in its range (03, 05, 06, 07). -/
def berthInRange (e : BerthEntry) : Bool :=
  within 0 1 e.enabled.toNat && within 1 8 e.maxModules.toNat && within 50 100 e.loading.toNat
    && within 10 5000 e.rampRate.toNat && within 0 10000 e.residual.toNat && within 10 500 e.slipTarget.toNat
    && within 100 3000 e.closeWindow.toNat && within 10 1000 e.slipMax.toNat && within 10 200 e.dvMax.toNat
    && within 10000 3600000 e.reserveLimit.toNat && within 10000 600000 e.energiseLimit.toNat
    && within 10000 600000 e.syncLimit.toNat && within 10000 1800000 e.rampLimit.toNat
    && within 10000 1800000 e.recallLimit.toNat && within 1000 60000 e.partingLimit.toNat && within 0 60000 e.settle.toNat
    && within 1 65535 e.iTrip.toNat && within 1 64 e.ocFilter.toNat && within 0 2000 e.blank.toNat
    && within 500 1000 e.vLow.toNat && within 1000 1500 e.vHigh.toNat && within 1 32 e.vFilter.toNat
    && within 10 10000 e.reverse.toNat

/-- Every Module field in its range (04). -/
def moduleInRange (e : ModuleEntry) : Bool :=
  within 0 1 e.enabled.toNat && within 100 6000 e.rating.toNat && within 1000 60000 e.startLimit.toNat

/-- Every Breaker field in its range, and minimum, configured close time and maximum in order (R73). -/
def breakerInRange (e : BreakerEntry) : Bool :=
  within 20000 300000 e.configured.toNat && within 0 400000 e.minimum.toNat && within 0 400000 e.maximum.toNat
    && within 100 5000 e.limit.toNat && e.minimum.toNat ≤ e.configured.toNat && e.configured.toNat ≤ e.maximum.toNat

/-- The range check of an entry as the tables hold it (R170, R172). -/
def entryInRange (t : Tables) (e : EntryRef) : Bool :=
  match e with
  | .station => stationInRange t.station
  | .node n => nodeInRange (vget t.node n)
  | .berth b => berthInRange (vget t.berth b)
  | .module m => moduleInRange (vget t.module m)
  | .breaker (.pb b) => breakerInRange (vget t.pb b)
  | .breaker (.sb b) => breakerInRange (vget t.sb b)
  | .reaction i => (vget t.reaction i).toNat ≤ 3

/-! ## The Node Table's look-ups -/

/-- Whether a Node entry holds a role and a target; the incomer's target is not read (R170). -/
def holdsRole (e : NodeEntry) (r : Role) (target : Nat) : Bool :=
  roleOf e.role == some r && (r == .muIncomer || e.target.toNat == target)

/-- The lowest node whose entry holds a role and target (R17). -/
def nodeWith (t : Tables) (r : Role) (target : Nat) : Option NodeIx :=
  (List.finRange 31).find? (fun n => holdsRole (vget t.node n) r target)

/-- Feeding role and target of a point (R17). -/
def pointRole (p : Point) : Role × Nat :=
  match p with
  | .bus b => (.muBerth, b.val)
  | .plug b => (.siu, b.val)
  | .ship b => (.siu, b.val)
  | .incomer => (.muIncomer, 0)

/-- The feeding node of a point; a point without one is unfed (R17). -/
def feedingNode (t : Tables) (p : Point) : Option NodeIx := nodeWith t (pointRole p).1 (pointRole p).2

/-- The LOST flag of the node that holds a role and target; clear where no node does. -/
def State.roleLost (s : State) (r : Role) (target : Nat) : Bool :=
  match nodeWith s.cfs.tables r target with
  | some n => (s.health n).lost
  | none => false

/-- The points a Node entry feeds (R17). -/
def pointsFedBy (e : NodeEntry) : List Point :=
  match roleOf e.role with
  | some .muBerth => (match berthOf e.target with
    | some b => [.bus b]
    | none => [])
  | some .siu => (match berthOf e.target with
    | some b => [.plug b, .ship b]
    | none => [])
  | some .muIncomer => [.incomer]
  | _ => []

/-- The roles whose nodes are counted for health (R11, Node health). -/
def countedRole (e : NodeEntry) : Bool :=
  match roleOf e.role with
  | some .muBerth | some .muIncomer | some .module | some .plugBu | some .siu => true
  | _ => false

/-- The thirteen measured points (R17). -/
def allPoints : List Point :=
  (List.finRange 4).map .bus ++ (List.finRange 4).map .plug ++ (List.finRange 4).map .ship ++ [.incomer]

/-! ## Results in bytes (R195) -/

/-- The bytes of one field of a response. -/
def itemBytes (i : Item) : List Byte :=
  match i with
  | .code w v => bytesOf w v
  | .num z => bytesOfInt 8 z
  | .absent w => List.replicate w 0xFF
  | .count n => bytesOf 1 n
  | .bytes l => l
  | .named f n => bytesOf (Config.namedWidth f) (Config.namedCode f n)
  | .namedAbsent f => List.replicate (Config.namedWidth f) 0xFF
  | .uncoded w f n => bytesOf w (Config.namedCode f n)

/-- The bytes of a response's detail or results, in order. -/
def itemsBytes (l : List Item) : List Byte := l.flatMap itemBytes

end Sys2Proof.Machine
end

