-- ==== Sys2Proof/Machine/Oscillator.lean ====
section
/-! DEFINITION. The Reference Oscillator Bank (03): phase, increment, the clamp, the modes that session states select, and the
steps of FREE, TRACK and LOCK, as functions of an oscillator record. -/

namespace Sys2Proof.Machine

open Sys2Proof

/-- The increment of a frequency setpoint (R37). -/
def incrementOf (fset : Nat) : BitVec 32 := BitVec.ofNat 32 ((fset * 2 ^ 32 + 2000000) / 4000000)

/-- The reported frequency of an increment, mHz (R37). -/
def reportedFrequency (k : BitVec 32) : Nat := (k.toNat * 4000000 + 2 ^ 31) / 2 ^ 32

/-- The lowest setpoint: nominal less 2 % (R38). -/
def clampLow (fnom : Nat) : Nat := fnom - fnom / 50

/-- The highest setpoint: nominal plus 2 % (R38). -/
def clampHigh (fnom : Nat) : Nat := fnom + fnom / 50

/-- A value clamped to the nominal frequency ±2.0 % (R38). -/
def clampFreq (fnom f : Nat) : Nat := if f < clampLow fnom then clampLow fnom else if clampHigh fnom < f then clampHigh fnom else f

/-- A new setpoint, clamped, with the increment recomputed in the same event (R37, R38). -/
def setSetpoint (o : Osc) (f : Nat) : Osc :=
  { o with fset := clampFreq o.fnom f, k := incrementOf (clampFreq o.fnom f) }

/-- The phase advanced by the increment in force (R36). -/
def advancePhase (o : Osc) : Osc := { o with phase := o.phase + o.k }

/-- The oscillator mode of a session state (R39). -/
def modeFor (st : SessionState) : OscMode :=
  match st with
  | .idle | .reserving | .energising | .connected | .shore | .parting | .draining | .faulted => .free
  | .syncing => .track
  | .parallel | .rampIn | .recall | .rampOut => .lock

/-- The control mode code written to the modules in a session state: 0 no command, 1 GRID_FORM, 2 POWER_FOLLOW (R39, R48). -/
def controlModeFor (st : SessionState) : Nat :=
  match st with
  | .idle => 0
  | .reserving | .energising | .connected | .syncing | .shore | .recall | .parting | .draining | .faulted => 1
  | .parallel | .rampIn | .rampOut => 2

/-- A mode change (R39): entering FREE clears the slew count; entering or leaving LOCK clears the watchdog and the holdover
mark; an unchanged mode changes nothing. -/
def changeMode (o : Osc) (m : OscMode) : Osc :=
  if o.mode = m then o
  else
    { o with
      mode := m
      slew := if m = .free then 0 else o.slew
      watchdog := if m = .lock ∨ o.mode = .lock then 0 else o.watchdog
      holdover := if m = .lock ∨ o.mode = .lock then false else o.holdover }

/-- Reinitialisation at entry into RESERVING (R40). -/
def reinitialise (fnom : Nat) : Osc :=
  { phase := 0, k := incrementOf fnom, fset := fnom, fnom := fnom, mode := .free, slew := 0, watchdog := 0, holdover := false }

/-- An entry of berth `b`'s session into a state, presented to the bank (R39, R40). -/
def State.oscEntry (s : State) (b : Berth) (st : SessionState) : State :=
  match st with
  | .reserving => s.setOsc b (reinitialise ((s.session b).fnom.getD (s.osc b).fnom))
  | _ => s.setOsc b (changeMode (s.osc b) (modeFor st))

/-- The FREE step: 10 mHz toward nominal, and the slew count back to 0 (R41). -/
def freeStepOsc (o : Osc) : Osc :=
  let f :=
    if o.fset < o.fnom then o.fset + min 10 (o.fnom - o.fset)
    else if o.fnom < o.fset then o.fset - min 10 (o.fset - o.fnom)
    else o.fset
  if f = o.fset then { o with slew := 0 } else { setSetpoint o f with slew := 0 }

/-- The TRACK update at a valid S crossing (R42). -/
def trackUpdate (slip fS : Nat) (o : Osc) : Osc := if o.mode = .track then setSetpoint o (fS + slip) else o

/-- The phase at a bus crossing `d` ticks before the sample instant, read signed (R43). -/
def crossingPhase (o : Osc) (d : Nat) : Int := (o.phase - BitVec.ofNat 32 (o.k.toNat * d / 1024)).toInt

/-- The lock correction at a valid B crossing of time `t` in cycle `n` (R43): phase, frequency, watchdog and holdover mark. -/
def lockCorrection (n : Ext) (t : Ticks) (fB : Nat) (o : Osc) : Osc :=
  if o.mode = .lock then
    let d := (n.setWidth 32 * 1024 - t).toNat
    let corrected := { o with phase := o.phase - BitVec.ofInt 32 ((crossingPhase o d).tdiv 16) }
    { setSetpoint corrected fB with watchdog := 0, holdover := false }
  else o

/-- The holdover limit (R44). -/
def holdoverLimit (fnom : Nat) : Nat := if fnom = 60000 then 134 else 160

/-- The boundary's work on an oscillator: the phase advance, the slew count of FREE below its step, and the watchdog of
LOCK (R36, R41, R44). -/
def boundaryOsc (o : Osc) : Osc :=
  let a := advancePhase o
  match o.mode with
  | .free => { a with slew := if o.slew < 399 then o.slew + 1 else o.slew }
  | .track => a
  | .lock => { a with watchdog := min (holdoverLimit o.fnom) (o.watchdog + 1) }

/-- The voltage setpoint of a berth's modules (R47). -/
def voltageSetpoint (st : SessionState) (vnom lineVoltsS : Nat) : Nat :=
  match st with
  | .syncing => max (vnom - vnom / 10) (min (vnom + vnom / 10) lineVoltsS)
  | _ => vnom

end Sys2Proof.Machine
end

