-- ==== Sys2Proof/Machine/Breakers.lean ====
section
/-! DEFINITION. The Breaker and Synchroniser (05): requests, trips, close-time measurement, cable alignment and sync
evaluation, as far as they act on the block's own records. What it presents to other blocks stands in the files that call
these operations. -/

namespace Sys2Proof.Machine

open Sys2Proof

/-! ## Close-time measurement -/

/-- A measurement concluded with a plausible result or without one (R81, R82): the last measured close time, the learned
close time of a marked breaker, the mark cleared, and CLOSE_MEASURED latched. Nothing happens with no measurement open. -/
def State.concludeMeasurement (s : State) (k : Breaker) (result : Option Nat) : State :=
  let r := s.breaker k
  if r.measuring then
    (s.setBreaker k
      { r with
        measuring := false
        lastMeasured := result
        learned := if r.mark then result.getD r.learned else r.learned
        mark := false }).latchBerth (breakerBerth k) .closeMeasured
  else s

/-- The measured close time in µs, signed (R81). -/
def measuredTime (nStatus nCmd : Ext) (offset : Nat) : Int := ((nStatus - nCmd).toNat * 250 + offset : Nat) - 250

/-- A result judged against the plausible range (R81). -/
def plausible (e : BreakerEntry) (z : Int) : Option Nat :=
  if (e.minimum.toNat : Int) ≤ z ∧ z ≤ (e.maximum.toNat : Int) then some z.toNat else none

/-! ## Requests -/

/-- An OPEN issued now (R78): issue cycle, operate limit read, limit reported cleared. -/
def State.issueOpen (s : State) (k : Breaker) : State :=
  s.setBreaker k
    { s.breaker k with
      command := .open, issue := s.ext, limit := msCycles (s.breakerEntry k).limit.toNat, limitReported := false,
      withdrawn := false }

/-- A CLOSE issued now (R77): issue cycle, operate limit read, withdrawn cleared, the measurement open. -/
def State.issueClose (s : State) (k : Breaker) : State :=
  s.setBreaker k
    { s.breaker k with
      command := .close, issue := s.ext, limit := msCycles (s.breakerEntry k).limit.toNat, withdrawn := false,
      measuring := true }

/-- What a close request comes to (R77). -/
inductive CloseResult where
  | issued
  | complete
  | unchanged
  | refused
  deriving DecidableEq, Repr

/-- A close request (R77). -/
def State.closeRequest (s : State) (k : Breaker) : State × CloseResult :=
  let r := s.breaker k
  match r.command, r.status with
  | .none, .open => (s.issueClose k, .issued)
  | .none, .closed => (s, .complete)
  | .close, _ => (s, .unchanged)
  | .none, .moving => (s, .refused)
  | .none, .fault => (s, .refused)
  | .open, _ => (s, .refused)

/-- An open request (R78); the flag says whether it is complete at once. -/
def State.openRequest (s : State) (k : Breaker) : State × Bool :=
  let r := s.breaker k
  match r.command with
  | .none => if r.status = .open then (s, true) else (s.issueOpen k, false)
  | .open => (s, false)
  | .close =>
    if r.withdrawn then (s, false)
    else (s.setBreaker k { r with withdrawn := true, withdrawCycle := s.ext }, false)

/-- A trip acting on one breaker (R80). -/
def State.tripBreaker (s : State) (k : Breaker) : State :=
  let r := s.breaker k
  match r.command with
  | .close => (s.concludeMeasurement k none).issueOpen k
  | .none => if r.status = .open then s else s.issueOpen k
  | .open => s

/-- Whether a breaker reads OPEN with no command in force. -/
def breakerAtRest (r : BreakerRecord) : Bool := r.status == .open && r.command == .none

/-! ## Cable alignment -/

/-- The start of alignment (R83). -/
def startAlignment (y : SyncRecord) : SyncRecord :=
  { y with alignment := .collecting, collected := 0, angleSum := 0, cableOffset := none }

/-- The stop of alignment (R83). -/
def stopAlignment (y : SyncRecord) : SyncRecord := { y with alignment := .inactive, collected := 0, angleSum := 0 }

/-- The start of a sync attempt (R86). -/
def startAttempt (y : SyncRecord) : SyncRecord := { y with attempt := .evaluating, stability := 0, lastEval := none }

/-- The end of a sync attempt (R86). -/
def endAttempt (y : SyncRecord) : SyncRecord := { y with attempt := .inactive, stability := 0 }

/-- The displacement of P against B when the crossing is counted (R84). -/
def countedDisplacement (bus : MeasRecord) (tP : Ticks) : Option Int :=
  match bus.lastCross.l1 with
  | some tB =>
    let d := signedDiff tP tB
    if bus.stale = false ∧ -(bus.period : Int) < d ∧ d < 2 * (bus.period : Int) then some d else none
  | none => none

/-- A counted crossing added to the collection (R84). -/
def addAngle (period : Nat) (d : Int) (y : SyncRecord) : SyncRecord :=
  let raw := foldAngle ((d * 36000).tdiv period)
  let angle := if y.collected = 0 then raw else y.firstAngle + foldAngle (raw - y.firstAngle)
  { y with
    firstAngle := if y.collected = 0 then raw else y.firstAngle
    angleSum := y.angleSum + angle
    collected := y.collected + 1 }

/-- The mean angle of a collection of eight (R85). -/
def meanAngle (y : SyncRecord) : Int := foldAngle (y.angleSum.tdiv 8)

/-- Whether the alignment passes: mean angle, rotation of P, voltage of P (R85). -/
def alignmentPasses (plug : MeasRecord) (y : SyncRecord) : Bool :=
  (-1500 ≤ meanAngle y && meanAngle y ≤ 1500) && plug.rotation == .ok &&
    (match plug.pointPermille with
      | some p => within 900 1100 p
      | none => false)

/-- A valid P crossing offered to the alignment (R84, R85): the record after it, and the verdict where the eighth crossing is
judged. -/
def alignmentCrossing (bus plug : MeasRecord) (tP : Ticks) (y : SyncRecord) : SyncRecord × Option Bool :=
  match y.alignment with
  | .inactive => (y, none)
  | .collecting =>
    match countedDisplacement bus tP with
    | none => (y, none)
    | some d =>
      let y' := addAngle bus.period d y
      if 8 ≤ y'.collected then
        if alignmentPasses plug y' then ({ y' with alignment := .inactive, cableOffset := some (meanAngle y') }, some true)
        else ({ y' with alignment := .inactive }, some false)
      else (y', none)

/-! ## Synchronising -/

/-- A valid P crossing recorded in the history (R86). -/
def recordPCrossing (t : Ticks) (y : SyncRecord) : SyncRecord := { y with pNew := some t, pOld := y.pNew }

/-- Whether a history entry is not after `tS` (R87). -/
def notAfter (tS : Ticks) (e : Option Ticks) : Bool :=
  match e with
  | some t => 0 ≤ signedDiff tS t
  | none => false

/-- The P reference: the newest history entry not after `tS` (R87). -/
def pReference (tS : Ticks) (y : SyncRecord) : Option Ticks :=
  if notAfter tS y.pNew then y.pNew else if notAfter tS y.pOld then y.pOld else none

/-- The valid interval from the P reference to `tS` (R87). -/
def syncInterval (plug : MeasRecord) (tS : Ticks) (y : SyncRecord) : Option Nat :=
  match pReference tS y with
  | some tP => if plug.stale = false ∧ (tS - tP).toNat < plug.period then some (tS - tP).toNat else none
  | none => none

/-- The angle of an interval (R87). -/
def syncAngle (interval period : Nat) : Int := foldAngle ((interval * 36000 / period : Nat) : Int)

/-- The angle gained during the advance (R87): rounded half up. -/
def advanceAngle (slip : Int) (advance : Nat) : Int := (slip * advance * 9 + 125000) / 250000

/-- One sync evaluation (R87, R88). -/
def syncEvaluation (plug ship : MeasRecord) (sb pb : BreakerRecord) (e : BerthEntry) (fnom : Nat) (tS : Ticks)
    (y : SyncRecord) : SyncEval :=
  let interval := syncInterval plug tS y
  let slip : Int := (plug.freq : Int) - ship.freq
  let advance := sb.learned + 250
  let theta := interval.map (fun d => syncAngle d plug.period)
  let delta := interval.map (fun _ => advanceAngle slip advance)
  let pred := interval.map (fun d => foldAngle (syncAngle d plug.period + advanceAngle slip advance))
  { theta := theta, slip := slip, advance := advance, deltaTheta := delta, thetaPred := pred
    angleOk := (match pred with
      | some z => z.natAbs ≤ e.closeWindow.toNat
      | none => false)
    slipOk := slip.natAbs ≤ e.slipMax.toNat
    voltageOk := (match plug.pointPermille, ship.pointPermille with
      | some a, some b => ((a : Int) - b).natAbs ≤ e.dvMax.toNat
      | _, _ => false)
    frequencyOk := within (clampLow fnom) (clampHigh fnom) ship.freq
    rotationOk := ship.rotation == .ok
    sbReady := sb.ready
    sbFree := sb.command == .none && sb.status == .open
    pbClosed := pb.status == .closed }

/-- Whether every window of an evaluation holds (R88). -/
def evalPasses (v : SyncEval) : Bool :=
  v.angleOk && v.slipOk && v.voltageOk && v.frequencyOk && v.rotationOk && v.sbReady && v.sbFree && v.pbClosed

/-- The sync record after an evaluation: the stability count and the last evaluation (R88). -/
def afterEvaluation (v : SyncEval) (y : SyncRecord) : SyncRecord :=
  { y with stability := if evalPasses v then min 3 (y.stability + 1) else 0, lastEval := some v }

/-! ## Modes -/

/-- A breaker at entry into CONFIG (R74): a CLOSE becomes NONE; everything else is kept. -/
def configBreaker (r : BreakerRecord) : BreakerRecord :=
  match r.command with
  | .close => { r with command := .none, withdrawn := false, measuring := false }
  | .none | .open => { r with measuring := false }

/-- One breaker's part of entry into CONFIG. An open measurement concludes without a result, which latches CLOSE_MEASURED
(R81) and leaves the learned and last measured close times and the mark as they were (R74). -/
def State.breakerConfigEntry (k : Breaker) (s : State) : State :=
  let r := s.breaker k
  let s' := s.setBreaker k (configBreaker r)
  if r.measuring then s'.latchBerth (breakerBerth k) .closeMeasured else s'

/-- The block at entry into CONFIG or at the tables' return (R74, R83), plug breakers first, from berth 0 to 3: R74 gives no order, and only
the order of notices shows it (DESIGN CHOICE, entry 44). -/
def State.bsyConfigEntry (s : State) : State :=
  let s1 := forEach (fun b s => s.breakerConfigEntry (.pb b)) s
  let s2 := forEach (fun b s => s.breakerConfigEntry (.sb b)) s1
  forEach (fun b s => s.setSync b { SyncRecord.reset with cableOffset := (s.sync b).cableOffset }) s2

/-- A breaker at entry into OPERATE by COMMIT (R74): the learned close time reloaded, an OPEN in force issued afresh. -/
def operateBreaker (now : Ext) (e : BreakerEntry) (r : BreakerRecord) : BreakerRecord :=
  let r' := { r with learned := e.configured.toNat }
  match r.command with
  | .open => { r' with issue := now, limitReported := false }
  | .none | .close => r'

/-- The block at entry into OPERATE by COMMIT (R74). -/
def State.bsyOperateEntry (s : State) : State :=
  { s with
    bsy := { s.bsy with
      pb := vmapIx (fun b r => operateBreaker s.ext (vget s.cfs.tables.pb b) r) s.bsy.pb
      sb := vmapIx (fun b r => operateBreaker s.ext (vget s.cfs.tables.sb b) r) s.bsy.sb } }

/-- Whether a command in force has reached its operate limit at a boundary (R79). -/
def limitReached (now : Ext) (r : BreakerRecord) : Bool :=
  match r.command with
  | .none => false
  | .close => r.limit ≤ (now - r.issue).toNat
  | .open => !r.limitReported && r.limit ≤ (now - r.issue).toNat

end Sys2Proof.Machine
end

