-- ==== Sys2Proof/Machine/Billing.lean ====
section
/-! DEFINITION. The Meter and Billing Unit (09): metering, the energy and charge of a second, held-over items, demand, records,
the record ring and deferral. -/

namespace Sys2Proof.Machine

open Sys2Proof

/-! ## Band entries and records -/

/-- A new band entry: import, export, charge and carry 0 (R157, R162). -/
def newEntry (band price : Nat) (tariff : Bool) : BandEntry := ⟨band, price, 0, 0, 0, 0, tariff⟩

/-- The last item of a list changed. -/
def modifyLast {α : Type} (f : α → α) : List α → List α
  | [] => []
  | [a] => [f a]
  | a :: l => a :: modifyLast f l

/-- A band entry as the ring holds it, without its carry. -/
def closeEntry (e : BandEntry) : ClosedEntry := ⟨e.band, e.price, e.importE, e.exportE, e.charge, e.tariff⟩

/-- A record opened (R157). -/
def openedRecord (session : Option Nat) (account : Option (BitVec 32)) (time : StationTime) (e : BandEntry)
    (clockUnset invalid : Bool) : OpenRecord :=
  { session := session, account := account, openedAt := time, entries := [e], peakDemand := 0, substituted := 0, gap := 0,
    mixed := false, unverified := invalid, clockUnset := clockUnset, noTariff := !e.tariff }

/-- The fourth entry absorbing a new band (R163). -/
def mixEntry (tariff : Bool) (e : BandEntry) : BandEntry :=
  { e with band := 255, price := 0, tariff := if tariff then e.tariff else false }

/-- A new account begun within a deferred record (R163): an entry appended below four, or the fourth mixed. -/
def beginEntry (band price : Nat) (tariff : Bool) (r : OpenRecord) : OpenRecord :=
  if r.entries.length < 4 then
    { r with entries := r.entries ++ [newEntry band price tariff], noTariff := r.noTariff || !tariff }
  else { r with entries := modifyLast (mixEntry tariff) r.entries, mixed := true, noTariff := r.noTariff || !tariff }

/-- Whether the next record number is exhausted (R159). -/
def Mbu.exhausted (m : Mbu) : Bool := 4294967295 < m.nextRecord

/-- Whether a closure can be made at once (R158). -/
def Mbu.canPlace (m : Mbu) : Bool := m.ring.length < 64 && !m.exhausted

/-- A record placed in the ring: numbered, appended, RECORD_READY latched (R159). -/
def State.placeRecord (s : State) (b : Berth) (r : OpenRecord) (closedAt : StationTime) (reason : CloseReason) : State :=
  let c : ClosedRecord :=
    { number := s.mbu.nextRecord, session := r.session, berth := b, account := r.account, openedAt := r.openedAt,
      closedAt := closedAt, reason := reason, entries := r.entries.map closeEntry, peakDemand := r.peakDemand,
      substituted := r.substituted, gap := r.gap, mixed := r.mixed, unverified := r.unverified, clockUnset := r.clockUnset,
      noTariff := r.noTariff }
  ({ s with mbu := { s.mbu with ring := s.mbu.ring ++ [c], nextRecord := s.mbu.nextRecord + 1 } }).latchStation .recordReady

/-- A berth at the back of the deferral queue with its deferral noted, and RECORD_RING_FULL latched (R162). -/
def State.deferClosure (s : State) (b : Berth) (d : Deferral) : State :=
  let s' := s.setMeter b { s.meter b with deferral := some d }
  ({ s' with mbu := { s'.mbu with queue := s'.mbu.queue ++ [b] } }).latchStation .recordRingFull

/-! ## Demand and account boundaries applied to one meter -/

/-- A demand block end applied (R156). -/
def applyBlockEnd (m : Meter) : Meter :=
  if m.running then
    { m with
      record := m.record.map (fun r => { r with peakDemand := if r.peakDemand < m.blockSum then m.blockSum else r.peakDemand })
      blockSum := 0 }
  else m

/-- A demand block restart applied (R156). -/
def applyBlockRestart (m : Meter) : Meter := if m.running then { m with blockSum := 0 } else m

/-- An account boundary applied to berth `b`'s meter (R158, R162, R163). -/
def State.applyBoundary (s : State) (b : Berth) (a : AcctBoundary) : State :=
  let m := s.meter b
  match m.running, m.record, m.deferral with
  | true, some r, none =>
    let e := newEntry a.band a.price a.tariff
    if s.mbu.canPlace then
      let s' := s.placeRecord b r a.time a.reason
      s'.setMeter b
        { s'.meter b with
          record := some (openedRecord m.session m.account a.time e a.clockUnset s.cfs.invalid), price := a.price }
    else
      let s' := s.deferClosure b
        { reason := a.reason, instant := a.time, notedUnset := some a.clockUnset, split := r.entries.length, ended := none }
      s'.setMeter b
        { s'.meter b with
          record := some { r with entries := r.entries ++ [e], noTariff := r.noTariff || !a.tariff }, price := a.price }
  | true, some r, some _ =>
    s.setMeter b { m with record := some (beginEntry a.band a.price a.tariff r), price := a.price }
  | _, _, _ => s

/-- Held-over items applied, the block end first (R155). -/
def State.flushHeld (s : State) (b : Berth) : State :=
  let m := s.meter b
  let m1 := match m.heldBlock with
    | some _ => applyBlockEnd m
    | none => m
  let s1 := s.setMeter b { m1 with heldBlock := none, heldBoundary := none }
  match m.heldBoundary with
  | some a => s1.applyBoundary b a
  | none => s1

/-- Whether a meter holds items over. -/
def hasHeld (m : Meter) : Bool := m.heldBlock.isSome || m.heldBoundary.isSome

/-- Whether B's second end for the boundary just taken has been taken already (R155). -/
def State.secondTaken (s : State) (b : Berth) : Bool := (s.meter b).lastTag == some s.endedExt

/-- Items held over from an earlier boundary applied before an event acts on the meter (R155). -/
def State.flushStale (s : State) (b : Berth) : State :=
  if hasHeld (s.meter b) && (s.meter b).heldFor != s.endedExt then s.flushHeld b else s

/-- A demand block end of a second tick presented to berth `b`'s meter: applied at once or held over (R155). -/
def State.tickBlockEnd (s : State) (e : BlockEnd) (b : Berth) : State :=
  let s1 := s.flushStale b
  let m := s1.meter b
  if m.running && !s1.secondTaken b then s1.setMeter b { m with heldBlock := some e, heldFor := s1.endedExt }
  else s1.setMeter b (applyBlockEnd m)

/-- An account boundary of a second tick presented to berth `b`'s meter: applied at once or held over (R155). -/
def State.tickBoundary (s : State) (a : AcctBoundary) (b : Berth) : State :=
  let s1 := s.flushStale b
  let m := s1.meter b
  if m.running && !s1.secondTaken b then s1.setMeter b { m with heldBoundary := some a, heldFor := s1.endedExt }
  else s1.applyBoundary b a

/-- The demand block restart of a clock set, applied at once after held-over items (R139, R155, R156). -/
def State.clockSetRestart (s : State) (b : Berth) : State :=
  let s1 := s.flushHeld b
  s1.setMeter b (applyBlockRestart (s1.meter b))

/-! ## Starting and ending -/

/-- The start of metering for berth `b` (R150). -/
def State.startMetering (s : State) (b : Berth) (session : Option Nat) (account : Option (BitVec 32)) (restart : Bool) : State :=
  let s1 := s.flushHeld b
  let m := s1.meter b
  let f := s1.ctu.band
  match m.record, m.deferral, m.finalPending with
  | some r, some d, true =>
    s1.setMeter b
      { m with
        running := true, blockSum := 0, lastTag := none, price := f.price, finalPending := false
        deferral := some { d with ended := none }
        record := some (beginEntry f.band f.price f.tariff r) }
  | _, _, _ =>
    let kept : Meter :=
      if restart then m
      else { m with session := session, account := account, importReg := 0, exportReg := 0, importRem := 0, exportRem := 0 }
    s1.setMeter b
      { kept with
        running := true, blockSum := 0, lastTag := none, price := f.price
        record := some (openedRecord kept.session kept.account s1.ctu.time (newEntry f.band f.price f.tariff)
          s1.ctu.clockUnset s1.cfs.invalid) }

/-- The end of metering for berth `b` with a close reason (R151, R158, R162). -/
def State.endMetering (s : State) (b : Berth) (reason : CloseReason) : State :=
  let m0 := s.meter b
  if m0.running then
    let m1 := match m0.heldBlock with
      | some _ => applyBlockEnd m0
      | none => m0
    let m : Meter := { m1 with heldBlock := none, heldBoundary := none, running := false, blockSum := 0 }
    let s1 := s.setMeter b m
    let now := s.ctu.time
    match m.record, m.deferral with
    | some r, none =>
      if s1.mbu.canPlace then
        let s2 := s1.placeRecord b r now reason
        s2.setMeter b { s2.meter b with record := none }
      else
        let s2 := s1.deferClosure b
          { reason := reason, instant := now, notedUnset := none, split := r.entries.length, ended := none }
        s2.setMeter b { s2.meter b with finalPending := true }
    | some r, some d =>
      s1.setMeter b
        { m with
          finalPending := true
          deferral := some (if d.split < r.entries.length then { d with ended := some (reason, now) } else d) }
    | none, _ => s1
  else s

/-! ## Energy of one second -/

/-- The divisor of the energy (R152): 32767² × 14,400. -/
def energyDivisor : Nat := 15460938561600

/-- An import second's energy and charge into a band entry (R152, R153). -/
def importInto (e price : Nat) (x : BandEntry) : BandEntry :=
  { x with
    importE := x.importE + e
    charge := x.charge + (e * price + x.carry) / 1000000
    carry := (e * price + x.carry) % 1000000 }

/-- An export second's energy into a band entry (R152). -/
def exportInto (e : Nat) (x : BandEntry) : BandEntry := { x with exportE := x.exportE + e }

/-- The last band entry of a meter's open record changed. -/
def onLastEntry (f : BandEntry → BandEntry) (m : Meter) : Meter :=
  { m with record := m.record.map (fun r => { r with entries := modifyLast f r.entries }) }

/-- The numerator of a second (R152). -/
def secondNumerator (raw : Int) (vfs ifs rem : Nat) : Nat := raw.natAbs * vfs * ifs + rem

/-- The accrual of a second with the node not LOST (R152, R153). -/
def accrueSecond (raw : Int) (vfs ifs : Nat) (m : Meter) : Meter × Nat × Direction :=
  if 0 < raw then
    let n := secondNumerator raw vfs ifs m.importRem
    let e := n / energyDivisor
    (onLastEntry (importInto e m.price)
      { m with
        importRem := n % energyDivisor, importReg := addWidth 64 m.importReg e, blockSum := addWidth 64 m.blockSum e },
      e, .importing)
  else if raw < 0 then
    let n := secondNumerator raw vfs ifs m.exportRem
    let e := n / energyDivisor
    (onLastEntry (exportInto e) { m with exportRem := n % energyDivisor, exportReg := addWidth 64 m.exportReg e },
      e, .exporting)
  else (m, 0, .none)

/-- A second end of point B taken by a running meter (R152): a gap with the node LOST, an accrual otherwise. -/
def meterSecond (lost : Bool) (raw : Int) (subst vfs ifs : Nat) (tag : Ext) (m : Meter) : Meter :=
  if lost then
    { m with
      record := m.record.map (fun r => { r with gap := addWidth 32 r.gap 1 })
      lastSecond := some ⟨0, .none, raw, subst, true⟩
      lastTag := some tag }
  else
    let x := accrueSecond raw vfs ifs m
    { x.1 with lastSecond := some ⟨x.2.1, x.2.2, raw, subst, false⟩, lastTag := some tag }

/-- A second end of point B presented to berth `b`'s meter, and the held-over items applied after it (R152, R155). -/
def State.secondEndMeter (s : State) (b : Berth) (e : NodeEntry) : State :=
  let s1 := s.flushStale b
  let m := s1.meter b
  if m.running then
    let r := s1.meas (.bus b)
    (s1.setMeter b
      (meterSecond (s1.roleLost .muBerth b.val) r.rawSum r.lastSubst e.vfs.toNat e.ifs.toNat s1.endedExt m)).flushHeld b
  else s1

/-- A substituted cycle of point B, of the cycle `n`, presented to berth `b`'s meter (R154). Held-over items are applied first
unless the cycle is the one that their boundary ended (R155). -/
def State.substitutedCycle (s : State) (b : Berth) (n : Ext) : State :=
  let s1 := if hasHeld (s.meter b) && (s.meter b).heldFor != n then s.flushHeld b else s
  let m := s1.meter b
  if m.running && !s1.roleLost .muBerth b.val then
    s1.setMeter b { m with record := m.record.map (fun r => { r with substituted := satAdd 4294967295 r.substituted 1 }) }
  else s1

/-! ## The release of a record and the placement of a deferred closure -/

/-- Whether an entry holds tariff mark NO_TARIFF. -/
def anyNoTariff (l : List BandEntry) : Bool := l.any (fun e => !e.tariff)

/-- Whether an entry holds band id 255. -/
def anyMixed (l : List BandEntry) : Bool := l.any (fun e => e.band == 255)

/-- The closed part of a deferred record (R164). -/
def deferredClosed (d : Deferral) (r : OpenRecord) : OpenRecord :=
  { r with entries := r.entries.take d.split, noTariff := anyNoTariff (r.entries.take d.split),
           mixed := anyMixed (r.entries.take d.split) }

/-- The next record of a deferred record, when entries remain after the split (R164). -/
def deferredNext (m : Meter) (d : Deferral) (r : OpenRecord) : OpenRecord :=
  { session := m.session, account := m.account, openedAt := d.instant, entries := r.entries.drop d.split, peakDemand := 0,
    substituted := 0, gap := 0, mixed := anyMixed (r.entries.drop d.split), unverified := r.unverified,
    clockUnset := d.notedUnset == some true, noTariff := anyNoTariff (r.entries.drop d.split) }

/-- The oldest deferred closure, of berth `b`, placed in a freed slot (R164). -/
def State.placeDeferred (s : State) (b : Berth) : State :=
  let s0 := s.flushHeld b
  let m := s0.meter b
  match m.record, m.deferral with
  | some r, some d =>
    let s1 := { s0 with mbu := { s0.mbu with queue := s0.mbu.queue.tail } }
    let s2 := s1.placeRecord b (deferredClosed d r) s.ctu.time d.reason
    if r.entries.drop d.split = [] then
      s2.setMeter b { s2.meter b with record := none, deferral := none, finalPending := false }
    else
      let next := deferredNext m d r
      let s3 := s2.setMeter b { s2.meter b with record := some next, deferral := none }
      match d.ended with
      | some (reason, time) =>
        s3.deferClosure b { reason := reason, instant := time, notedUnset := none, split := next.entries.length, ended := none }
      | none => s3
  | _, _ => s0

/-- The oldest record removed, and the oldest deferred closure placed in the slot (R161, R164). -/
def State.releaseOldest (s : State) : State :=
  let s1 := { s with mbu := { s.mbu with ring := s.mbu.ring.tail } }
  match s1.mbu.queue with
  | b :: _ => if s1.mbu.exhausted then s1 else s1.placeDeferred b
  | [] => s1

/-! ## Modes -/

/-- Every open record UNVERIFIED (R166), from berth 0 to berth 3 (DESIGN CHOICE, entry 43). A meter's held-over items are applied
before it, as before any event that acts on the meter (R155): a record that a held-over boundary closes there was closed before the
mark, and the record opened by it is marked (DEDUCED, entry 45). -/
def State.markUnverified (s : State) : State :=
  forEach (fun b s =>
    let s1 := s.flushHeld b
    s1.setMeter b { s1.meter b with record := (s1.meter b).record.map (fun r => { r with unverified := true }) }) s

/-- The block at entry into CONFIG by ENTER CONFIGURATION (R149): metering ends on every RUNNING meter with reason FAULT, from
berth 0 to berth 3 (DESIGN CHOICE, entry 43). -/
def State.mbuConfigEntry (s : State) : State := forEach (fun b s => s.endMetering b .fault) s

end Sys2Proof.Machine
end

