-- ==== Sys2Proof/Machine/Clock.lean ====
section
/-! DEFINITION. The Station Clock and Tariff Unit (08): the second tick with its checks, the tariff tables, activations, the band
in force, account boundaries and demand blocks. -/

namespace Sys2Proof.Machine

open Sys2Proof

/-- Whether the next second is a day change (R137). -/
def lastSecondOfDay (t : StationTime) : Bool := 86400 ≤ t.second + 1

/-- Station time one second on (R137). -/
def nextSecond (t : StationTime) : StationTime :=
  if lastSecondOfDay t then
    { day := (t.day + 1) % 65536, second := 0, weekday := (t.weekday + 1) % 7 }
  else { t with second := t.second + 1 }

/-- Whether an entry's mask includes a weekday (08, Tariff tables). -/
def maskIncludes (e : TariffEntry) (weekday : Nat) : Bool := e.mask.getLsbD weekday

/-- The slots of a table that hold an entry, lowest first. -/
def tableEntries (t : Vector (Option TariffEntry) 16) : List (Slot × TariffEntry) :=
  (List.finRange 16).filterMap (fun i => (vget t i).map (fun e => (i, e)))

/-- The entry in force at a weekday and minute: the greatest start not after the minute (R145). -/
def entryInForce (t : Vector (Option TariffEntry) 16) (weekday minute : Nat) : Option (Slot × TariffEntry) :=
  (tableEntries t).foldl
    (fun best x =>
      if maskIncludes x.2 weekday && x.2.start ≤ minute then
        match best with
        | some y => if y.2.start < x.2.start then some x else best
        | none => some x
      else best)
    none

/-- The band that a table gives at a station time (R145). -/
def bandOf (t : Vector (Option TariffEntry) 16) (time : StationTime) : Band :=
  match entryInForce t time.weekday (time.second / 60) with
  | some (i, e) => ⟨e.band, e.price, some i, true⟩
  | none => Band.noTariff

/-- The band in force recomputed (R145). -/
def State.recomputeBand (s : State) : State := { s with ctu := { s.ctu with band := bandOf s.ctu.active s.ctu.time } }

/-- Whether two bands differ in band id or price (R145). -/
def bandDiffers (a b : Band) : Bool := a.band != b.band || a.price != b.price

/-- Whether an activation is held whose time lies at or before the station time (R144). -/
def activationReached (c : Ctu) : Bool :=
  match c.activation with
  | some (d, sec) => timeAtOrBefore d sec c.time
  | none => false

/-- Whether a second tick makes the held activation: its time is reached, or the tick is the day change from day 65535 to
day 0 (R144). -/
def activationDue (c : Ctu) : Bool :=
  activationReached c ||
    (c.activation.isSome && c.time.day == 0 &&
      (match c.tick with
        | some w => w.dayChange
        | none => false))

/-- An activation made (R144): steps 1 to 5. -/
def State.activate (s : State) : State :=
  let s1 : State :=
    { s with ctu := { s.ctu with active := s.ctu.pendingTable, pendingTable := Vector.replicate 16 none, activation := none } }
  (s1.latchStation .tariffActivated).recomputeBand

/-- The account boundary that the unit's state gives for a reason (R146). -/
def State.acctBoundary (s : State) (reason : CloseReason) : AcctBoundary :=
  { reason := reason, time := s.ctu.time, band := s.ctu.band.band, price := s.ctu.band.price, tariff := s.ctu.band.tariff,
    clockUnset := s.ctu.clockUnset }

/-- The reason of the tick's account boundary, the first that applies (R146). -/
def tickReason (w : TickWork) (new : Band) : Option CloseReason :=
  if w.activated then some .tariffChange
  else if w.dayChange then some .dayEnd
  else if bandDiffers w.oldBand new then some .bandChange
  else none

/-- The last check of a second tick: the account boundary (R146), against the band that R144 or R145 has already given. It reaches the
meters from berth 0 to berth 3 (DESIGN CHOICE, entry 43). -/
def State.tickAccount (s : State) : State :=
  match s.ctu.tick with
  | none => s
  | some w =>
    let s1 : State := { s with ctu := { s.ctu with tick := none } }
    match tickReason w s1.ctu.band with
    | some r => forEach (fun b x => x.tickBoundary (s1.acctBoundary r) b) s1
    | none => s1

/-- The last check of a second tick, made once its activation and its block end have been taken (R137). -/
def State.finishTick (s : State) : State :=
  if Due.tariffActivation ∈ s.due ∨ Due.demandBlockEnd ∈ s.due then s else s.tickAccount

/-- The unit after the second tick's advance (R137): the time, the elapsed count of the demand block (R147), the phase count, and
what is left of the tick. -/
def tickAdvance (c : Ctu) : Ctu :=
  { c with
    time := nextSecond c.time, phaseCount := 0
    block := { c.block with elapsed := c.block.elapsed + 1 }
    tick := some ⟨lastSecondOfDay c.time, false, c.band⟩ }

/-- The second tick (R137): the advance, and the checks of R144, R145, R147 and R146 in that order. An activation and a block end are
events of their own and become due, first of all that is due. The band is recomputed by the activation where one is due, and at once
otherwise; the account boundary comes last (entry 1). -/
def State.secondTick (s : State) : State :=
  let c := tickAdvance s.ctu
  let l : List Due :=
    (if activationDue c then [Due.tariffActivation] else []) ++ (if c.time.second % 900 = 0 then [Due.demandBlockEnd] else [])
  let s1 : State := { s with ctu := c, due := l ++ s.due }
  (if activationDue c then s1 else s1.recomputeBand).finishTick

/-- The activation of a second tick (R144). -/
def State.tickActivation (s : State) : State :=
  if activationDue s.ctu then
    let s1 := s.activate
    let s2 : State := { s1 with ctu := { s1.ctu with tick := s1.ctu.tick.map (fun w => { w with activated := true }) } }
    s2.finishTick
  else s.recomputeBand.finishTick

/-- The end of the demand block (R147): presented to every meter, from berth 0 to berth 3 (DESIGN CHOICE, entry 43), and the block
restarted. -/
def State.blockEnd (s : State) : State :=
  let e : BlockEnd := ⟨s.ctu.block.start, s.ctu.block.elapsed⟩
  let s1 := forEach (fun b s => s.tickBlockEnd e b) s
  let s2 : State := { s1 with ctu := { s1.ctu with block := ⟨s1.ctu.time, 0⟩ } }
  s2.finishTick

/-- The clock set (R139), steps 1 to 6 in their order: time, CLOCK_UNSET, the block's restart at every meter, the band, an
activation that is reached, and the account boundary at every meter, each meter holding nothing over by then (R155). The meters are
reached from berth 0 to berth 3 (DESIGN CHOICE, entry 43). -/
def State.setClockTo (s : State) (t : StationTime) : State :=
  let s1 : State := { s with ctu := { s.ctu with time := t, clockUnset := false, block := ⟨t, 0⟩ } }
  let s2 := (forEach (fun b x => x.clockSetRestart b) s1).recomputeBand
  let s3 := if activationReached s2.ctu then s2.activate else s2
  let a := s3.acctBoundary .clockSet
  forEach (fun b x => x.applyBoundary b a) s3

/-! ## Validity of a tariff table (R141) -/

/-- Why a table is not valid: a gap with its weekday, or an overlap with its weekday, start minute and lower slot. -/
inductive TariffFault where
  | gap (weekday : Nat)
  | overlap (weekday start slot : Nat)
  deriving DecidableEq, Repr

/-- The entries of a weekday, lowest slot first. -/
def dayEntries (t : Vector (Option TariffEntry) 16) (weekday : Nat) : List (Slot × TariffEntry) :=
  (tableEntries t).filter (fun x => maskIncludes x.2 weekday)

/-- The first overlap of a weekday's entries: the lowest slot that shares its start minute with a later one. -/
def firstOverlap (weekday : Nat) : List (Slot × TariffEntry) → Option TariffFault
  | [] => none
  | x :: l => if l.any (fun y => y.2.start == x.2.start) then some (.overlap weekday x.2.start x.1.val) else firstOverlap weekday l

/-- The first failure of a weekday: the minute-0 check before the start-minute check (R141). -/
def dayFault (t : Vector (Option TariffEntry) 16) (weekday : Nat) : Option TariffFault :=
  if (dayEntries t weekday).any (fun x => x.2.start == 0) then firstOverlap weekday (dayEntries t weekday)
  else some (.gap weekday)

/-- The first failure of a table, weekday 0 first (R141). -/
def tariffFault (t : Vector (Option TariffEntry) 16) : Option TariffFault := (List.range 7).findSome? (dayFault t)

end Sys2Proof.Machine
end

