-- ==== Sys2Proof/Machine/Measurement.lean ====
section
/-! DEFINITION. The Measurement Front End (02): the stages of a point cycle and the closing of a measurement second, as
functions of a measurement record. What the front end presents to other blocks stands in Presentations.lean. -/

namespace Sys2Proof.Machine

open Sys2Proof

/-- Whether the channel samples carry the invalid value (00, Numbers and arithmetic). -/
def sampleInvalid (z : Int) : Bool := z == -32768

/-- Channels 2 and 3 exchanged when the feeding entry is mirrored (R18). -/
def condition (mirrored : Bool) (t : Tri Int) : Tri Int := if mirrored then ⟨t.l1, t.l3, t.l2⟩ else t

/-- A conditioned sample, replaced by the held last sample when it is invalid (R21). -/
def substitute (held z : Int) : Int := if sampleInvalid z then held else z

/-- Whether any of three samples is replaced (R21). -/
def anyInvalid (t : Tri Int) : Bool := sampleInvalid t.l1 || sampleInvalid t.l2 || sampleInvalid t.l3

/-- Whether a phase has a positive crossing (R22). -/
def crosses (prev cur : Int) (armed : Bool) : Bool := prev ≤ 0 && 0 < cur && armed

/-- The armed mark after a point cycle: cleared by a crossing, set by a sample below −655 (R22). -/
def armedAfter (prev cur : Int) (armed : Bool) : Bool := if cur < -655 then true else if crosses prev cur armed then false else armed

/-- The tick time of the sample instant of a cycle (02). -/
def sampleTick (n : Ext) : Ticks := n.setWidth 32 * 1024

/-- The crossing time of R23. -/
def crossingTime (n : Ext) (cur prev : Int) : Ticks :=
  sampleTick n - BitVec.ofInt 32 (1024 * cur / (cur - prev))

/-- A candidate period in the valid range (R24). -/
def periodValid (p : Nat) : Bool := within 58514 102400 p

/-- The frequency of a period, mHz (R24). -/
def frequencyOf (period : Nat) : Nat := (4096000000 + period / 2) / period

/-- Floor square root, one bit at a time from bit `k - 1` down. -/
def isqrtBits : Nat → Nat → Nat → Nat
  | 0, _, r => r
  | k + 1, n, r => isqrtBits k n (if (r + 2 ^ k) * (r + 2 ^ k) ≤ n then r + 2 ^ k else r)

/-- Floor square root (00, Numbers and arithmetic). -/
def isqrt (n : Nat) : Nat := isqrtBits (n.log2 / 2 + 1) n 0

/-- RMS volts of a phase from its window sum (R26, R27). -/
def rmsVolts (sum count vfs : Nat) : Nat := isqrt (sum / count) * vfs / 32767

/-- A voltage in per-mille of the nominal voltage (R27). -/
def permilleOf (volts vnom : Nat) : Nat := fitWidth 16 ((volts * 1732 + vnom / 2) / vnom)

/-- The sum of three figures. -/
def triSum (t : Tri Nat) : Nat := t.l1 + t.l2 + t.l3

/-- The RMS figures of a window, with the V_nom of the session when the point has one (R26, R27). -/
def computeRms (vfs : Nat) (vnom : Option Nat) (r : MeasRecord) : MeasRecord :=
  let v := triMap (fun x => rmsVolts x r.window.count vfs) r.window.sums
  let p := triSum v / 3
  { r with
    rms := v
    pointRms := p
    lineVolts := (p * 1732 + 500) / 1000
    permille := match vnom with
      | some u => triMap (fun x => some (permilleOf x u)) v
      | none => triOf none
    pointPermille := match vnom with
      | some u => some (triSum (triMap (fun x => permilleOf x u) v) / 3)
      | none => none }

/-- The RMS window restarted (R26). -/
def restartWindow (r : MeasRecord) : MeasRecord := { r with window := ⟨triOf 0, 0⟩ }

/-- Stage 4 at an L1 crossing of time `t` (R24, R26): the period, frequency and stale mark, the closing or restart of the
window, and the last crossing time. -/
def l1Stage (vfs : Nat) (vnom : Option Nat) (t : Ticks) (r : MeasRecord) : MeasRecord :=
  let r' := match r.lastCross.l1 with
    | none => r
    | some t0 =>
      let p := (t - t0).toNat
      if periodValid p then computeRms vfs vnom { r with period := p, freq := frequencyOf p, stale := false }
      else { r with stale := true }
  { restartWindow r' with lastCross := { r'.lastCross with l1 := some t } }

/-- Whether an L1 crossing of time `t` is valid against the crossing before it (R24). -/
def l1Valid (t : Ticks) (r : MeasRecord) : Bool :=
  match r.lastCross.l1 with
  | none => false
  | some t0 => periodValid (t - t0).toNat

/-- The rotation that a phase 2 crossing `d` ticks after phase 1 gives (R28). -/
def rotationOf (period d : Nat) : Rotation := if 3 * period ≤ 12 * d && 12 * d ≤ 5 * period then .ok else .reversed

/-- Stage 5 at a phase 2 crossing of time `t` (R28): the crossing time is recorded, and the check is made when the stale
mark is clear and phase 1 has crossed. -/
def rotationStage (t : Ticks) (r : MeasRecord) : MeasRecord :=
  { r with
    lastCross := { r.lastCross with l2 := some t }
    rotation := match r.lastCross.l1 with
      | some t1 => if r.stale then r.rotation else rotationOf r.period (t - t1).toNat
      | none => r.rotation }

/-- A sample's square. -/
def square (z : Int) : Nat := (z * z).toNat

/-- Stage 6: the cycle's samples join the RMS window (R26). -/
def windowStage (v : Tri Int) (r : MeasRecord) : MeasRecord :=
  { r with window := ⟨triZip (fun a z => a + square z) r.window.sums v, r.window.count + 1⟩ }

/-- The raw cycle power (R29). -/
def cyclePower (v i : Tri Int) : Int := v.l1 * i.l1 + v.l2 * i.l2 + v.l3 * i.l3

/-- The cycle peak current in amperes (R29). -/
def peakCurrent (ifs : Nat) (i : Tri Int) : Nat := max i.l1.natAbs (max i.l2.natAbs i.l3.natAbs) * ifs / 32767

/-- Stages 7 and 8 at B and G: the peak current (at B only) and the measurement second (R29, R30). -/
def powerStage (p : Point) (ifs : Nat) (v i : Tri Int) (substituted : Bool) (r : MeasRecord) : MeasRecord :=
  let second : MeasRecord :=
    { r with acc := r.acc + cyclePower v i, tally := r.tally + 1,
             substTally := r.substTally + (if substituted then 1 else 0) }
  match p with
  | .bus _ => { second with peak := peakCurrent ifs i }
  | .incomer => second
  | .plug _ | .ship _ => r

/-- Whether a point carries current channels (R17). -/
def hasCurrents (p : Point) : Bool :=
  match p with
  | .bus _ | .incomer => true
  | .plug _ | .ship _ => false

/-- What a point cycle gives: the record after its stages, the time of a valid L1 crossing where there was one, and whether
the cycle was substituted. -/
structure CycleOutcome where
  record : MeasRecord
  validCross : Option Ticks
  substituted : Bool
  deriving DecidableEq, Repr

/-- The point cycle of point `p` for cycle `n` (R20, R21): `sample` holds the delivered voltage and current samples, or
nothing when no delivery came. The no-crossing timeout of stage 6 is left to `timeoutRecord`, which is taken when the window
then holds 101 samples (R25). -/
def pointCycle (p : Point) (n : Ext) (e : NodeEntry) (vnom : Option Nat) (sample : Option (Tri Int × Tri Int))
    (r : MeasRecord) : CycleOutcome :=
  let inUse : Tri Int × Tri Int × Bool :=
    match sample with
    | some (v, i) =>
      let v' := condition (flagOf e.mirrored) v
      let i' := condition (flagOf e.mirrored) i
      (triZip substitute r.heldV v', if hasCurrents p then triZip substitute r.heldI i' else r.heldI,
        anyInvalid v' || (hasCurrents p && anyInvalid i'))
    | none => (r.heldV, r.heldI, true)
  let v := inUse.1
  let i := inUse.2.1
  let sub := inUse.2.2
  let c1 := crosses r.heldV.l1 v.l1 r.armed.l1
  let c2 := crosses r.heldV.l2 v.l2 r.armed.l2
  let c3 := crosses r.heldV.l3 v.l3 r.armed.l3
  let t1 := crossingTime n v.l1 r.heldV.l1
  let t2 := crossingTime n v.l2 r.heldV.l2
  let t3 := crossingTime n v.l3 r.heldV.l3
  let r0 : MeasRecord :=
    { r with
      heldV := v
      heldI := i
      substCount := if sub then satAdd 4294967295 r.substCount 1 else r.substCount
      armed := ⟨armedAfter r.heldV.l1 v.l1 r.armed.l1, armedAfter r.heldV.l2 v.l2 r.armed.l2,
        armedAfter r.heldV.l3 v.l3 r.armed.l3⟩
      lastCross := { r.lastCross with l3 := if c3 then some t3 else r.lastCross.l3 } }
  let valid := c1 && l1Valid t1 r0
  let r1 := if c1 then l1Stage e.vfs.toNat vnom t1 r0 else r0
  let r2 := if c2 then rotationStage t2 r1 else r1
  let r3 := windowStage v r2
  let r4 := powerStage p e.ifs.toNat v i sub r3
  { record := r4, validCross := if valid then some t1 else none, substituted := sub }

/-- The no-crossing timeout (R25): RMS figures of the window, the stale mark set, the window restarted. -/
def timeoutRecord (vfs : Nat) (vnom : Option Nat) (r : MeasRecord) : MeasRecord :=
  restartWindow { computeRms vfs vnom r with stale := true }

/-- Whether a record's window has reached the 101 samples of the no-crossing timeout (R25). -/
def timeoutReached (r : MeasRecord) : Bool := 101 ≤ r.window.count

/-- The last-second power in kW, truncated toward zero (R30). -/
def secondPower (raw : Int) (vfs ifs : Nat) : Int := (raw * vfs * ifs).tdiv (32767 * 32767 * 4000 * 1000)

/-- The end of a measurement second for a B or G record (R30, R31): a complete second gives its figures, and the accumulator
and tallies return to 0. -/
def closeSecond (entry : Option NodeEntry) (r : MeasRecord) : MeasRecord :=
  let closed : MeasRecord :=
    match entry with
    | some e =>
      if r.tally = 4000 then
        { r with rawSum := r.acc, lastPower := secondPower r.acc e.vfs.toNat e.ifs.toNat, lastSubst := r.substTally }
      else r
    | none => r
  { closed with acc := 0, tally := 0, substTally := 0 }

/-- The V_nom that a point's per-mille is worked with (R27): its berth's session's, absent in IDLE and for G. -/
def State.pointVnom (s : State) (p : Point) : Option Nat :=
  match p with
  | .bus b | .plug b | .ship b => (s.session b).vnom
  | .incomer => none

/-- All measurement records reset (R19, R34). -/
def State.resetMeas (s : State) : State := { s with mfe := Mfe.reset }

/-- The records of some points reset (R19). -/
def State.resetPoints (s : State) (l : List Point) : State := l.foldl (fun s p => s.setMeas p MeasRecord.reset) s

end Sys2Proof.Machine
end

