-- ==== Sys2Proof/Machine/Supervision.lean ====
section
/-! DEFINITION. The Berth Supervision's own record (07): spans, arming, blanking and the four protection functions as functions of
a supervision record. What a fault does stands in Reactions.lean. -/

namespace Sys2Proof.Machine

open Sys2Proof

/-! ## Spans (R124) -/

/-- States of the bus voltage and bus frequency span (R124); DRAINING only in drain steps SB and PB, as the table has it, also after an
uncommanded PB open in step SB, which R115 takes as the completion of the PB open (DEDUCED, entry 42). -/
def inVoltageSpan (st : SessionState) (d : DrainStep) : Bool :=
  match st with
  | .energising | .connected | .syncing | .parallel | .rampIn | .shore | .recall | .rampOut | .parting => true
  | .draining => d != .done
  | .idle | .reserving | .faulted => false

/-- States of the reverse power span (R124). -/
def inReverseSpan (st : SessionState) : Bool :=
  match st with
  | .parallel | .rampIn | .recall | .rampOut => true
  | .idle | .reserving | .energising | .connected | .syncing | .shore | .parting | .draining | .faulted => false

/-- What an entry of the session into a state does to the filters (R124). -/
def filtersAtEntry (st : SessionState) (v : Supervision) : Supervision :=
  match st with
  | .reserving | .idle =>
    { v with armed := false, blank := 0, overcurrent := Filter.clear, voltage := Watched.clear, frequency := Watched.clear,
             reverse := Filter.clear }
  | .faulted => { v with voltage := Watched.clear, frequency := Watched.clear, reverse := Filter.clear }
  | .energising | .connected | .syncing | .shore | .parting | .draining => { v with reverse := Filter.clear }
  | .parallel | .rampIn | .recall | .rampOut => v

/-- An entry of berth `b`'s session into a state, presented to the supervision (R124). -/
def State.supEntry (s : State) (b : Berth) (st : SessionState) : State := s.setSuperv b (filtersAtEntry st (s.superv b))

/-- Blanking started by a CLOSED report of a breaker of berth `b` (R124). -/
def State.startBlanking (s : State) (b : Berth) : State :=
  s.setSuperv b { s.superv b with blank := msCycles (s.berthEntry b).blank.toNat }

/-- A module breaker's CLOSED report for berth `b`: arming and blanking (R124). -/
def State.moduleClosedReport (s : State) (b : Berth) : State :=
  let s1 := s.startBlanking b
  if (s1.session b).state = .idle then s1 else s1.setSuperv b { s1.superv b with armed := true }

/-! ## A judged filter -/

/-- A failing judgement: the count rises to the limit and stays there; the flag says that a fault is taken (R125, R126, R127). -/
def filterFails (limit : Nat) (f : Filter) : Filter × Bool :=
  let c := min limit (f.count + 1)
  if limit ≤ c ∧ f.raised = false then (⟨c, true⟩, true) else (⟨c, f.raised⟩, false)

/-- A judgement with its outcome: a passing one clears the count and the raised mark. -/
def judge (limit : Nat) (fails : Bool) (f : Filter) : Filter × Bool := if fails then filterFails limit f else (Filter.clear, false)

/-- The overcurrent judgement (R125). -/
def judgeOvercurrent (e : BerthEntry) (peak : Nat) (v : Supervision) : Supervision × Bool :=
  if 0 < v.blank then ({ v with overcurrent := Filter.clear }, false)
  else
    let x := judge e.ocFilter.toNat (e.iTrip.toNat < peak) v.overcurrent
    ({ v with overcurrent := x.1 }, x.2)

/-- The filter of a watched point. -/
def watchedGet (w : Watched) (p : Point) : Filter :=
  match p with
  | .bus _ => w.bus
  | .plug _ => w.plug
  | .ship _ => w.ship
  | .incomer => Filter.clear

/-- The watched points' filters with one replaced. -/
def watchedSet (w : Watched) (p : Point) (f : Filter) : Watched :=
  match p with
  | .bus _ => { w with bus := f }
  | .plug _ => { w with plug := f }
  | .ship _ => { w with ship := f }
  | .incomer => w

/-- Whether a per-phase per-mille lies outside the voltage window (R126). -/
def outsideWindow (e : BerthEntry) (x : Nat) : Bool := x < e.vLow.toNat || e.vHigh.toNat < x

/-- The bus voltage judgement of a point (R126). -/
def judgeVoltage (e : BerthEntry) (p : Point) (r : MeasRecord) (v : Supervision) : Supervision × Bool :=
  match r.permille.l1, r.permille.l2, r.permille.l3 with
  | some a, some b, some c =>
    let x := judge e.vFilter.toNat (outsideWindow e a || outsideWindow e b || outsideWindow e c) (watchedGet v.voltage p)
    ({ v with voltage := watchedSet v.voltage p x.1 }, x.2)
  | _, _, _ => (v, false)

/-- The bus frequency judgement of a point (R127). -/
def judgeFrequency (fnom : Nat) (p : Point) (r : MeasRecord) (v : Supervision) : Supervision × Bool :=
  let x := judge 5 (!within (fnom - fnom * 15 / 1000) (fnom + fnom * 15 / 1000) r.freq) (watchedGet v.frequency p)
  ({ v with frequency := watchedSet v.frequency p x.1 }, x.2)

/-- The reverse power judgement (R128). -/
def judgeReverse (e : BerthEntry) (power : Int) (v : Supervision) : Supervision × Bool :=
  let x := judge 2 (power < -(e.reverse.toNat : Int)) v.reverse
  ({ v with reverse := x.1 }, x.2)

/-- Whether a point of its berth is watched: B always, P while PB reports CLOSED, S while SB does (R126). -/
def State.watched (s : State) (p : Point) : Bool :=
  match p with
  | .bus _ => true
  | .plug b => (s.breaker (.pb b)).status == .closed
  | .ship b => (s.breaker (.sb b)).status == .closed
  | .incomer => false

/-- Whether berth `b` is within the span of bus voltage and bus frequency (R124). -/
def State.voltageSpan (s : State) (b : Berth) : Bool :=
  (s.superv b).armed && inVoltageSpan (s.session b).state (s.session b).drain

/-- Whether berth `b` is within the overcurrent span (R124). -/
def State.overcurrentSpan (s : State) (b : Berth) : Bool := (s.superv b).armed && (s.session b).state != .idle

/-! ## Classes -/

/-- The class of a kind, read from the Reaction Table (R122). -/
def State.classFor (s : State) (k : FaultKind) : FaultClass := classOf (vget s.cfs.tables.reaction (faultNumber k))

/-- Severity: WARN, RESTART, ERROR, LATCHED rising (R122). -/
def severity (c : FaultClass) : Nat :=
  match c with
  | .warn => 0 | .restart => 1 | .error => 2 | .latched => 3

end Sys2Proof.Machine
end

