-- ==== Sys2Proof/Machine/Sessions.lean ====
section
/-! DEFINITION. The Session Controller's core (06): entering a state, the cap, the plug breaker's close in ENERGISING, the change of
holdings and the entry into IDLE. -/

namespace Sys2Proof.Machine

open Sys2Proof

/-! ## Entering a state (R95) -/

/-- The stage limit of a state in cycles, read from the Berth entry; absent for a state without one (R95, R98). -/
def stageLimitOf (e : BerthEntry) (st : SessionState) : Option Nat :=
  match st with
  | .reserving => some (msCycles e.reserveLimit.toNat)
  | .energising => some (msCycles e.energiseLimit.toNat)
  | .syncing => some (msCycles e.syncLimit.toNat)
  | .rampIn => some (msCycles e.rampLimit.toNat)
  | .recall => some (msCycles e.recallLimit.toNat)
  | .rampOut => some (msCycles e.rampLimit.toNat)
  | .parting => some (msCycles e.partingLimit.toNat)
  | .idle | .connected | .parallel | .shore | .draining | .faulted => none

/-- The handover phase of a state at its entry (R119). -/
def phaseFor (st : SessionState) : HandoverPhase :=
  match st with
  | .idle | .reserving | .draining | .faulted | .energising => .none
  | .connected => .cableLive
  | .syncing => .sync
  | .parallel | .rampIn | .rampOut => .parallel
  | .shore => .shoreSupply
  | .recall => .recall
  | .parting => .parting

/-- Whether P_sh is kept at the entry into a state (R95). -/
def keepsShare (st : SessionState) : Bool := st == .rampIn || st == .rampOut

/-- The session record at the entry into a state (R95, R101, R102). -/
def sessionAtEntry (e : BerthEntry) (st : SessionState) (r : Session) : Session :=
  { r with
    state := st
    strikes := 0
    quietCount := 0
    quietSeconds := 0
    stageTimer := if (stageLimitOf e st).isSome then 0 else r.stageTimer
    stageLimit := (stageLimitOf e st).getD r.stageLimit
    share := if keepsShare st then r.share else 0
    closeIssued := if r.state = .syncing then false else r.closeIssued
    abortPending := if r.state = .syncing then false else r.abortPending
    gensMayDisconnect := if r.state = .rampIn then false else r.gensMayDisconnect
    gensStart := if r.state = .recall then false else r.gensStart
    settle := if st = .parallel then msCycles e.settle.toNat else r.settle
    stepTimer := if keepsShare st then 0 else r.stepTimer
    pbAsked := if st = .energising then false else r.pbAsked
    pbRetry := false
    pbTaken := false
    phase := phaseFor st }

/-- What leaving one state for another presents to the berth's sync record (R83, R86, R95). -/
def syncAtEntry (old st : SessionState) (y : SyncRecord) : SyncRecord :=
  let y1 := if old = .energising then stopAlignment y else y
  let y2 := if old = .syncing then endAttempt y1 else y1
  if st = .syncing then startAttempt y2 else y2

/-- Berth `b`'s session enters a state (R95): its record, the oscillator, alignment and sync attempt, and the supervision's
filters. -/
def State.enterState (s : State) (b : Berth) (st : SessionState) : State :=
  let old := (s.session b).state
  let s1 := s.setSession b (sessionAtEntry (s.berthEntry b) st (s.session b))
  let s2 := s1.setSync b (syncAtEntry old st (s1.sync b))
  (s2.oscEntry b st).supEntry b st

/-! ## Holdings and the cap -/

/-- Whether a module is in a state for berth `b`. -/
def inStateFor (st : ModuleState) (b : Berth) (r : ModuleRecord) : Bool := r.state == st && r.berth == some b

/-- The number of berth `b`'s modules in a state. -/
def State.countIn (s : State) (b : Berth) (st : ModuleState) : Nat :=
  ((vlist s.mpm.module).filter (inStateFor st b)).length

/-- The number of berth `b`'s modules STARTING or BOUND (R63). -/
def State.held (s : State) (b : Berth) : Nat := s.countIn b .starting + s.countIn b .bound

/-- The sum of the ratings of berth `b`'s BOUND modules (R60, R104). -/
def State.boundRating (s : State) (b : Berth) : Nat :=
  (List.finRange 8).foldl
    (fun acc m => if inStateFor .bound b (s.module m) then acc + (s.moduleEntry m).rating.toNat else acc) 0

/-- The cap formed afresh, and P_sh brought under it (R104). -/
def State.formCap (s : State) (b : Berth) : State :=
  let r := s.session b
  let sigma := s.boundRating b
  let cap := sigma * (s.berthEntry b).loading.toNat / 100
  s.setSession b { r with sigma := sigma, cap := cap, share := min r.share cap }

/-! ## The plug breaker's close -/

/-- The PB close complete, presented to the session (R97): outside ENERGISING it starts nothing. -/
def State.pbCloseComplete (s : State) (b : Berth) : State :=
  if (s.session b).state = .energising then
    let s1 := s.setSession b { s.session b with metering := true, phase := .cableLive }
    let s2 := s1.startMetering b (s.session b).number (s.session b).account (0 < (s.superv b).attempts)
    s2.setSync b (startAlignment (s2.sync b))
  else s

/-- The close request for PB presented, and its outcome taken (R96, R77). -/
def State.presentPbClose (s : State) (b : Berth) : State :=
  let x := s.closeRequest (.pb b)
  let asked := x.1.setSession b { x.1.session b with pbAsked := true, pbRetry := false }
  match x.2 with
  | .issued => asked
  | .unchanged => asked
  | .complete => asked.pbCloseComplete b
  | .refused => x.1.setSession b { x.1.session b with pbAsked := false, pbRetry := true }

/-- Whether berth `b`'s holdings are complete (R96). -/
def State.holdingsComplete (s : State) (b : Berth) : Bool :=
  (s.session b).starting == 0 && 1 ≤ (s.session b).bound && !(s.mpm.alloc.any (fun e => e.berth == b))

/-! ## Entry into IDLE -/

/-- The session record in IDLE (R116): session number, account id, end reason and what the ship last delivered are kept. The stage limit
in force returns to 0 with the timers (DEDUCED, entry 42). -/
def idleSession (r : Session) : Session :=
  { Session.reset with number := r.number, account := r.account, endReason := r.endReason, ship := r.ship, shipOutput := r.shipOutput }

/-- Berth `b`'s session enters IDLE (R116). -/
def State.idleEntry (s : State) (b : Berth) : State :=
  let s1 := s.enterState b .idle
  (s1.setSession b (idleSession (s1.session b))).latchBerth b .sessionEnded

/-- Whether a session that is ending may enter IDLE (R115, R135): its drain is DONE, or its fault has been cleared, and the
latest holdings show no module STARTING or BOUND. -/
def readyForIdle (r : Session) : Bool :=
  r.starting == 0 && r.bound == 0 &&
    ((r.state == .draining && r.drain == .done) || (r.state == .faulted && r.endReason == some .fault))

/-- IDLE entered when the session is ready for it. -/
def State.tryIdle (s : State) (b : Berth) : State := if readyForIdle (s.session b) then s.idleEntry b else s

/-- The change of holdings of berth `b` presented to the session (R60, R96, R104, R115): the counts, the cap, the plug breaker's
close, and the end of a drain. -/
def State.changeOfHoldings (s : State) (b : Berth) : State :=
  let r := s.session b
  let s1 := s.setSession b { r with starting := s.countIn b .starting, bound := s.countIn b .bound }
  let s2 := s1.formCap b
  let r2 := s2.session b
  let s3 := if r2.state = .energising ∧ s2.holdingsComplete b = true ∧ r2.pbAsked = false then s2.presentPbClose b else s2
  s3.tryIdle b

/-- The restart mark and end of a session's ship-side flags in FAULTED (R117): every flag except metering cleared. -/
def faultedFlags (r : Session) : Session :=
  { r with pbAsked := false, pbRetry := false, closeIssued := false, abortPending := false, pbTaken := false,
           gensMayDisconnect := false, gensStart := false }

end Sys2Proof.Machine
end

