-- ==== Sys2Proof/Machine/Pool.lean ====
section
/-! DEFINITION. The Module Pool Manager (04): grants, releases, stop phase, cooldown, failure, the allocation and switching queues,
protection opens, and what a module's delivery does. -/

namespace Sys2Proof.Machine

open Sys2Proof

/-! ## Records, queues and ages -/

/-- Whether a module is in group A (04). -/
def inGroupA (m : ModuleId) : Bool := m.val < 4

/-- The age of the module's group and the station age set to 0 (R68, R70). -/
def State.zeroAges (s : State) (m : ModuleId) : State :=
  { s with
    mpm := { s.mpm with
      ageA := if inGroupA m then 0 else s.mpm.ageA
      ageB := if inGroupA m then s.mpm.ageB else 0
      ageStation := 0 } }

/-- An operation at the back of the switching queue (R67). -/
def State.queueOp (s : State) (m : ModuleId) (op : QueuedOp) : State :=
  { s with mpm := { s.mpm with switching := s.mpm.switching ++ [⟨m, op⟩] } }

/-- Every queued operation of a module removed. -/
def State.removeOps (s : State) (m : ModuleId) : State :=
  { s with mpm := { s.mpm with switching := s.mpm.switching.filter (fun e => e.module != m) } }

/-- Whether an operation of a module waits in the switching queue. -/
def State.opQueued (s : State) (m : ModuleId) : Bool := s.mpm.switching.any (fun e => e.module == m)

/-- A PROTECTION_OPEN issued (R70): it becomes the operation in force, and the ages it is measured against are set to 0. -/
def State.issueProtection (s : State) (m : ModuleId) : State :=
  (s.setModule m { s.module m with op := .protectionOpen, opAge := 0 }).zeroAges m

/-- A protection open where one is needed (R60, R70): the breaker does not read OPEN or a CLOSE is in force, and no open is in
force already. -/
def State.protect (s : State) (m : ModuleId) : State :=
  let r := s.module m
  if r.op = .open ∨ r.op = .protectionOpen then s
  else if r.breaker ≠ .open ∨ r.op = .close then s.issueProtection m
  else s

/-- The stop phase begun (R57). -/
def State.beginStopPhase (s : State) (m : ModuleId) : State :=
  s.setModule m
    { s.module m with
      stopPhase := true, run := .stop, stageTimer := 0, startLimit := msCycles (s.moduleEntry m).startLimit.toNat }

/-- Whether a module is STARTING or BOUND. -/
def isHolding (r : ModuleRecord) : Bool := r.state == .starting || r.state == .bound

/-! ## Release (R56) -/

/-- One module released: the record and queue part of R56. A breaker that reads FAULT, which R56 does not name, is opened like one that
reads CLOSED or MOVING (DEDUCED, entry 39). -/
def State.releaseOne (s : State) (m : ModuleId) : State :=
  if isHolding (s.module m) then
    let s1 := s.removeOps m
    let s2 := s1.setModule m { s1.module m with state := .stopping, stopPhase := false, stageTimer := 0 }
    let r := s2.module m
    match r.op with
    | .protectionOpen => s2
    | .close | .open => s2.queueOp m .open
    | .none => if r.breaker = .open then s2.beginStopPhase m else s2.queueOp m .open
  else s

/-- Modules of berth `b` released, and the change of holdings presented when one of them was STARTING or BOUND (R56, R60). Their opens
are queued in the order of the list, the lowest module number first: R56 gives none (DESIGN CHOICE, entry 43). -/
def State.releaseModules (s : State) (b : Berth) (l : List ModuleId) : State :=
  let s1 := l.foldl (fun s m => s.releaseOne m) s
  if l.any (fun m => isHolding (s.module m)) then s1.changeOfHoldings b else s1

/-- The modules whose record holds berth `b`. -/
def State.modulesOf (s : State) (b : Berth) : List ModuleId := (List.finRange 8).filter (fun m => (s.module m).berth == some b)

/-- Every module of a berth released. -/
def State.releaseBerth (s : State) (b : Berth) : State := s.releaseModules b (s.modulesOf b)

/-! ## Grants (R64, R65) -/

/-- Whether a module may be granted: FREE and its entry enabled (R51). -/
def State.grantable (s : State) (m : ModuleId) : Bool := (s.module m).state == .free && flagOf (s.moduleEntry m).enabled

/-- The grantable modules of a group, lowest first. -/
def State.freeIn (s : State) (groupA : Bool) : List ModuleId :=
  (List.finRange 8).filter (fun m => inGroupA m == groupA && s.grantable m)

/-- The modules of berth `b` STARTING or BOUND in a group. -/
def State.heldIn (s : State) (b : Berth) (groupA : Bool) : Nat :=
  ((List.finRange 8).filter (fun m => inGroupA m == groupA && (s.module m).berth == some b && isHolding (s.module m))).length

/-- The next module picked for berth `b` (R65). -/
def State.pick (s : State) (b : Berth) : Option ModuleId :=
  let a := s.freeIn true
  let c := s.freeIn false
  let takeA : Bool :=
    if c.length < a.length then true
    else if a.length < c.length then false
    else s.heldIn b true ≤ s.heldIn b false
  if takeA then a.head? else c.head?

/-- A picked module started for berth `b` (R54). -/
def State.startModule (s : State) (m : ModuleId) (b : Berth) : State :=
  s.setModule m
    { s.module m with
      state := .starting, berth := some b, run := .run, stageTimer := 0,
      startLimit := msCycles (s.moduleEntry m).startLimit.toNat, op := .none, stopPhase := false }

/-- `n` modules picked and started, with the list of them in the order picked. -/
def State.pickAll (s : State) (b : Berth) : Nat → State × List ModuleId
  | 0 => (s, [])
  | n + 1 =>
    match s.pick b with
    | some m =>
      let x := State.pickAll (s.startModule m b) b n
      (x.1, m :: x.2)
    | none => (s, [])

/-- The grant of berth `b` presented to the session (R96). -/
def State.grantPresented (s : State) (b : Berth) (l : List ModuleId) : State :=
  match (s.session b).state with
  | .reserving => s.enterState b .energising
  | .draining | .faulted | .idle => s.releaseModules b l
  | _ => s

/-- The grant of the queue's head (R64). -/
def State.grantHead (s : State) (e : AllocEntry) : State :=
  let x := s.pickAll e.berth e.count
  let s1 := { x.1 with mpm := { x.1.mpm with alloc := x.1.mpm.alloc.tail } }
  (s1.grantPresented e.berth x.2).changeOfHoldings e.berth

/-- The FREE count (R64). -/
def State.freeCount (s : State) : Nat := ((List.finRange 8).filter s.grantable).length

/-- A grant evaluation over at most `n` heads (R64). -/
def State.grantLoop (s : State) : Nat → State
  | 0 => s
  | n + 1 =>
    match s.mpm.alloc with
    | e :: _ => if e.count ≤ s.freeCount then State.grantLoop (s.grantHead e) n else s
    | [] => s

/-- A grant evaluation, made in OPERATE only (R64). -/
def State.grantEvaluation (s : State) : State := if s.operating then s.grantLoop (s.mpm.alloc.length + 1) else s

/-! ## The allocation queue (R63, R66) -/

/-- The berth's room (R63). -/
def State.room (s : State) (b : Berth) : Nat := (s.berthEntry b).maxModules.toNat - s.held b

/-- An entry placed behind the last URGENT entry and ahead of every NORMAL one (R63). -/
def insertUrgent (e : AllocEntry) (l : List AllocEntry) : List AllocEntry :=
  l.filter (fun x => x.urgency == .urgent) ++ [e] ++ l.filter (fun x => x.urgency == .normal)

/-- The queue after a request for a berth that has an entry (R63). -/
def mergeRequest (b : Berth) (count : Nat) (u : Urgency) (room : Nat) (l : List AllocEntry) : List AllocEntry :=
  match l.find? (fun x => x.berth == b) with
  | some e =>
    let e' := { e with count := min (e.count + count) room }
    if u = .urgent ∧ e.urgency = .normal then insertUrgent { e' with urgency := .urgent } (l.filter (fun x => x.berth != b))
    else l.map (fun x => if x.berth == b then e' else x)
  | none => l

/-- An allocation request (R63). -/
def State.allocRequest (s : State) (b : Berth) (count : Nat) (u : Urgency) : State :=
  let room := s.room b
  if s.mpm.alloc.any (fun x => x.berth == b) then
    { s with mpm := { s.mpm with alloc := mergeRequest b count u room s.mpm.alloc } }
  else if min count room = 0 then s
  else
    let e : AllocEntry := ⟨b, min count room, u, s.ctu.time⟩
    let l := match u with
      | .urgent => insertUrgent e s.mpm.alloc
      | .normal => s.mpm.alloc ++ [e]
    ({ s with mpm := { s.mpm with alloc := l } }).grantEvaluation

/-- The cancellation of a berth's entry (R66). -/
def State.cancelAlloc (s : State) (b : Berth) : State :=
  let s1 := { s with mpm := { s.mpm with alloc := s.mpm.alloc.filter (fun x => x.berth != b) } }
  match s.mpm.alloc with
  | e :: _ => if e.berth = b then s1.grantEvaluation else s1
  | [] => s1

/-! ## Cooldown and failure -/

/-- Entry into COOLDOWN (R58). -/
def State.cooldownEntry (s : State) (m : ModuleId) : State :=
  let r := s.module m
  let s1 := s.setModule m
    { r with
      state := .cooldown, berth := none, run := .stop, stopPhase := false,
      cooldown := msCycles s.cfs.tables.station.cooldown.toNat }
  match r.state, r.berth with
  | .stopping, some b => s1.changeOfHoldings b
  | _, _ => s1

/-- Whether a failure from STARTING or BOUND is replaced (R60). -/
def State.wantsReplacement (s : State) (b : Berth) : Bool :=
  (match (s.session b).state with
    | .idle | .draining | .faulted => false
    | _ => true)
    && s.held b < (s.berthEntry b).maxModules.toNat

/-- What a failure does to the former berth (R60). The replacement is queued before the holdings are presented, so that its
entry keeps them incomplete (R96; entry 15). -/
def State.failureHoldings (s : State) (b : Berth) (old : ModuleState) : State :=
  let s1 := if old = .bound then s.latchBerth b .capacityLost else s
  let s2 := if (old = .starting ∨ old = .bound) ∧ s1.wantsReplacement b = true then s1.allocRequest b 1 .urgent else s1
  s2.changeOfHoldings b

/-- Whether a state is one that a failure event takes to FAILED (R59). -/
def canFail (st : ModuleState) : Bool :=
  match st with
  | .free | .starting | .bound | .stopping | .cooldown => true
  | .failed | .blocked => false

/-- Entry into FAILED (R60). A module that fails from COOLDOWN keeps what was left of its deadline: R60 says nothing of it (DEDUCED,
entry 39). -/
def State.failModule (s : State) (m : ModuleId) (c : FailureCause) : State :=
  let old := s.module m
  let s1 := (s.removeOps m).protect m
  let s2 := s1.setModule m { s1.module m with state := .failed, run := .stop, stopPhase := false, cause := some c, berth := none }
  let s3 := s2.latchStation .moduleFailed
  match old.state, old.berth with
  | .starting, some b => s3.failureHoldings b .starting
  | .bound, some b => s3.failureHoldings b .bound
  | .stopping, some b => s3.failureHoldings b .stopping
  | _, _ => s3

/-- The node that holds role MODULE with module `m` as target is LOST. -/
def State.moduleLost (s : State) (m : ModuleId) : Bool := s.roleLost .module m.val

/-- The test of a FAILED module for COOLDOWN (R61). -/
def State.failedToCooldown (s : State) (m : ModuleId) : State :=
  let r := s.module m
  if r.state = .failed ∧ r.reported = .stopped ∧ r.breaker = .open ∧ r.op = .none ∧ s.moduleLost m = false then s.cooldownEntry m
  else s

/-- The loss of a module's node (R59). -/
def State.moduleNodeLost (s : State) (m : ModuleId) : State := if canFail (s.module m).state then s.failModule m .nodeLost else s

/-! ## Protection opens (R70) -/

/-- The protection open of one module of a tripped berth (R70). A module in its stop phase that needs an open leaves the stop phase,
which begins again when that open completes; one that needs none goes on in it. The stage timer 0 of a module taken to STOPPING, and the
run command RUN of one that leaves its stop phase, which R53 writes for it, are the model's reading (DEDUCED, entry 39). -/
def State.tripModule (s : State) (m : ModuleId) : State :=
  let s1 := (s.removeOps m).protect m
  let s2 :=
    if isHolding (s1.module m) then s1.setModule m { s1.module m with state := .stopping, stopPhase := false, stageTimer := 0 }
    else if (s1.module m).state = .stopping ∧ (s1.module m).stopPhase = true ∧ (s1.module m).op ≠ .none then
      s1.setModule m { s1.module m with stopPhase := false, run := .run }
    else s1
  let r := s2.module m
  if r.state = .stopping ∧ r.stopPhase = false ∧ r.op = .none then s2.beginStopPhase m else s2

/-- A trip of berth `b` presented to the pool (R70). -/
def State.tripModules (s : State) (b : Berth) : State :=
  ((s.modulesOf b).foldl (fun s m => s.tripModule m) s).changeOfHoldings b

/-! ## A delivery (R52, R55, R57, R59, R69) -/

/-- The fields that a MOD frame delivers. -/
structure ModuleReport where
  reported : ReportedState
  kva : Nat
  breaker : BreakerStatus
  selector : Selector
  output : Int
  deriving DecidableEq, Repr

/-- The fields of a MOD body (R192, R193). -/
def moduleReport (body : List Byte) : ModuleReport :=
  { reported := reportedOf (byteAt body 0), kva := natOf (field body 1 2), breaker := statusOf (byteAt body 3),
    selector := selectorOf (byteAt body 4), output := intOf (field body 5 2) }

/-- Why a delivery fails a module in a state that can fail (R59), with no operation in force judged as before the delivery. -/
def failureOf (r : ModuleRecord) (d : ModuleReport) : Option FailureCause :=
  if canFail r.state then
    if d.reported = .fault then some .reportedFault
    else if d.breaker = .fault then some .breakerFault
    else if r.state = .bound ∧ r.op = .none ∧ d.breaker ≠ .closed then some .breakerFault
    else if r.state = .bound ∧ some d.selector ≠ r.berth.map .berth then some .selector
    else none
  else none

/-- Whether a reported breaker status completes an operation (R69). -/
def completes (op : ModuleOp) (st : BreakerStatus) : Bool :=
  match op with
  | .none => false
  | .close => st == .closed
  | .open | .protectionOpen => st == .open

/-- The operation in force after a delivery: an open that the status completes is over, also for a module that fails at the
same delivery; a CLOSE is over only for a module that does not fail (R69, R60; entry 14). -/
def opAfter (failing : Bool) (op : ModuleOp) (st : BreakerStatus) : ModuleOp :=
  if completes op st && (!failing || op != .close) then .none else op

/-- The state rules of a delivery that fails nothing, on a record that already holds the delivered fields (R55, R57, R61, R69).
`op` is the operation that was in force before it. The delivery that completes the open begins the stop phase and does not itself count
as the delivery in the stop phase that R57 waits for (DEDUCED, entry 39). -/
def State.moduleDelivered (s : State) (m : ModuleId) (op : ModuleOp) (inStopPhase : Bool) : State :=
  let r := s.module m
  match r.state with
  | .starting =>
    if completes op r.breaker && op == .close then
      let s1 := s.setModule m { r with state := .bound, run := .run }
      match r.berth with
      | some b => (s1.changeOfHoldings b).moduleClosedReport b
      | none => s1
    else if r.reported = .running ∧ r.berth.map .berth = some r.selector ∧ s.opQueued m = false ∧ op = .none then s.queueOp m .close
    else s
  | .stopping =>
    if inStopPhase then (if r.reported = .stopped ∧ r.breaker = .open then s.cooldownEntry m else s)
    else if completes op r.breaker && op != .close && !s.opQueued m then s.beginStopPhase m
    else s
  | .failed => s.failedToCooldown m
  | .free | .bound | .cooldown | .blocked => s

/-- An on-time MOD delivery for module `m` (R52). The age of an operation that completes keeps its last value: R69 gives none. A delivery
that fails the module does not also serve R61's test, which waits for the next one (DEDUCED, entry 39). -/
def State.moduleDelivery (s : State) (m : ModuleId) (d : ModuleReport) : State :=
  let r := s.module m
  let cause := failureOf r d
  let s1 := s.setModule m
    { r with
      reported := d.reported, kva := d.kva, breaker := d.breaker, selector := d.selector, output := d.output,
      op := opAfter cause.isSome r.op d.breaker }
  match cause with
  | some c => s1.failModule m c
  | none => s1.moduleDelivered m r.op r.stopPhase

/-! ## The boundary -/

/-- Whether a STARTING module has not yet reported RUNNING on its berth: no CLOSE queued for it and none in force (R55). -/
def State.awaitingRunning (s : State) (m : ModuleId) : Bool :=
  (s.module m).state == .starting && !s.opQueued m && (s.module m).op == .none

/-- Whether a module's stage timer runs (R55, R57). -/
def State.stageRuns (s : State) (m : ModuleId) : Bool :=
  s.awaitingRunning m || ((s.module m).state == .stopping && (s.module m).stopPhase)

/-- An entry of the switching queue that may be issued now (R68). -/
def State.mayIssue (s : State) (e : SwitchEntry) : Bool :=
  (s.module e.module).op == .none
    && msCycles s.cfs.tables.station.tLong.toNat ≤ (if inGroupA e.module then s.mpm.ageA else s.mpm.ageB)
    && msCycles s.cfs.tables.station.tShort.toNat ≤ s.mpm.ageStation

/-- The oldest entry that qualifies, no earlier entry of the same module before it, with the queue less that entry (R68). -/
def State.firstIssue (s : State) : List SwitchEntry → List SwitchEntry → Option (SwitchEntry × List SwitchEntry)
  | _, [] => none
  | before, e :: l =>
    if s.mayIssue e && !before.any (fun x => x.module == e.module) then some (e, before ++ l)
    else State.firstIssue s (before ++ [e]) l

/-- The operation a queue entry puts in force. -/
def opOf (q : QueuedOp) : ModuleOp :=
  match q with
  | .close => .close
  | .open => .open

/-- The issue of a boundary (R68, R69): the oldest entry that qualifies, or nothing. -/
def State.switchingIssue (s : State) : State :=
  if s.operating then
    match s.firstIssue [] s.mpm.switching with
    | some (e, l) =>
      let s1 := { s with mpm := { s.mpm with switching := l } }
      (s1.setModule e.module { s1.module e.module with op := opOf e.op, opAge := 0 }).zeroAges e.module
    | none => s
  else s

/-- The start limit reached (R55, R57, R59). -/
def State.moduleStartLimit (s : State) (m : ModuleId) : State :=
  if s.stageRuns m && (s.module m).startLimit ≤ (s.module m).stageTimer then s.failModule m .startLimit else s

/-- The operate limit reached (R69): the module fails, or in FAILED and BLOCKED the operation is dropped, its age back to 0. An open that
a failure by this limit keeps in force (R60) keeps the age 4,000 and is dropped at the next boundary (DEDUCED, entry 39). -/
def State.moduleOperateLimit (s : State) (m : ModuleId) : State :=
  let r := s.module m
  if r.op ≠ .none ∧ 4000 ≤ r.opAge then
    match r.state with
    | .starting | .bound | .stopping => s.failModule m .operateLimit
    | .failed | .blocked | .free | .cooldown => s.setModule m { r with op := .none, opAge := 0 }
  else s

/-- The end of a cooldown (R58). -/
def State.cooldownEnd (s : State) (m : ModuleId) : State :=
  let r := s.module m
  if r.state = .cooldown ∧ r.cooldown = 0 then (s.setModule m { r with state := .free }).grantEvaluation else s

/-- A module record's timers at a boundary in OPERATE (R55, R57, R58, R69). -/
def boundaryModule (stage : Bool) (r : ModuleRecord) : ModuleRecord :=
  { r with
    stageTimer := if stage then r.stageTimer + 1 else r.stageTimer
    opAge := if r.op = .none then r.opAge else min 4000 (r.opAge + 1)
    cooldown := if r.state = .cooldown then r.cooldown - 1 else r.cooldown }

/-! ## Modes -/

/-- A module record at entry into CONFIG (R71). -/
def configModule (r : ModuleRecord) : ModuleRecord :=
  match r.state with
  | .free | .starting | .bound | .cooldown => ModuleRecord.reset
  | .stopping | .failed | .blocked => r

/-- The pool at entry into CONFIG or at the tables' return (R71). -/
def State.mpmConfigEntry (s : State) : State :=
  { s with
    mpm := { s.mpm with
      module := vmapIx (fun _ r => configModule r) s.mpm.module
      alloc := []
      switching := s.mpm.switching.filter (fun e => e.op != .close) } }

end Sys2Proof.Machine
end

