-- ==== Sys2Proof/Machine/Handover.lean ====
section
/-! DEFINITION. The Session Controller's outcomes (06): draining, parting, breaker completions and uncommanded openings, the ramp
with its share split, the headroom budget, and the ship's reports. What needs the Berth Supervision's reaction stands in
Reactions.lean. -/

namespace Sys2Proof.Machine

open Sys2Proof

/-! ## Draining (R115) -/

/-- The PB open of a drain is complete: metering ends and every module of the berth is released (R115). -/
def State.drainReturn (s : State) (b : Berth) : State :=
  let s1 := if (s.session b).metering then s.endMetering b .sessionEnd else s
  (s1.setSession b { s1.session b with metering := false }).releaseBerth b

/-- The PB open presented complete in drain step PB (R115): drain step DONE, and IDLE when nothing is held. -/
def State.pbDrained (s : State) (b : Berth) : State :=
  ((s.setSession b { s.session b with drain := .done }).drainReturn b).tryIdle b

/-- Drain step PB entered: the open request for PB (R115). -/
def State.drainPb (s : State) (b : Berth) : State :=
  let x := (s.setSession b { s.session b with drain := .pb }).openRequest (.pb b)
  if x.2 then x.1.pbDrained b else x.1

/-- The SB open presented complete in drain step SB (R115): drain step PB, or DONE when PB's open was taken before. -/
def State.sbDrained (s : State) (b : Berth) : State :=
  if (s.session b).pbTaken then (s.setSession b { s.session b with drain := .done }).tryIdle b else s.drainPb b

/-- DRAINING entered with an end reason and a drain step SB or PB (R113, R114, R115). -/
def State.enterDraining (s : State) (b : Berth) (reason : EndReason) (sbFirst : Bool) : State :=
  let s1 := (s.cancelAlloc b)
  let s2 := (s1.setSession b { s1.session b with endReason := some reason }).enterState b .draining
  if sbFirst then
    let x := (s2.setSession b { s2.session b with drain := .sb }).openRequest (.sb b)
    if x.2 then x.1.sbDrained b else x.1
  else s2.drainPb b

/-- The abort of a session that is not IDLE (R114): in DRAINING the drain step stays where it stands. -/
def State.abortSession (s : State) (b : Berth) (reason : EndReason) : State :=
  match (s.session b).state with
  | .draining =>
    let s1 := s.cancelAlloc b
    s1.setSession b { s1.session b with endReason := some reason }
  | _ => s.enterDraining b reason true

/-! ## Parting and the connected cable -/

/-- CONNECTED entered from PARTING: SHIP_RETURNED latched (R112, R120). -/
def State.shipReturned (s : State) (b : Berth) : State := (s.enterState b .connected).latchBerth b .shipReturned

/-- PARTING entered with the SB open requested; a request that is complete at once passes on into CONNECTED (R112). -/
def State.partShip (s : State) (b : Berth) : State :=
  let x := (s.enterState b .parting).openRequest (.sb b)
  if x.2 then x.1.shipReturned b else x.1

/-! ## Presentations of the Breaker and Synchroniser -/

/-- The SB close presented complete (R99, R100). -/
def State.sbCloseComplete (s : State) (b : Berth) : State :=
  if (s.session b).state = .syncing then
    if (s.session b).abortPending then s.enterState b .parting else s.enterState b .parallel
  else s

/-- The SB open presented complete (R100, R112, R115). -/
def State.sbOpenComplete (s : State) (b : Berth) : State :=
  match (s.session b).state with
  | .syncing => if (s.session b).abortPending then s.enterState b .connected else s
  | .parting => s.shipReturned b
  | .draining => if (s.session b).drain = .sb then s.sbDrained b else s
  | _ => s

/-- The PB open presented complete (R115, R117). -/
def State.pbOpenComplete (s : State) (b : Berth) : State :=
  match (s.session b).state with
  | .draining => if (s.session b).drain = .pb then s.pbDrained b else s
  | .faulted =>
    if (s.session b).metering then
      let s1 := s.endMetering b .fault
      s1.setSession b { s1.session b with metering := false }
    else s
  | _ => s

/-- A breaker's close presented complete to its session. -/
def State.closeComplete (s : State) (k : Breaker) : State :=
  match k with
  | .pb b => s.pbCloseComplete b
  | .sb b => s.sbCloseComplete b

/-- A breaker's open presented complete to its session. -/
def State.openComplete (s : State) (k : Breaker) : State :=
  match k with
  | .pb b => s.pbOpenComplete b
  | .sb b => s.sbOpenComplete b

/-- States in which an uncommanded SB open moves the session and is a fault of the berth (R117, R129). -/
def onShipBus (st : SessionState) : Bool :=
  match st with
  | .parallel | .rampIn | .shore | .recall | .rampOut => true
  | .idle | .reserving | .energising | .connected | .syncing | .parting | .draining | .faulted => false

/-- An uncommanded SB open presented to the session (R117). -/
def State.sbUncommandedOpen (s : State) (b : Berth) : State :=
  if onShipBus (s.session b).state then s.enterState b .connected else s

/-- Whether an uncommanded PB open ends the session's service (R117); ENERGISING counts once PB has closed, which is read from the
metering flag that the completed close sets (R97; DEDUCED, entry 42). -/
def plugInUse (r : Session) : Bool :=
  match r.state with
  | .energising => r.metering
  | .connected | .syncing | .parallel | .rampIn | .shore | .recall | .rampOut | .parting => true
  | .idle | .reserving | .draining | .faulted => false

/-- An uncommanded PB open presented to the session (R115, R117). -/
def State.pbUncommandedOpen (s : State) (b : Berth) : State :=
  let r := s.session b
  if plugInUse r then s.enterDraining b .plugOpened ((s.breaker (.sb b)).status != .open)
  else if r.state = .draining ∧ r.drain = .sb then (s.setSession b { r with pbTaken := true }).drainReturn b
  else s

/-- An uncommanded open presented to the session. -/
def State.uncommandedOpen (s : State) (k : Breaker) : State :=
  match k with
  | .pb b => s.pbUncommandedOpen b
  | .sb b => s.sbUncommandedOpen b

/-- The issue of the sync close presented to the session (R89, R99). -/
def State.syncCloseIssued (s : State) (b : Berth) : State := s.setSession b { s.session b with closeIssued := true }

/-- Alignment success presented to the session (R97). -/
def State.alignmentSuccess (s : State) (b : Berth) : State :=
  if (s.session b).state = .energising then (s.enterState b .connected).latchBerth b .sessionConnected else s

/-! ## A trip's entry and an invalid configuration -/

/-- FAULTED entered by a trip, from any state but IDLE (R117). -/
def State.enterFaulted (s : State) (b : Berth) : State :=
  if (s.session b).state = .idle then s
  else
    let s1 := (s.cancelAlloc b).enterState b .faulted
    s1.setSession b (faultedFlags (s1.session b))

/-- Whether berth `b`'s session is one that an invalid configuration aborts (R118). -/
def State.abortedByInvalid (s : State) (b : Berth) : Bool :=
  (s.session b).state == .reserving || (s.session b).state == .energising

/-- The allocation entries of every session about to be aborted cancelled together, with one grant evaluation when the head was
among them, so that none of these sessions is granted in between (R66, R118; entry 33). -/
def State.cancelAborted (s : State) : State :=
  let s1 : State := { s with mpm := { s.mpm with alloc := s.mpm.alloc.filter (fun e => !s.abortedByInvalid e.berth) } }
  match s.mpm.alloc with
  | e :: _ => if s.abortedByInvalid e.berth then s1.grantEvaluation else s1
  | [] => s1

/-- The configuration presented as invalid to one session (R118). -/
def State.invalidAbort (b : Berth) (s : State) : State := if s.abortedByInvalid b then s.abortSession b .aborted else s

/-- The configuration presented as invalid to the Session Controller (R118), from berth 0 to berth 3 (DESIGN CHOICE, entry 43). -/
def State.invalidAborts (s : State) : State := forEach State.invalidAbort s.cancelAborted

/-! ## The ramp (R102, R103) -/

/-- The size of a ramp step (R102). -/
def stepSize (rate : Nat) : Nat := max 1 (rate / 10)

/-- A RAMP_IN step (R102, R106). -/
def State.rampInStep (s : State) (b : Berth) : State :=
  let r := s.session b
  let increase := min (stepSize (s.berthEntry b).rampRate.toNat) (r.cap - r.share)
  if r.share < r.cap ∧ increase ≤ s.ses.budget then
    let s1 := s.setSession b { r with share := r.share + increase }
    { s1 with ses := { s1.ses with budget := s1.ses.budget - increase } }
  else s

/-- A RAMP_OUT step (R102). -/
def State.rampOutStep (s : State) (b : Berth) : State :=
  let r := s.session b
  let decrease := min (stepSize (s.berthEntry b).rampRate.toNat) r.share
  s.setSession b
    { r with share := r.share - decrease, quietSeconds := if decrease = 0 then r.quietSeconds else 0 }

/-- A ramp step taken when its timer has run (R102, R104): the cap is formed before the step's own change. -/
def State.rampStep (s : State) (b : Berth) : State :=
  let r := s.session b
  if keepsShare r.state = true ∧ 399 ≤ r.stepTimer then
    let s1 := (s.setSession b { r with stepTimer := 0 }).formCap b
    if r.state = .rampIn then s1.rampInStep b else s1.rampOutStep b
  else s

/-- A BOUND module's part of the shore share before the remainder (R103). -/
def shareFloor (share rating sigma : Nat) : Nat := share * rating / sigma

/-- The BOUND modules of berth `b`, lowest first. -/
def State.boundModules (s : State) (b : Berth) : List ModuleId :=
  (List.finRange 8).filter (fun m => inStateFor .bound b (s.module m))

/-- A module's power setpoint in kW (R103). -/
def State.powerSetpoint (s : State) (m : ModuleId) : Int :=
  let r := s.module m
  match r.state, r.berth with
  | .bound, some b =>
    let x := s.session b
    let part (i : ModuleId) : Nat := shareFloor x.share (s.moduleEntry i).rating.toNat x.sigma
    let total := (s.boundModules b).foldl (fun acc i => acc + part i) 0
    if (s.boundModules b).head? = some m then (part m : Int) + ((x.share : Int) - total) else part m
  | _, _ => 0

/-! ## Settling -/

/-- The end of the settle time (R101): RAMP_IN with P_sh 0. -/
def State.settleEnd (s : State) (b : Berth) : State :=
  if (s.session b).state = .parallel ∧ (s.session b).settle = 0 then
    let s1 := s.enterState b .rampIn
    s1.setSession b { s1.session b with share := 0 }
  else s

/-! ## The headroom budget (R105) -/

/-- Whether the Node Table holds an incomer. -/
def State.hasIncomer (s : State) : Bool := (feedingNode s.cfs.tables .incomer).isSome

/-- The station import at a refresh (R105). -/
def State.importNow (s : State) : Int :=
  if s.hasIncomer then (s.meas .incomer).lastPower
  else (List.finRange 4).foldl (fun acc b => acc + (s.meas (.bus b)).lastPower) 0

/-- A headroom refresh, made in OPERATE only (R105). -/
def State.refresh (s : State) : State :=
  if s.operating then
    let lost := s.roleLost .muIncomer 0
    let limit := s.cfs.tables.station.importLimit.toNat
    let i := s.importNow
    let s1 : State :=
      { s with
        ses := { s.ses with
          incomerLost := lost, stationImport := i, budget := if lost then 0 else ((limit : Int) - i).toNat } }
    if lost = false ∧ (limit : Int) < i then s1.latchStation .importHigh else s1
  else s

/-- The loss of the incomer's node presented (R105). -/
def State.incomerLoss (s : State) : State := { s with ses := { s.ses with incomerLost := true, budget := 0 } }

/-- The recovery of the incomer's node presented (R105). -/
def State.incomerRecovery (s : State) : State := { s with ses := { s.ses with incomerLost := false } }

/-- The headroom record at entry into OPERATE (R105). -/
def State.headroomReset (s : State) : State :=
  { s with ses := { s.ses with budget := 0, stationImport := 0, incomerLost := false } }

/-! ## The ship's reports (R93, R107, R108, R111) -/

/-- The quiet count at a delivery in RAMP_IN (R107). -/
def quietReport (residual : Nat) (output : Int) (r : Session) : Session :=
  if output ≤ residual then
    { r with
      quietCount := min 8000 (r.quietCount + 1)
      gensMayDisconnect := r.gensMayDisconnect || 8000 ≤ r.quietCount + 1 }
  else { r with quietCount := 0, gensMayDisconnect := false }

/-- RAMP_OUT entered from RECALL (R111): P_sh is the B power, clamped to 0 and the cap. -/
def State.recallEnd (s : State) (b : Berth) : State :=
  let share := min (s.session b).cap (s.meas (.bus b)).lastPower.toNat
  let s1 := s.enterState b .rampOut
  s1.setSession b { s1.session b with share := share }

/-- A delivered ship state and generator output stored and acted on, SHIP_ESD apart (R93, R107, R108, R111). An undefined ship state has
been read as the state last delivered (R193), which then counts as brought by this delivery (DEDUCED, entry 30). -/
def State.shipReport (s : State) (b : Berth) (ship : ShipState) (output : Int) : State :=
  let s1 := s.setSession b { s.session b with ship := ship, shipOutput := output }
  match (s1.session b).state with
  | .rampIn =>
    let s2 := s1.setSession b (quietReport (s.berthEntry b).residual.toNat output (s1.session b))
    if ship = .genOff then (s2.enterState b .shore).latchBerth b .shoreSupply else s2
  | .recall => if ship = .genParallel then s1.recallEnd b else s1
  | _ => s1

/-- A second end of point B presented to the session (R112). -/
def State.secondEndSession (s : State) (b : Berth) : State :=
  let r := s.session b
  if r.state = .rampOut then
    let quiet := r.share = 0 ∧ (s.meas (.bus b)).lastPower ≤ (s.berthEntry b).residual.toNat
    let n := if quiet then min 2 (r.quietSeconds + 1) else 0
    let s1 := s.setSession b { r with quietSeconds := n }
    if 2 ≤ n then s1.partShip b else s1
  else s

end Sys2Proof.Machine
end

