-- ==== Sys2Proof/Machine/Reactions.lean ====
section
/-! DEFINITION. Faults and what they do (07): taking a fault, the warning, the trip and the later fault, restarts; and what reaches
the Berth Supervision from breakers (05), nodes (01), oscillators (03), modules' and stage limits (06). -/

namespace Sys2Proof.Machine

open Sys2Proof

/-! ## Taking a fault (R129 to R131) -/

/-- A WARN-class fault (R130): no state of any block changes besides the warning record. -/
def State.warnFault (s : State) (b : Berth) (k : FaultKind) : State :=
  let v := s.superv b
  (s.setSuperv b { v with warnedKind := some k, warnCount := satAdd 65535 v.warnCount 1 }).latchBerth b .warn

/-- The restart timer as the class in force sets it: the restart delay under RESTART, 0 otherwise; restart due cleared
(R130, R131). -/
def State.setRestartTimer (s : State) (b : Berth) : State :=
  let v := s.superv b
  s.setSuperv b
    { v with
      restartTimer := if v.tripClass = some .restart then msCycles s.cfs.tables.station.restartDelay.toNat else 0
      restartDue := false }

/-- A trip presented to the Breaker and Synchroniser (R80, R83): both breakers, and the alignment stopped. -/
def State.tripBreakers (s : State) (b : Berth) : State :=
  let s1 := (s.tripBreaker (.pb b)).tripBreaker (.sb b)
  s1.setSync b (stopAlignment (s1.sync b))

/-- PB's open presented as complete when the trip finds PB open with no command in force (R80). -/
def State.tripPbComplete (s : State) (b : Berth) : State := if breakerAtRest (s.breaker (.pb b)) then s.pbOpenComplete b else s

/-- The trip record's take of a fault (R130). -/
def tripRecord (k : FaultKind) (c : FaultClass) (cycle : BitVec 16) (time : StationTime) (v : Supervision) : Supervision :=
  { v with tripKind := some k, tripClass := some c, tripCycle := cycle, tripTime := time, laterFaults := 0, laterKind := none }

/-- The trip of a berth (R130). Its session's entry into FAULTED is taken before the pool's part; the spec lets either come
first. -/
def State.trip (s : State) (b : Berth) (k : FaultKind) (c : FaultClass) : State :=
  let s1 := s.setSuperv b (tripRecord k c s.rif.cycle s.ctu.time (s.superv b))
  let s2 := (((s1.tripBreakers b).enterFaulted b).tripModules b).tripPbComplete b
  (s2.latchBerth b .trip).setRestartTimer b

/-- The class in force after a later fault (R131). -/
def laterClass (c : FaultClass) (inForce : Option FaultClass) : FaultClass :=
  match inForce with
  | some d => if severity d < severity c then c else d
  | none => c

/-- A later fault (R131). -/
def State.laterFault (s : State) (b : Berth) (k : FaultKind) (c : FaultClass) : State :=
  let v := s.superv b
  let s1 := s.setSuperv b
    { v with
      laterFaults := satAdd 255 v.laterFaults 1, laterKind := some k, tripClass := some (laterClass c v.tripClass) }
  let s2 := ((s1.tripBreakers b).tripModules b).tripPbComplete b
  (s2.setRestartTimer b).latchBerth b .trip

/-- The class a tripping fault takes in a session not yet FAULTED: LATCHED at the third trip (R130). -/
def tripClassFor (attempts : Nat) (c : FaultClass) : FaultClass := if attempts = 2 then .latched else c

/-- A fault presented for berth `b` (R129, R130): nothing in IDLE. -/
def State.fault (s : State) (b : Berth) (k : FaultKind) : State :=
  if (s.session b).state = .idle then s
  else
    match s.classFor k with
    | .warn => s.warnFault b k
    | c =>
      if (s.session b).state = .faulted then s.laterFault b k c
      else s.trip b k (tripClassFor (s.superv b).attempts c)

/-- A fault taken when a judgement asks for it. -/
def State.faultIf (s : State) (raised : Bool) (b : Berth) (k : FaultKind) : State := if raised then s.fault b k else s

/-! ## The protection functions on the state (R125 to R128) -/

/-- A cycle peak current of B presented (R125). -/
def State.superviseCurrent (s : State) (b : Berth) : State :=
  if s.overcurrentSpan b then
    let x := judgeOvercurrent (s.berthEntry b) (s.meas (.bus b)).peak (s.superv b)
    (s.setSuperv b x.1).faultIf x.2 b .overcurrent
  else s

/-- The berth of a point. -/
def pointBerth (p : Point) : Option Berth :=
  match p with
  | .bus b | .plug b | .ship b => some b
  | .incomer => none

/-- An RMS computation of a point presented (R126). -/
def State.superviseVoltage (s : State) (p : Point) : State :=
  match pointBerth p with
  | some b =>
    if s.voltageSpan b && s.watched p then
      let x := judgeVoltage (s.berthEntry b) p (s.meas p) (s.superv b)
      (s.setSuperv b x.1).faultIf x.2 b .busVoltage
    else s
  | none => s

/-- A valid crossing of a point presented (R127). -/
def State.superviseFrequency (s : State) (p : Point) : State :=
  match pointBerth p with
  | some b =>
    match (s.session b).fnom with
    | some f =>
      if s.voltageSpan b && s.watched p then
        let x := judgeFrequency f p (s.meas p) (s.superv b)
        (s.setSuperv b x.1).faultIf x.2 b .busFrequency
      else s
    | none => s
  | none => s

/-- A second end of B presented (R128). -/
def State.superviseReverse (s : State) (b : Berth) : State :=
  if inReverseSpan (s.session b).state then
    let x := judgeReverse (s.berthEntry b) (s.meas (.bus b)).lastPower (s.superv b)
    (s.setSuperv b x.1).faultIf x.2 b .reversePower
  else s

/-! ## Breakers (R75, R79) -/

/-- The fault kind of a breaker's failure (R129). -/
def failKind (k : Breaker) : FaultKind :=
  match k with
  | .pb _ => .pbFail
  | .sb _ => .sbFail

/-- What a breaker's unit delivers (R192). -/
structure BreakerReport where
  status : BreakerStatus
  ready : Bool
  offset : Nat
  deriving DecidableEq, Repr

/-- An uncommanded open presented to the Berth Supervision (R129); `was` is the session's state before the open. -/
def State.uncommandedOpenFault (s : State) (k : Breaker) (was : SessionState) : State :=
  match k with
  | .pb b => if (s.session b).state = .faulted then s else s.fault b .pbFail
  | .sb b => if onShipBus was then s.fault b .sbOpened else s

/-- An uncommanded open presented to the Session Controller and the Berth Supervision, in the order given (R75, R117). -/
def State.presentUncommandedOpen (s : State) (supervisionFirst : Bool) (k : Breaker) : State :=
  let was := (s.session (breakerBerth k)).state
  if supervisionFirst then (s.uncommandedOpenFault k was).uncommandedOpen k
  else (s.uncommandedOpen k).uncommandedOpenFault k was

/-- The presentations of a change of reported status (R75); `old` is the record before the delivery. -/
def State.breakerReport (s : State) (supervisionFirst : Bool) (k : Breaker) (old : BreakerRecord) (status : BreakerStatus) : State :=
  let b := breakerBerth k
  match status with
  | .closed =>
    if old.status = .closed then s
    else if old.command = .close then s.startBlanking b
    else (s.startBlanking b).fault b (failKind k)
  | .open =>
    if (old.status = .closed ∨ old.status = .moving) ∧ old.command = .none then s.presentUncommandedOpen supervisionFirst k else s
  | .fault => if old.status = .fault then s else s.fault b (failKind k)
  | .moving => s

/-- A CLOSE in force ended: NONE, with withdrawn cleared (R79). -/
def State.clearClose (s : State) (k : Breaker) : State :=
  s.setBreaker k { s.breaker k with command := .none, withdrawn := false }

/-- An OPEN in force ended: NONE, with limit reported cleared (R79). -/
def State.clearOpen (s : State) (k : Breaker) : State :=
  s.setBreaker k { s.breaker k with command := .none, limitReported := false }

/-- Whether a withdrawn close may settle at a delivery of cycle `n` (R79). -/
def maySettle (n : Ext) (r : BreakerRecord) : Bool := r.withdrawn && 2 ≤ (n - r.withdrawCycle).toNat

/-- A CLOSE completed by a delivery (R79, R81). -/
def State.closeCompletes (s : State) (k : Breaker) : State :=
  let r := s.breaker k
  let s1 := (s.concludeMeasurement k (plausible (s.breakerEntry k) (measuredTime s.ext r.issue r.offset))).clearClose k
  (if r.withdrawn then s1.issueOpen k else s1).closeComplete k

/-- A delivery offered to the command rules and the close-time measurement (R79, R81). -/
def State.commandEnd (s : State) (k : Breaker) : State :=
  let r := s.breaker k
  match r.command, r.status with
  | .close, .closed => s.closeCompletes k
  | .close, .open => if maySettle s.ext r then ((s.concludeMeasurement k none).clearClose k).openComplete k else s
  | .open, .open => (s.clearOpen k).openComplete k
  | _, _ => s

/-- An on-time delivery for a breaker (R75). -/
def State.breakerDelivery (s : State) (supervisionFirst : Bool) (k : Breaker) (d : BreakerReport) : State :=
  let old := s.breaker k
  let s1 := s.setBreaker k { old with status := d.status, ready := d.ready, offset := d.offset }
  (s1.breakerReport supervisionFirst k old d.status).commandEnd k

/-- The operate limit of a command in force reached (R79). -/
def State.breakerLimit (s : State) (k : Breaker) : State :=
  let r := s.breaker k
  if s.operating && limitReached s.ext r then
    match r.command with
    | .close =>
      let s1 := (s.concludeMeasurement k none).clearClose k
      let s2 := if r.withdrawn = true ∧ r.status ≠ .open then s1.issueOpen k else s1
      s2.fault (breakerBerth k) (failKind k)
    | .open => (s.setBreaker k { r with limitReported := true }).fault (breakerBerth k) (failKind k)
    | .none => s
  else s

/-- The plug breaker's close presented again after a refusal (R96). -/
def State.pbCloseRetry (s : State) (b : Berth) : State :=
  if (s.session b).state = .energising ∧ (s.session b).pbRetry = true then s.presentPbClose b else s

/-! ## Lock (R44) -/

/-- Entry into holdover (R44). -/
def State.holdoverEntry (s : State) (b : Berth) : State :=
  let o := s.osc b
  if o.mode = .lock ∧ o.holdover = false ∧ holdoverLimit o.fnom ≤ o.watchdog then
    (s.setOsc b { o with holdover := true }).fault b .lockLost
  else s

/-! ## Nodes (R11, R12) -/

/-- The loss of a node presented to the owner of its consequences (R12). -/
def State.presentLoss (s : State) (e : NodeEntry) : State :=
  match roleOf e.role with
  | some .module => (match moduleOf e.target with
    | some m => s.moduleNodeLost m
    | none => s)
  | some .muBerth => (match berthOf e.target with
    | some b => s.fault b .meterLost
    | none => s)
  | some .plugBu => (match berthOf e.target with
    | some b => s.fault b .plugUnitLost
    | none => s)
  | some .siu => (match berthOf e.target with
    | some b => s.fault b .shipLinkLost
    | none => s)
  | some .muIncomer => s.incomerLoss
  | some .none | some .station | none => s

/-- The recovery of a node presented (R12): the pool tests a FAILED module again (R61), the headroom mark is cleared (R105), and
the supervision is left as it is (R129). -/
def State.presentRecovery (s : State) (e : NodeEntry) : State :=
  match roleOf e.role with
  | some .module => (match moduleOf e.target with
    | some m => s.failedToCooldown m
    | none => s)
  | some .muIncomer => s.incomerRecovery
  | some .muBerth | some .plugBu | some .siu | some .none | some .station | none => s

/-- A node's loss (R11, R12): its counter has reached its limit. -/
def State.nodeLost (s : State) (n : NodeIx) : State :=
  let h := s.health n
  let e := s.nodeEntry n
  if s.operating && countedRole e && !h.lost && e.limit.toNat ≤ h.counter then
    ((s.setHealth n { h with lost := true }).latchStation .nodeLost).presentLoss e
  else s

/-- A node's recovery (R11, R12): its counter has returned to 0. -/
def State.nodeRecovered (s : State) (n : NodeIx) : State :=
  let h := s.health n
  let e := s.nodeEntry n
  if s.operating && countedRole e && h.lost && h.counter == 0 then
    ((s.setHealth n { h with lost := false }).latchStation .nodeRecovered).presentRecovery e
  else s

/-! ## Stage limits (R98, R109) -/

/-- Whether a session's stage timer runs (R98). -/
def stageRunning (r : Session) : Bool :=
  r.strikes < 2 &&
    (match r.state with
      | .reserving | .energising | .rampIn | .recall | .rampOut | .parting => true
      | .syncing => !r.closeIssued
      | .idle | .connected | .parallel | .shore | .draining | .faulted => false)

/-- The first expiry of a stage limit (R98, R109). -/
def State.firstStrike (s : State) (b : Berth) : State :=
  let s1 := (s.setSession b { s.session b with strikes := 1, stageTimer := 0 }).latchBerth b .stageSlow
  if (s1.session b).state = .rampIn ∧ s1.held b < (s1.berthEntry b).maxModules.toNat then s1.allocRequest b 1 .normal else s1

/-- The second expiry's outcome (R98). -/
def State.secondStrike (s : State) (b : Berth) : State :=
  let s1 := s.setSession b { s.session b with strikes := 2 }
  match (s1.session b).state with
  | .reserving =>
    let s2 := s1.cancelAlloc b
    (s2.setSession b { s2.session b with endReason := some .noModules }).idleEntry b
  | .energising => s1.enterDraining b .energiseTimeout true
  | .syncing => (s1.enterState b .connected).latchBerth b .syncTimeout
  | .rampIn => (s1.enterState b .rampOut).latchBerth b .handoverFailed
  | .recall => (s1.enterState b .shore).latchBerth b .recallTimeout
  | .rampOut => (s1.latchBerth b .handoverFailed).partShip b
  | .parting => s1.fault b .sbFail
  | .idle | .connected | .parallel | .shore | .draining | .faulted => s1

/-- A stage limit expired (R98). -/
def State.stageExpiry (s : State) (b : Berth) : State :=
  let r := s.session b
  if stageRunning r && r.stageLimit ≤ r.stageTimer then
    if r.strikes = 0 then s.firstStrike b else s.secondStrike b
  else s

/-! ## Restart (R133, R134) -/

/-- The end of blanking (R124). -/
def State.blankEnd (s : State) (b : Berth) : State :=
  if (s.superv b).blank = 1 then s.setSuperv b { s.superv b with blank := 0 } else s

/-- Whether berth `b` waits for a restart (R133). -/
def State.awaitsRestart (s : State) (b : Berth) : Bool :=
  (s.session b).state == .faulted && (s.superv b).tripClass == some .restart

/-- The restart timer has reached 0 (R133). -/
def State.restartDue (s : State) (b : Berth) : State :=
  if s.operating && s.awaitsRestart b && (s.superv b).restartTimer == 0 then
    s.setSuperv b { s.superv b with restartDue := true }
  else s

/-- Whether a node of berth `b` is LOST (R133). -/
def State.berthNodeLost (s : State) (b : Berth) : Bool :=
  s.roleLost .muBerth b.val || s.roleLost .plugBu b.val || s.roleLost .siu b.val

/-- The restart conditions (R133). -/
def State.restartConditions (s : State) (b : Berth) : Bool :=
  s.operating && !s.cfs.invalid && flagOf (s.berthEntry b).enabled && breakerAtRest (s.breaker (.pb b))
    && breakerAtRest (s.breaker (.sb b)) && !s.berthNodeLost b && (s.session b).ship != .shipEsd

/-- A restart (R134), made when restart due is set and every condition holds (R133). An end reason that a drain had set before the trip
stays (DEDUCED, entry 42). -/
def State.restart (s : State) (b : Berth) : State :=
  if s.awaitsRestart b && (s.superv b).restartDue && s.restartConditions b then
    let v := s.superv b
    let s1 := (s.setSuperv b { v with attempts := v.attempts + 1, restartDue := false, tripClass := none }).enterState b .reserving
    (s1.allocRequest b (s1.session b).requested .normal).latchBerth b .restart
  else s

/-- The checks at the entry into RESERVING by OPEN SESSION (R129): a loss or an ESD that will not be presented again. Where several
stand, they are taken in this order, which R129 leaves open (DESIGN CHOICE, entry 43). -/
def State.openingFaults (s : State) (b : Berth) : State :=
  let s1 := s.faultIf (s.roleLost .muBerth b.val) b .meterLost
  let s2 := s1.faultIf (s.roleLost .plugBu b.val) b .plugUnitLost
  let s3 := s2.faultIf (s.roleLost .siu b.val) b .shipLinkLost
  s3.faultIf ((s.session b).ship == .shipEsd) b .shipEsd

/-- A ship's report with the change to SHIP_ESD presented (R93). -/
def State.siuReport (s : State) (b : Berth) (ship : ShipState) (output : Int) : State :=
  let old := (s.session b).ship
  let s1 := s.shipReport b ship output
  s1.faultIf (ship == .shipEsd && old != .shipEsd) b .shipEsd

end Sys2Proof.Machine
end

