-- ==== Sys2Proof/Machine/Presentations.lean ====
section
/-! DEFINITION. What the Measurement Front End presents (02, R32): a point cycle with its presentations, the no-crossing timeout,
the undelivered points of a boundary, and the end of a measurement second. -/

namespace Sys2Proof.Machine

open Sys2Proof

/-! ## Valid crossings -/

/-- A valid B crossing presented to the oscillator (R43). -/
def State.lockCrossing (s : State) (b : Berth) (n : Ext) (t : Ticks) : State :=
  s.setOsc b (lockCorrection n t (s.meas (.bus b)).freq (s.osc b))

/-- A valid P crossing presented to the Breaker and Synchroniser: alignment (R84, R85) and history (R86). -/
def State.plugCrossing (s : State) (b : Berth) (t : Ticks) : State :=
  let x := alignmentCrossing (s.meas (.bus b)) (s.meas (.plug b)) t (s.sync b)
  let s1 := s.setSync b (recordPCrossing t x.1)
  match x.2 with
  | some true => s1.alignmentSuccess b
  | some false => s1.fault b .phasing
  | none => s1

/-- The issue of the sync close (R89): the close request for SB, the attempt CLOSE_ISSUED, and the issue presented to the
session. -/
def State.issueSyncClose (s : State) (b : Berth) : State :=
  let s1 := (s.closeRequest (.sb b)).1
  (s1.setSync b { s1.sync b with attempt := .closeIssued }).syncCloseIssued b

/-- A valid S crossing presented to the Breaker and Synchroniser: one sync evaluation while EVALUATING (R87 to R89). -/
def State.shipCrossing (s : State) (b : Berth) (t : Ticks) : State :=
  if (s.sync b).attempt = .evaluating then
    let v := syncEvaluation (s.meas (.plug b)) (s.meas (.ship b)) (s.breaker (.sb b)) (s.breaker (.pb b)) (s.berthEntry b)
      (s.osc b).fnom t (s.sync b)
    let s1 := s.setSync b (afterEvaluation v (s.sync b))
    if 3 ≤ (s1.sync b).stability then s1.issueSyncClose b else s1
  else s

/-- A valid S crossing presented to the oscillator (R42). -/
def State.trackCrossing (s : State) (b : Berth) : State :=
  s.setOsc b (trackUpdate (s.berthEntry b).slipTarget.toNat (s.meas (.ship b)).freq (s.osc b))

/-- A valid L1 crossing presented (R32): to the oscillator (R42, R43), the Breaker and Synchroniser (R84 to R89), and the supervision's
voltage (R126) and frequency (R127) functions. R32 leaves their order open; this one, which decides what a trip by one of them
finds, is the model's (DESIGN CHOICE, entry 38). -/
def State.presentCrossing (s : State) (p : Point) (n : Ext) (t : Ticks) : State :=
  match p with
  | .bus b => ((s.lockCrossing b n t).superviseVoltage p).superviseFrequency p
  | .plug b => ((s.plugCrossing b t).superviseVoltage p).superviseFrequency p
  | .ship b => (((s.trackCrossing b).shipCrossing b t).superviseVoltage p).superviseFrequency p
  | .incomer => s

/-! ## The point cycle -/

/-- What every point cycle of B presents (R32): a substituted cycle, then its peak current (DESIGN CHOICE, entry 38). -/
def State.presentEveryCycle (s : State) (p : Point) (n : Ext) (substituted : Bool) : State :=
  match p with
  | .bus b =>
    let s1 := if substituted then s.substitutedCycle b n else s
    s1.superviseCurrent b
  | .plug _ | .ship _ | .incomer => s

/-- The point cycle of a point for cycle `n` with its presentations (R20, R32), a valid crossing's before those of every cycle: the
model's order (DESIGN CHOICE, entry 38). A window that has reached 101 samples makes the no-crossing timeout due (R25), whose
voltage judgement then follows the peak current of the same cycle (entry 38). -/
def State.runCycle (s : State) (p : Point) (n : Ext) (e : NodeEntry) (sample : Option (Tri Int × Tri Int)) : State :=
  let o := pointCycle p n e (s.pointVnom p) sample (s.meas p)
  let s1 := s.setMeas p o.record
  let s2 := if timeoutReached o.record then s1.addDueOnce (.noCrossingTimeout p) else s1
  let s3 := match o.validCross with
    | some t => s2.presentCrossing p n t
    | none => s2
  s3.presentEveryCycle p n o.substituted

/-- The no-crossing timeout of a point (R25, R126). -/
def State.noCrossing (s : State) (p : Point) : State :=
  match feedingNode s.cfs.tables p with
  | some i =>
    if timeoutReached (s.meas p) then
      (s.setMeas p (timeoutRecord (s.nodeEntry i).vfs.toNat (s.pointVnom p) (s.meas p))).superviseVoltage p
    else s
  | none => s

/-- A due no-crossing timeout taken at once, so that P's point cycle is complete before S's is taken (R20). -/
def State.takeTimeout (s : State) (p : Point) : State :=
  if Due.noCrossingTimeout p ∈ s.due then ({ s with due := s.due.erase (.noCrossingTimeout p) }).noCrossing p else s

/-- Every no-crossing timeout that is due taken: stage 6 of the point cycles of the ending cycle (R20, R25). -/
def State.takeTimeouts (s : State) : State := allPoints.foldl State.takeTimeout s

/-- The front end runs for the current cycle: the part is in OPERATE and the cycle opened in OPERATE (R8, R19). -/
def State.cycleRuns (s : State) : Bool := s.operating && s.rif.cycleOperate

/-- The point cycle of a point that received no on-time delivery in the ending cycle `n` (R8, R20). -/
def State.undelivered (n : Ext) (s : State) (p : Point) : State :=
  match feedingNode s.cfs.tables p with
  | some i => if s.rif.pointsFed.contains p then s else s.runCycle p n (s.nodeEntry i) none
  | none => s

/-- The point cycles of the ending cycle that no delivery gave (R20), point by point in the order of `allPoints` (DESIGN CHOICE,
entry 41). -/
def State.undeliveredCycles (s : State) : State :=
  if s.cycleRuns then allPoints.foldl (State.undelivered s.rif.ext) s else s

/-! ## The end of a measurement second (R30, R31) -/

/-- The feeding entry of a point. -/
def State.feedingEntry (s : State) (p : Point) : Option NodeEntry := (feedingNode s.cfs.tables p).map s.nodeEntry

/-- Point B of a berth at the end of a second, with its presentations to the meter, the session and the supervision (R30,
R32). -/
def State.closeBus (b : Berth) (s : State) : State :=
  let r := s.meas (.bus b)
  let e := s.feedingEntry (.bus b)
  let s1 := s.setMeas (.bus b) (closeSecond e r)
  match e with
  | some x => if r.tally = 4000 then ((s1.secondEndMeter b x).secondEndSession b).superviseReverse b else s1
  | none => s1

/-- Point G at the end of a second (R30). -/
def State.closeIncomer (s : State) : State :=
  s.setMeas .incomer (closeSecond (s.feedingEntry .incomer) (s.meas .incomer))

/-- The end of a measurement second, after the point cycles of its last cycle, their timeouts included: the closes of B and G and the
headroom refresh, in the order given (R30, R105). -/
def State.secondEnd (s : State) (refreshFirst : Bool) : State :=
  let s0 := s.takeTimeouts
  let s1 := if refreshFirst then s0.refresh else s0
  let s2 := (forEach State.closeBus s1).closeIncomer
  if refreshFirst then s2 else s2.refresh

end Sys2Proof.Machine
end

