-- ==== Sys2Proof/Machine/Management.lean ====
section
/-! DEFINITION. The Management Request Handler (11): the arrival of a request, its form, the response queue, and what the Ring
Interface takes from the two queues. The requests' own effects stand in Requests.lean. -/

namespace Sys2Proof.Machine

open Sys2Proof

/-! ## Answers (R184) -/

/-- A DONE answer with its results. -/
def doneWith (l : List Item) : Answer := ⟨.done, none, l⟩

/-- A DONE answer without results. -/
def done : Answer := doneWith []

/-- An ACCEPTED answer with its results. -/
def acceptedWith (l : List Item) : Answer := ⟨.accepted, none, l⟩

/-- A refusal with a detail. -/
def refusedWith (r : Reason) (l : List Item) : Answer := ⟨.refused, some r, l⟩

/-- A refusal without a detail. -/
def refused (r : Reason) : Answer := refusedWith r []

/-- The body of a response (R192). -/
def responseBody (r : Response) : List Byte :=
  bytesOf 2 r.tag.toNat ++ [r.code, BitVec.ofNat 8 (answerKindCode r.answer.kind),
    BitVec.ofNat 8 ((r.answer.reason.map reasonCode).getD 0)] ++ itemsBytes r.answer.items

/-! ## Codes and argument lengths (R195) -/

/-- Whether a code names a request of the catalogue. -/
def knownCode (c : Byte) : Bool := 1 ≤ c.toNat && c.toNat ≤ 26

/-- The number of argument bytes a code requires; for WRITE TABLE ENTRY it depends on the table named, and a table code above 5
is measured against no image size. -/
def argLength (c : Byte) (args : List Byte) : Option Nat :=
  match c.toNat with
  | 1 | 23 => some 2
  | 2 => (imageSize (byteAt args 0)).map (fun n => n + 2)
  | 3 | 20 => some 4
  | 5 => some 6
  | 6 => some 8
  | 7 => some 5
  | 9 => some 12
  | 10 | 11 | 12 | 13 | 14 | 15 | 16 | 17 | 18 | 21 | 24 => some 1
  | 25 | 26 => some 3
  | _ => some 0

/-- Whether a request carries the number of argument bytes its code requires (R183, R195). A WRITE TABLE ENTRY without a table
byte carries too few. -/
def lengthFits (r : Request) : Bool :=
  if r.code = 2 ∧ r.args = [] then false
  else match argLength r.code r.args with
    | some n => r.args.length == n
    | none => false

/-! ## Arrival (R181, R182) -/

/-- Whether a Node entry holds a role code. -/
def isStation (e : NodeEntry) : Bool := roleOf e.role == some .station

/-- Whether the Node Table holds a STATION entry. -/
def State.hasStation (s : State) : Bool := (vlist s.cfs.tables.node).any isStation

/-- Whether a request's source is accepted (R182). -/
def State.sourceAccepted (s : State) (source : Byte) : Bool :=
  if s.hasStation then
    match nodeOf source with
    | some n => isStation (s.nodeEntry n)
    | none => false
  else true

/-- The request that an MRQ body carries (R195). -/
def requestOf (source : Byte) (body : List Byte) : Request :=
  { source := source, tag := BitVec.ofNat 16 (natOf (field body 0 2)), code := byteAt body 2, args := body.drop 3 }

/-- The response to a request. -/
def responseTo (r : Request) (a : Answer) : Response := ⟨r.source, r.tag, r.code, a⟩

/-- The head request answered: it leaves the request queue in the event in which its response joins the response queue (R183). The
count stays as it is. -/
def State.answerHead (s : State) (a : Answer) : State :=
  match s.mrh.requests with
  | r :: l => { s with mrh := { s.mrh with requests := l, responses := s.mrh.responses ++ [responseTo r a] } }
  | [] => s

/-- A head request of an unknown code is answered UNKNOWN as it stands there (R183). -/
def State.answerUnknown (s : State) : State :=
  match s.mrh.requests with
  | r :: _ => if knownCode r.code then s else s.answerHead (refused .unknown)
  | [] => s

/-- The arrival of a request handed on by the Ring Interface (R181). -/
def State.requestArrival (s : State) (r : Request) : State :=
  if 16 ≤ s.mrh.count then
    ({ s with mrh := { s.mrh with dropped := satAdd 65535 s.mrh.dropped 1 } }).latchStation .requestDropped
  else if s.sourceAccepted r.source then
    ({ s with mrh := { s.mrh with requests := s.mrh.requests ++ [r] }.updateHold }).answerUnknown
  else
    { s with mrh := { s.mrh with responses := s.mrh.responses ++ [responseTo r (refused .source)] }.updateHold }

/-! ## What the Ring Interface takes (R10, R189) -/

/-- The frame of a response (R10, R192). -/
def responseFrame (cycle : BitVec 16) (r : Response) : RingFrame := ownFrame r.dest .mrs cycle (responseBody r)

/-- The body of a notice: scope, flags named, and the scope's latched marks as they stand (R189, R192). -/
def noticeBody (latched : Marks) (n : Notice) : List Byte :=
  [BitVec.ofNat 8 (scopeNumber n.scope), BitVec.ofNat 8 n.flags.length] ++ n.flags.map (BitVec.ofNat 8)
    ++ bytesOf 2 (latched.get n.scope).toNat

/-- The frame of a notice, to the station controller address (R10). -/
def State.noticeFrame (s : State) (n : Notice) : RingFrame :=
  ownFrame s.cfs.tables.station.controller .evn s.rif.cycle (noticeBody s.mrh.latched n)

/-- The insertion queue filled: at most two frames, responses first (R10). Each response taken lowers the count (R181, R185). -/
def State.fillInsertion (s : State) : State :=
  let r := s.mrh.responses.take 2
  let n := s.mrh.notices.take (2 - r.length)
  { s with
    rif := { s.rif with insertion := r.map (responseFrame s.rif.cycle) ++ n.map s.noticeFrame }
    mrh := { s.mrh with responses := s.mrh.responses.drop 2, notices := s.mrh.notices.drop (2 - r.length) }.updateHold }

end Sys2Proof.Machine
end

