-- ==== Sys2Proof/Machine/Ring.lean ====
section
/-! DEFINITION. The Ring Interface (01): the treatment of an arriving frame, the command sections, deliveries, the emission of the
cycle frame with its insertions, and what a boundary concludes. -/

namespace Sys2Proof.Machine

open Sys2Proof

/-! ## Command sections (R9, R46, R53, R76, R119, R192) -/

/-- Selector command code (12, Codes). -/
def selectorCommand (b : Option Berth) : Nat :=
  match b with
  | some x => x.val + 2
  | none => 1

/-- Breaker operation code; a PROTECTION_OPEN is written as an open (R53). -/
def moduleOpCode (o : ModuleOp) : Nat :=
  match o with
  | .none => 0
  | .close => 1
  | .open | .protectionOpen => 2

/-- Run command, selector and breaker operation codes of a module record (R53). -/
def moduleCommandCodes (r : ModuleRecord) : Nat × Nat × Nat :=
  match r.state with
  | .free | .cooldown => (2, 1, 0)
  | .starting | .bound => (1, selectorCommand r.berth, moduleOpCode r.op)
  | .stopping => if r.stopPhase then (2, selectorCommand r.berth, 0) else (1, selectorCommand r.berth, moduleOpCode r.op)
  | .failed | .blocked => (2, 1, moduleOpCode r.op)

/-- The increment, next-cycle phase, voltage setpoint and control mode of a module (R46 to R48). With no V_nom the setpoint is
written 0 (entry 23). -/
def State.oscillatorItems (s : State) (m : ModuleId) : List Byte :=
  let r := s.module m
  match isHolding r, r.berth with
  | true, some b =>
    let o := s.osc b
    let x := s.session b
    bytesOf 4 o.k.toNat ++ bytesOf 4 (o.phase + o.k).toNat
      ++ bytesOf 2 (voltageSetpoint x.state (x.vnom.getD 0) (s.meas (.ship b)).lineVolts)
      ++ bytesOf 1 (controlModeFor x.state)
  | _, _ => List.replicate 11 0

/-- The 16 bytes of a module's command section. -/
def State.moduleSection (s : State) (m : ModuleId) : List Byte :=
  let c := moduleCommandCodes (s.module m)
  bytesOf 1 c.1 ++ bytesOf 1 c.2.1 ++ bytesOf 1 c.2.2 ++ s.oscillatorItems m ++ bytesOfInt 2 (s.powerSetpoint m)

/-- Breaker command code of a breaker record (R76). -/
def breakerCode (r : BreakerRecord) : Nat :=
  match r.command with
  | .none => 0
  | .close => if r.withdrawn then 0 else 1
  | .open => 2

/-- The byte of a plug breaker unit's command section. -/
def State.plugSection (s : State) (b : Berth) : List Byte := bytesOf 1 (breakerCode (s.breaker (.pb b)))

/-- The requests byte of an SIU command section (R192). -/
def requestBits (r : Session) : Nat := (if r.gensMayDisconnect then 1 else 0) + (if r.gensStart then 2 else 0)

/-- The 5 bytes of a ship interface unit's command section (R76, R119). -/
def State.shipSection (s : State) (b : Berth) : List Byte :=
  let r := s.session b
  bytesOf 1 (breakerCode (s.breaker (.sb b))) ++ bytesOf 2 r.share ++ bytesOf 1 (phaseCode r.phase) ++ bytesOf 1 (requestBits r)

/-- The offset at which a kind's command section begins, and its length (R192). -/
def sectionPlace (k : FrameKind) : Nat × Nat :=
  match k with
  | .mod => (7, 16)
  | .brk => (3, 1)
  | .siu => (20, 5)
  | .cyc | .smp | .mrq | .mrs | .evn => (0, 0)

/-- The command section for a kind and a target, from its owners' state; nothing where no owner has the target. -/
def State.ownerSection (s : State) (k : FrameKind) (target : Byte) : Option (List Byte) :=
  match k with
  | .mod => (moduleOf target).map s.moduleSection
  | .brk => (berthOf target).map s.plugSection
  | .siu => (berthOf target).map s.shipSection
  | .cyc | .smp | .mrq | .mrs | .evn => none

/-- The command section written (R9): all zero bytes in CONFIG mode or where nothing is in force for the target. -/
def State.commandSection (s : State) (k : FrameKind) (target : Byte) : List Byte :=
  let zeros := List.replicate (sectionPlace k).2 (0 : Byte)
  if s.operating then (s.ownerSection k target).getD zeros else zeros

/-- Whether a kind carries a command section. -/
def hasSection (k : FrameKind) : Bool :=
  match k with
  | .mod | .brk | .siu => true
  | .cyc | .smp | .mrq | .mrs | .evn => false

/-- A frame as it is forwarded after the source check: rewritten when its kind carries a command section, untouched otherwise
(R7, R9). -/
def State.forwarded (s : State) (k : FrameKind) (target : Byte) (f : RingFrame) : RingFrame :=
  if hasSection k then rewriteFrame f (f.body.take (sectionPlace k).1 ++ s.commandSection k target) else f

/-! ## Deliveries (R7, R8) -/

/-- A breaker's status, ready flag and contact offset at an offset of a body (R192, R193). -/
def breakerReportAt (body : List Byte) (i : Nat) : BreakerReport :=
  { status := statusOf (byteAt body i), ready := readyOf (byteAt body (i + 1)), offset := offsetOf (byteAt body (i + 2)) }

/-- An SMP delivery handed to the front end (R8). -/
def State.samplesDelivery (s : State) (e : NodeEntry) (body : List Byte) : State :=
  let sample := some (samplesAt body 0, samplesAt body 6)
  (pointsFedBy e).foldl (fun s p => s.runCycle p s.ext e sample) s

/-- An SIU delivery handed to its three consumers: the front end with P before S (R20), each point's no-crossing timeout with its
point cycle (R25), then the session, then the breaker (R8; entry 8). -/
def State.shipDelivery (s : State) (o : DeliveryOrder) (e : NodeEntry) (body : List Byte) : State :=
  match berthOf e.target with
  | some b =>
    let s1 := (s.runCycle (.plug b) s.ext e (some (samplesAt body 0, triOf 0))).takeTimeout (.plug b)
    let s2 := (s1.runCycle (.ship b) s.ext e (some (samplesAt body 6, triOf 0))).takeTimeout (.ship b)
    let s3 := s2.siuReport b (shipOf (s2.session b).ship (byteAt body 12)) (intOf (field body 13 4))
    s3.breakerDelivery o.supervisionFirst (.sb b) (breakerReportAt body 17)
  | none => s

/-- The contents of an on-time delivery handed to their consumers (R8). -/
def State.handOn (s : State) (o : DeliveryOrder) (k : FrameKind) (e : NodeEntry) (body : List Byte) : State :=
  match k with
  | .smp => s.samplesDelivery e body
  | .mod => (match moduleOf e.target with
    | some m => s.moduleDelivery m (moduleReport body)
    | none => s)
  | .brk => (match berthOf e.target with
    | some b => s.breakerDelivery o.supervisionFirst (.pb b) (breakerReportAt body 0)
    | none => s)
  | .siu => s.shipDelivery o e body
  | .cyc | .mrq | .mrs | .evn => s

/-- The marks of a node's first on-time delivery in a cycle: delivered (R11), taken (R7), and the points fed (R8). -/
def State.markDelivered (s : State) (n : NodeIx) : State :=
  let s1 := s.setHealth n { s.health n with delivered := true }
  { s1 with
    rif := { s1.rif with taken := vset s1.rif.taken n true, pointsFed := s1.rif.pointsFed ++ pointsFedBy (s.nodeEntry n) } }

/-- A delivery with its effects: marked, and handed on while the part is in OPERATE in a cycle that opened in OPERATE (R8). -/
def State.deliver (s : State) (o : DeliveryOrder) (k : FrameKind) (n : NodeIx) (body : List Byte) : State :=
  let s1 := s.markDelivered n
  if s1.cycleRuns then s1.handOn o k (s.nodeEntry n) body else s1

/-- A frame that has passed the source check (R7): late and duplicate frames are only forwarded; a delivery takes effect, and its
command section is written from the state before or after those effects, as the order says (R9). -/
def State.passedSource (s : State) (o : DeliveryOrder) (k : FrameKind) (n : NodeIx) (f : RingFrame) : State :=
  let target := (s.nodeEntry n).target
  if f.cycle ≠ s.rif.cycle ∨ vget s.rif.taken n = true then s.send [s.forwarded k target f]
  else
    let s1 := s.deliver o k n f.body
    s1.send [(if o.sectionFirst then s else s1).forwarded k target f]

/-! ## The treatment of an arriving frame (R1, R4 to R7) -/

/-- A source's item in a survey set with one more frame (R15). -/
def extendItem (k : FrameKind) (late : Bool) (i : SurveyItem) : SurveyItem :=
  { i with kinds := if i.kinds.contains k then i.kinds else i.kinds ++ [k], late := i.late || late }

/-- A frame seen for the survey (R15). -/
def surveyAdd (source : Byte) (k : FrameKind) (late : Bool) (l : List SurveyItem) : List SurveyItem :=
  if l.any (fun i => i.source == source) then l.map (fun i => if i.source == source then extendItem k late i else i)
  else l ++ [⟨source, [k], late⟩]

/-- The survey after a frame that passed the length and CRC checks; only sources 1 to 31 count (R15). -/
def State.survey (s : State) (k : FrameKind) (f : RingFrame) : State :=
  if (nodeOf f.source).isSome then
    { s with rif := { s.rif with current := surveyAdd f.source k (f.cycle != s.rif.cycle) s.rif.current } }
  else s

/-- A frame that fails the source check (R5). -/
def State.unknownSource (s : State) (k : FrameKind) (f : RingFrame) : State :=
  (({ s with rif := { s.rif with lastUnknown := some (f.source, k) } }).latchStation .unknownNode).send [f]

/-- The part's own frame come back (R5, R14): removed, and a cycle frame of the current cycle noted as returned. -/
def State.ownReturn (s : State) (k : FrameKind) (f : RingFrame) : State :=
  if k = .cyc ∧ f.cycle = s.rif.cycle then { s with rif := { s.rif with returned := true } } else s

/-- The node that a frame's source and kind match in the Node Table (R5). -/
def State.matchingNode (s : State) (k : FrameKind) (source : Byte) : Option NodeIx :=
  match nodeOf source with
  | some n => (match roleOf (s.nodeEntry n).role with
    | some r => if roleMatches k r then some n else none
    | none => none)
  | none => none

/-- An MRQ frame from a nonzero source that passed its checks (R6). -/
def State.requestFrame (s : State) (f : RingFrame) : State :=
  if f.dest = 0 then s.requestArrival (requestOf f.source f.body) else s.send [f]

/-- The source check and what follows it (R5 to R7). -/
def State.checkSource (s : State) (o : DeliveryOrder) (k : FrameKind) (f : RingFrame) : State :=
  if f.source = 0 then s.ownReturn k f
  else if k = .mrq then s.requestFrame f
  else match s.matchingNode k f.source with
    | some n => s.passedSource o k n f
    | none => s.unknownSource k f

/-- A frame of kind 0 to 7 (R4, R16): one that fails the length or CRC check is forwarded untouched; before the first cycle frame
only a request is used. R16 excepts an MRQ addressed to 0 "as R6 states", and R6 states nothing for source 0: such a frame, addressed
to 0 or not, falls under R16's other half and is forwarded untouched before the first cycle frame (DEDUCED, entry 46). -/
def State.checkFrame (s : State) (o : DeliveryOrder) (k : FrameKind) (f : RingFrame) : State :=
  if checksGood k f then
    if s.rif.started then (s.survey k f).checkSource o k f
    else if k = .mrq ∧ f.source ≠ 0 then s.requestFrame f
    else s.send [f]
  else s.send [f]

/-- An arriving frame of a kind nibble (R1, R4). A frame cut short is neither forwarded nor used. -/
def State.arrive (s : State) (o : DeliveryOrder) (nibble : BitVec 4) (a : Arrival) : State :=
  if a.whole then
    let f := arrivalFrame nibble a
    if 8 ≤ nibble.toNat then s.send [f] else s.checkFrame o (kindOf (nibble.setWidth 3)) f
  else s

/-- The kind nibble of a defined kind. -/
def nibbleOf (k : FrameKind) : BitVec 4 := BitVec.ofNat 4 (kindNumber k)

/-- The order used where a frame has no choice of order. -/
def plainOrder : DeliveryOrder := ⟨false, false⟩

/-! ## Emission (R3, R10) -/

/-- The flags byte of the cycle frame (R192). -/
def State.cycleFlags (s : State) : Byte :=
  BitVec.ofNat 8 ((if s.mrh.hold then 1 else 0) + (if s.cfs.invalid then 2 else 0) + (if s.ctu.clockUnset then 4 else 0))

/-- The body of the cycle frame (R3, R192). -/
def State.cycleBody (s : State) : List Byte :=
  bytesOf 2 s.rif.cycle.toNat ++ bytesOf 2 s.ctu.time.day ++ bytesOf 3 s.ctu.time.second ++ bytesOf 1 s.ctu.time.weekday
    ++ bytesOf 1 (modeCode s.cfs.mode) ++ [s.cycleFlags]
    ++ (vlist s.ses.berth).map (fun r => BitVec.ofNat 8 (sessionStateCode r.state))

/-- The cycle frame. -/
def State.cycleFrame (s : State) : RingFrame := ownFrame 255 .cyc s.rif.cycle s.cycleBody

/-- The cycle frame emitted with the insertions behind it (R3, R10); the insertion queue is empty again when they are sent. R3 lets
a change of HOLD made by taking these insertions show in this frame or in the next: the frame is built from the state before they
are taken, so it shows in the next (DESIGN CHOICE, entry 36). -/
def State.emission (s : State) : State :=
  let s1 := s.fillInsertion
  let s2 := s1.send (s.cycleFrame :: s1.rif.insertion)
  { s2 with rif := { s2.rif with insertion := [] } }

/-! ## What a boundary concludes (R11, R14, R15) -/

/-- A counted node's counter at a boundary in OPERATE (R11). -/
def healthCounter (limit : Nat) (h : Health) : Nat := if h.delivered then h.counter - 1 else min limit (h.counter + 2)

/-- A node's health record after a boundary (R11). -/
def concludeHealth (operating : Bool) (e : NodeEntry) (h : Health) : Health :=
  { h with
    counter := if operating && countedRole e then healthCounter e.limit.toNat h else h.counter
    delivered := false }

/-- Whether a node is not absent from the ending cycle: its delivered mark is set, or its delivery was taken before a COMMIT cleared
the mark; or its record was reset by a repair write in this cycle, which the boundary then leaves at 0 (R13; entry 9). -/
def Rif.present (r : Rif) (n : NodeIx) : Bool := (vget r.health n).delivered || vget r.taken n || vget r.fresh n

/-- Every health record concluded for the ending cycle (R11); the losses and recoveries that come of it are events of their own
(R12). -/
def State.concludeHealths (s : State) : State :=
  { s with
    rif := { s.rif with
      health := vmapIx (fun n h => concludeHealth s.operating (s.nodeEntry n) { h with delivered := s.rif.present n })
        s.rif.health } }

/-- The continuity observation concluded for the ending cycle (R14); a change of ring state is left to its own event. -/
def concludeContinuity (r : Rif) : Rif :=
  match r.ring with
  | .up => { r with miss := if r.returned then 0 else min 8 (r.miss + 1) }
  | .down => { r with ret := if r.returned then min 8 (r.ret + 1) else 0 }

/-- The survey set closed (R15). -/
def closeSurvey (r : Rif) : Rif := { r with previous := r.current, current := [] }

/-- The counters of a new cycle, and the marks of the ended one cleared (R2). -/
def openCycle (operate : Bool) (r : Rif) : Rif :=
  { r with
    cycle := r.cycle + 1, ext := r.ext + 1, returned := false, taken := Vector.replicate 31 false,
    fresh := Vector.replicate 31 false, pointsFed := [], cycleOperate := operate }

/-- The ring state falls (R14). -/
def State.ringDown (s : State) : State :=
  if s.rif.ring = .up ∧ 8 ≤ s.rif.miss then
    ({ s with rif := { s.rif with ring := .down, miss := 0, ret := 0 } }).latchStation .ringDown
  else s

/-- The ring state rises (R14). -/
def State.ringUp (s : State) : State :=
  if s.rif.ring = .down ∧ 8 ≤ s.rif.ret then
    ({ s with rif := { s.rif with ring := .up, miss := 0, ret := 0 } }).latchStation .ringUp
  else s

/-- Every health record reset at a change of mode (R13). -/
def State.resetHealth (s : State) : State :=
  { s with rif := { s.rif with health := Vector.replicate 31 Health.reset, fresh := Vector.replicate 31 false } }

/-- A node's health record reset by a repair write: it is counted from the next cycle on (R13; entry 9). -/
def State.renewHealth (s : State) (n : NodeIx) : State :=
  let s1 := s.setHealth n Health.reset
  { s1 with rif := { s1.rif with fresh := vset s1.rif.fresh n true } }

end Sys2Proof.Machine
end

