-- ==== Sys2Proof/Machine/Configuration.lean ====
section
/-! DEFINITION. The Configuration Store (10): reading and writing entries, the configuration timer, the consistency checks, the
signature, the changes of mode, and the scrub. -/

namespace Sys2Proof.Machine

open Sys2Proof

/-! ## Writing (R170, R176) -/

/-- The configuration timer's start, in cycles (R171). -/
def configCycles : Nat := 480000

/-- The configuration is valid: CFG_INVALID is clear (R179). -/
def State.locked (s : State) : Bool := s.operating && !s.cfs.invalid

/-- The count of berth `b`'s waiting allocation entry. -/
def State.waitingCount (s : State) (b : Berth) : Nat := ((s.mpm.alloc.find? (fun e => e.berth == b)).map (·.count)).getD 0

/-- Whether a Node entry may not share its role and target with another in OPERATE (R170). -/
def exclusiveRole (r : Role) : Bool :=
  match r with
  | .muBerth | .module | .plugBu | .siu | .muIncomer => true
  | .none | .station => false

/-- Whether another Node entry holds the role and target that entry `n` of the tables holds (R170, R172). -/
def sharedBy (t : Tables) (n : NodeIx) (other : NodeIx → Bool) : Bool :=
  match roleOf (vget t.node n).role with
  | some r =>
    (List.finRange 31).any (fun i => i != n && other i && holdsRole (vget t.node i) r (vget t.node n).target.toNat)
  | none => false

/-- Whether a Node entry's role is exclusive. -/
def exclusiveEntry (e : NodeEntry) : Bool :=
  match roleOf e.role with
  | some r => exclusiveRole r
  | none => false

/-- The check of a repair write against the rest of the part (R170): `t` holds the entry already. -/
def State.repairConflict (s : State) (t : Tables) (e : EntryRef) : Bool :=
  match e with
  | .berth b => (vget t.berth b).maxModules.toNat < s.held b + s.waitingCount b
  | .node n => exclusiveEntry (vget t.node n) && sharedBy t n (fun _ => true)
  | .station | .module _ | .breaker _ | .reaction _ => false

/-- Whether a write changes what health counting reads (R13). -/
def healthFieldsChange (a b : NodeEntry) : Bool := a.role != b.role || a.target != b.target || a.limit != b.limit

/-- Whether a write changes what the front end reads (R19). -/
def measFieldsChange (a b : NodeEntry) : Bool :=
  a.role != b.role || a.target != b.target || a.vfs != b.vfs || a.ifs != b.ifs || a.mirrored != b.mirrored

/-- The effects of a repair write on the entry's readers (R13, R19, R104), on a state whose tables hold it; `old` holds the tables
before it. -/
def State.repairEffects (s : State) (old : Tables) (e : EntryRef) : State :=
  match e with
  | .node n =>
    let a := vget old.node n
    let c := s.nodeEntry n
    let s1 := if healthFieldsChange a c then s.renewHealth n else s
    if measFieldsChange a c then s1.resetPoints (pointsFedBy a ++ pointsFedBy c) else s1
  | .berth b => s.formCap b
  | .module m =>
    (match (s.module m).state, (s.module m).berth with
      | .bound, some b => s.formCap b
      | _, _ => s)
  | .station | .breaker _ | .reaction _ => s

/-- A repair write's effect on the walker (R176). -/
def repairWalker (w : Walker) : Walker :=
  match w.state with
  | .verifying => { w with state := .stopped }
  | .running | .stopped => w

/-- An accepted write (R170, R171, R176). -/
def State.acceptWrite (s : State) (e : EntryRef) (t : Tables) : State :=
  let s1 : State := { s with cfs := { s.cfs with tables := t } }
  if s.operating then
    ({ s1 with cfs := { s1.cfs with walker := repairWalker s1.cfs.walker } }).repairEffects s.cfs.tables e
  else { s1 with cfs := { s1.cfs with timer := some (s.cfs.timer.getD configCycles) } }

/-- WRITE TABLE ENTRY judged in order (R170). -/
def State.writeEntry (s : State) (table entry : Byte) (image : List Byte) : State × Answer :=
  match entryNamed table entry with
  | none => (s, refused .range)
  | some e =>
    if s.locked then (s, refused .locked)
    else
      let t := setEntryImage s.cfs.tables e image
      if !entryInRange t e then (s, refused .range)
      else if s.operating && s.repairConflict t e then (s, refused .range)
      else (s.acceptWrite e t, done)

/-! ## Consistency (R172) -/

/-- Whether the Node Table holds an entry with a role and target. -/
def nodeHolds (t : Tables) (r : Role) (target : Nat) : Bool := (nodeWith t r target).isSome

/-- Whether the Node entry at a ring address holds role STATION. -/
def stationAt (t : Tables) (a : Byte) : Bool :=
  match nodeOf a with
  | some n => isStation (vget t.node n)
  | none => false

/-- Whether a Node entry's target names a disabled module (R172). -/
def disabledModule (t : Tables) (e : NodeEntry) : Bool :=
  roleOf e.role == some .module &&
    (match moduleOf e.target with
      | some m => !flagOf (vget t.module m).enabled
      | none => false)

/-- The consistency check of one entry (R172). Entries of role NONE hold no role to share: DEDUCED, entry 34. -/
def entryConsistent (t : Tables) (e : EntryRef) : Bool :=
  entryInRange t e &&
    (match e with
      | .station => stationAt t t.station.controller
      | .node n =>
        let x := vget t.node n
        !(isStation x && nodeAddress n != t.station.controller)
          && !(roleOf x.role != some .none && sharedBy t n (fun i => i.val < n.val))
          && !disabledModule t x
      | .berth b =>
        !flagOf (vget t.berth b).enabled
          || (nodeHolds t .muBerth b.val && nodeHolds t .plugBu b.val && nodeHolds t .siu b.val)
      | .module m => !flagOf (vget t.module m).enabled || nodeHolds t .module m.val
      | .breaker _ => true
      | .reaction i => !((i.val == 0 || i.val == 4 || i.val == 8) && vget t.reaction i == 0))

/-- The first entry that fails, in entry index order (R172). -/
def firstInconsistent (t : Tables) : Option EntryRef := allEntries.find? (fun e => !entryConsistent t e)

/-- The CRC register over the images of some entries. -/
def foldImages (t : Tables) (reg : BitVec 32) (l : List EntryRef) : BitVec 32 :=
  l.foldl (fun r e => crc32Fold r (entryImage t e)) reg

/-- The signature of the tables (R172, R194). -/
def signatureOf (t : Tables) : BitVec 32 := ~~~ foldImages t crc32Init allEntries

/-! ## Commit and entry into configuration (R172 to R176) -/

/-- A pass started (R177). -/
def startPass (st : WalkerState) (w : Walker) : Walker := { w with state := st, position := 0, spacing := 0, crc := crc32Init }

/-- Entry into OPERATE by a COMMIT that passes in CONFIG (R173). The cycle then running opened in CONFIG (R19; entry 10). -/
def State.enterOperate (s : State) (sig : BitVec 32) : State :=
  let s1 : State :=
    { s with
      cfs := { s.cfs with
        mode := .operate, signature := some sig, invalid := false, timer := none, walker := startPass .running s.cfs.walker }
      rif := { s.rif with cycleOperate := false } }
  ((s1.resetHealth.resetMeas).bsyOperateEntry).headroomReset

/-- A recommit (R176). -/
def State.recommit (s : State) (sig : BitVec 32) : State :=
  { s with cfs := { s.cfs with signature := some sig, walker := startPass .verifying s.cfs.walker } }

/-- COMMIT judged (R172, R173, R176). -/
def State.commitTables (s : State) (sig : BitVec 32) : State × Answer :=
  if s.locked then (s, refused .mode)
  else
    match firstInconsistent s.cfs.tables with
    | some e => (s, refusedWith .inconsistent [.code 1 (entryCodes e).1, .code 1 (entryCodes e).2])
    | none =>
      if signatureOf s.cfs.tables ≠ sig then (s, refused .signature)
      else if s.operating then (s.recommit sig, done)
      else (s.enterOperate sig, done)

/-- Whether a session lets the part enter CONFIG (R174). -/
def restsForConfig (r : Session) : Bool := r.state == .idle || r.state == .faulted

/-- Entry into CONFIG by ENTER CONFIGURATION (R175). -/
def State.enterConfig (s : State) : State :=
  let s1 : State :=
    { s with
      cfs := { s.cfs with mode := .config, invalid := false, timer := none, walker := { s.cfs.walker with state := .stopped } } }
  (((s1.resetHealth.resetMeas).mpmConfigEntry).bsyConfigEntry).mbuConfigEntry

/-- ENTER CONFIGURATION judged (R174). -/
def State.requestConfig (s : State) : State × Answer :=
  if s.operating then
    if (vlist s.ses.berth).all restsForConfig then (s.enterConfig, done) else (s, refused .state)
  else (s, done)

/-- The configuration timer's expiry (R171). -/
def State.configTimeout (s : State) : State :=
  if s.operating = false ∧ s.cfs.timer = some 0 then
    let s1 := ({ s with cfs := { s.cfs with tables := Tables.reset, timer := none } }).latchStation .configTimeout
    (s1.mpmConfigEntry).bsyConfigEntry
  else s

/-! ## The scrub (R177 to R179) -/

/-- The configuration becomes invalid (R179). The invalidity reaches the Meter and Billing Unit before the Session Controller, so
that a record that an abort closes at once was open in this event and carries UNVERIFIED, as R166 gives it to every open record; R179
orders the two presentations only by listing them, the sessions first (DEDUCED, entry 45). -/
def State.becomeInvalid (s : State) : State :=
  let s1 := ({ s with cfs := { s.cfs with invalid := true } }).latchStation .configInvalid
  (s1.markUnverified).invalidAborts

/-- The configuration becomes valid again (R178): the blocks that consult the flag find it clear. -/
def State.becomeValid (s : State) : State :=
  ({ s with cfs := { s.cfs with invalid := false } }).latchStation .configValid

/-- The walker at the end of a pass that matches: the next pass starts at once (R178). -/
def walkerMatched (w : Walker) : Walker :=
  startPass .running { w with passes := satAdd 4294967295 w.passes 1, result := some .matched }

/-- The walker at the end of a pass that differs: STOPPED, with the final CRC of the pass (R177, R178) and its position wrapped to 0
(entry 35). -/
def walkerMismatched (final : BitVec 32) (w : Walker) : Walker :=
  { w with
    state := .stopped, position := 0, spacing := 0, crc := final, passes := satAdd 4294967295 w.passes 1,
    result := some .mismatched }

/-- The end of a pass, with the CRC register after entry 64 (R178). -/
def State.endPass (s : State) (reg : BitVec 32) : State :=
  let w := s.cfs.walker
  if s.cfs.signature = some (~~~ reg) then
    let s1 : State := { s with cfs := { s.cfs with walker := walkerMatched w } }
    if w.state = .verifying then s1.becomeValid else s1
  else
    let s1 : State := { s with cfs := { s.cfs with walker := walkerMismatched (~~~ reg) w } }
    if w.state = .running then s1.becomeInvalid else s1

/-- The walker's read (R177). -/
def State.scrubRead (s : State) : State :=
  let w := s.cfs.walker
  if s.operating = true ∧ w.state ≠ .stopped ∧ 3 ≤ w.spacing then
    match allEntries[w.position]? with
    | some e =>
      let reg := crc32Fold w.crc (entryImage s.cfs.tables e)
      if 64 ≤ w.position then s.endPass reg
      else { s with cfs := { s.cfs with walker := { w with crc := reg, position := w.position + 1, spacing := 0 } } }
    | none => s
  else s

end Sys2Proof.Machine
end

