-- ==== Sys2Proof/Machine/Status.lean ====
section
/-! DEFINITION. What the READ requests return (R15, R33, R49, R72, R91, R120, R136, R148, R160, R167, R180, R187, R190): the fields
of each section in the order its rule names them, with the widths of R195. A value that no frame or image codes is a named item
(entry 13). How a record is laid out where R195 does not say it (empty slots, absent records, fixed numbers of records, a stopped
timer) is the model's choice (entry 47). -/

namespace Sys2Proof.Machine

open Sys2Proof

/-! ## Single items -/

/-- A yes/no or set/clear field (12). -/
def flagItem (b : Bool) : Item := .code 1 (if b then 1 else 0)

/-- A number that no frame or image carries (R195). -/
def natItem (n : Nat) : Item := .num n

/-- A field or its absence (R195). -/
def optItem {α : Type} (width : Nat) (f : α → Item) (o : Option α) : Item :=
  match o with
  | some a => f a
  | none => .absent width

/-- A list preceded by its one-byte count (R195). -/
def listItems {α : Type} (f : α → List Item) (l : List α) : List Item := .count l.length :: l.flatMap f

/-- A station time: day, second of day, weekday. -/
def timeItems (t : StationTime) : List Item := [.code 2 t.day, .code 3 t.second, .code 1 t.weekday]

/-- A station time or its absence. -/
def optTimeItems (o : Option StationTime) : List Item :=
  match o with
  | some t => timeItems t
  | none => [.absent 2, .absent 3, .absent 1]

/-- A tick time or an extended count or their absence. -/
def optWide {w : Nat} (o : Option (BitVec w)) : Item := optItem 8 (fun t => natItem t.toNat) o

/-- The items of three phases. -/
def triItems {α : Type} (f : α → Item) (t : Tri α) : List Item := [f t.l1, f t.l2, f t.l3]

/-- A 16-bit sample as frames carry it. -/
def sampleItem (z : Int) : Item := .bytes (bytesOfInt 2 z)

/-- An account id, 4 bytes. -/
def accountItem (o : Option (BitVec 32)) : Item := optItem 4 (fun a => .code 4 a.toNat) o

/-- A berth or its absence, 1 byte. -/
def berthItem (o : Option Berth) : Item := optItem 1 (fun b => .code 1 b.val) o

/-- A breaker status (12, Codes). -/
def statusItem (st : BreakerStatus) : Item :=
  .code 1 (match st with
    | .open => 0 | .closed => 1 | .moving => 2 | .fault => 3)

/-! ## Named values without a code (entry 13) -/

/-- A field of named values or its absence, all ones of the field's width (R195). -/
def optNamed {α : Type} (field : String) (name : α → String) (o : Option α) : Item :=
  match o with
  | some a => .named field (name a)
  | none => .namedAbsent field

/-- Ring state. -/
def ringItem (r : RingState) : Item :=
  .named "ring state" (match r with
    | .up => "UP" | .down => "DOWN")

/-- Rotation. -/
def rotationItem (r : Rotation) : Item :=
  .named "rotation" (match r with
    | .ok => "OK" | .reversed => "REVERSED" | .unknown => "UNKNOWN")

/-- Oscillator mode. -/
def oscModeItem (m : OscMode) : Item :=
  .named "oscillator mode" (match m with
    | .free => "FREE" | .track => "TRACK" | .lock => "LOCK")

/-- Module state. -/
def moduleStateItem (st : ModuleState) : Item :=
  .named "module state" (match st with
    | .free => "FREE" | .starting => "STARTING" | .bound => "BOUND" | .stopping => "STOPPING"
    | .cooldown => "COOLDOWN" | .failed => "FAILED" | .blocked => "BLOCKED")

/-- Failure cause or its absence. -/
def causeItem (c : Option FailureCause) : Item :=
  optNamed "failure cause" (fun x : FailureCause => match x with
    | .reportedFault => "REPORTED_FAULT" | .nodeLost => "NODE_LOST" | .breakerFault => "BREAKER_FAULT"
    | .selector => "SELECTOR" | .startLimit => "START_LIMIT" | .operateLimit => "OPERATE_LIMIT") c

/-- Urgency. -/
def urgencyItem (u : Urgency) : Item :=
  .named "urgency" (match u with
    | .normal => "NORMAL" | .urgent => "URGENT")

/-- End reason or its absence. -/
def endReasonItem (r : Option EndReason) : Item :=
  optNamed "end reason" (fun x : EndReason => match x with
    | .closed => "CLOSED" | .aborted => "ABORTED" | .noModules => "NO_MODULES"
    | .energiseTimeout => "ENERGISE_TIMEOUT" | .plugOpened => "PLUG_OPENED" | .fault => "FAULT") r

/-- Drain step. -/
def drainItem (d : DrainStep) : Item :=
  .named "drain step" (match d with
    | .sb => "SB" | .pb => "PB" | .done => "DONE")

/-- Fault kind or its absence. -/
def kindItem (k : Option FaultKind) : Item :=
  optNamed "fault kind" (fun x : FaultKind => match x with
    | .overcurrent => "OVERCURRENT" | .busVoltage => "BUS_VOLTAGE" | .busFrequency => "BUS_FREQUENCY"
    | .reversePower => "REVERSE_POWER" | .phasing => "PHASING" | .sbFail => "SB_FAIL" | .pbFail => "PB_FAIL"
    | .sbOpened => "SB_OPENED" | .shipEsd => "SHIP_ESD" | .meterLost => "METER_LOST"
    | .shipLinkLost => "SHIP_LINK_LOST" | .plugUnitLost => "PLUG_UNIT_LOST" | .lockLost => "LOCK_LOST") k

/-- Class in force or its absence (12, Codes). -/
def classItem (c : Option FaultClass) : Item :=
  optItem 1 (fun x => .code 1 (match x with
    | .warn => 0 | .error => 1 | .restart => 2 | .latched => 3)) c

/-- Tariff mark. -/
def tariffItem (t : Bool) : Item := .named "tariff mark" (if t then "TARIFF" else "NO_TARIFF")

/-- Close reason. -/
def closeReasonItem (r : CloseReason) : Item :=
  .named "close reason" (match r with
    | .bandChange => "BAND_CHANGE" | .dayEnd => "DAY_END" | .tariffChange => "TARIFF_CHANGE"
    | .clockSet => "CLOCK_SET" | .sessionEnd => "SESSION_END" | .fault => "FAULT")

/-- Direction of a second. -/
def directionItem (d : Direction) : Item :=
  .named "direction" (match d with
    | .importing => "IMPORT" | .exporting => "EXPORT" | .none => "NONE")

/-- Walker state. -/
def walkerItem (w : WalkerState) : Item :=
  .named "walker state" (match w with
    | .stopped => "STOPPED" | .running => "RUNNING" | .verifying => "VERIFYING")

/-- Result of the last completed pass or its absence. -/
def passItem (p : Option PassResult) : Item :=
  optNamed "pass result" (fun x : PassResult => match x with
    | .matched => "MATCH" | .mismatched => "MISMATCH") p

/-- Alignment. -/
def alignmentItem (a : Alignment) : Item :=
  .named "alignment" (match a with
    | .inactive => "INACTIVE" | .collecting => "COLLECTING")

/-- Sync attempt. -/
def attemptItem (a : SyncAttempt) : Item :=
  .named "sync attempt" (match a with
    | .inactive => "INACTIVE" | .evaluating => "EVALUATING" | .closeIssued => "CLOSE_ISSUED")

/-- Last measured close time or NO_RESULT. -/
def measuredItem (o : Option Nat) : Item :=
  match o with
  | some n => natItem n
  | none => .uncoded 8 "last measured close time" "NO_RESULT"

/-- Measurement of a close time. -/
def measuringItem (b : Bool) : Item := .named "close time measurement" (if b then "open" else "none")

/-- A reported selector position (12, Codes). -/
def selectorItem (p : Selector) : Item :=
  match p with
  | .none => .code 1 0
  | .berth b => .code 1 (b.val + 1)
  | .unmatched => .uncoded 1 "selector position" "a position matching no berth"

/-! ## Measurement and oscillator (R33, R49) -/

/-- The fields of a measurement record, with those that only B and G carry (02, The measurement record). -/
def measItems (p : Point) (r : MeasRecord) : List Item :=
  triItems sampleItem r.heldV ++ (if hasCurrents p then triItems sampleItem r.heldI else []) ++ triItems flagItem r.armed
    ++ triItems optWide r.lastCross ++ [natItem r.period, natItem r.freq, flagItem r.stale] ++ triItems natItem r.rms
    ++ [natItem r.pointRms, natItem r.lineVolts] ++ triItems (optItem 8 natItem) r.permille
    ++ [optItem 8 natItem r.pointPermille, rotationItem r.rotation, natItem r.substCount] ++ triItems natItem r.window.sums
    ++ [natItem r.window.count]
    ++ (match p with
      | .bus _ => [natItem r.peak]
      | .plug _ | .ship _ | .incomer => [])
    ++ (if hasCurrents p then
        [.num r.acc, natItem r.tally, natItem r.substTally, .num r.rawSum, .num r.lastPower, natItem r.lastSubst]
      else [])

/-- Section MEASUREMENT. -/
def State.measurementSection (s : State) (b : Berth) : List Item :=
  measItems (.bus b) (s.meas (.bus b)) ++ measItems (.plug b) (s.meas (.plug b)) ++ measItems (.ship b) (s.meas (.ship b))

/-- Section OSCILLATOR (R49). -/
def oscItems (o : Osc) : List Item :=
  [oscModeItem o.mode, .code 4 o.fnom, natItem o.fset, .code 4 o.k.toNat, natItem (reportedFrequency o.k), natItem o.phase.toNat,
    natItem o.slew, natItem o.watchdog, flagItem o.holdover]

/-! ## Pool (R72) -/

/-- A module record. -/
def moduleItems (r : ModuleRecord) : List Item :=
  [moduleStateItem r.state, berthItem r.berth,
    .code 1 (match r.reported with
      | .stopped => 0 | .starting => 1 | .running => 2 | .fault => 3),
    .code 2 r.kva, statusItem r.breaker, selectorItem r.selector, sampleItem r.output,
    .code 1 (match r.run with
      | .run => 1 | .stop => 2),
    .code 1 (moduleOpCode r.op), natItem r.opAge, natItem r.stageTimer, natItem r.startLimit, flagItem r.stopPhase,
    natItem r.cooldown, causeItem r.cause]

/-- Section POOL (R72). The eight module records are always eight and carry no count; the two queues are lists (DESIGN CHOICE,
entry 47). -/
def State.poolSection (s : State) : List Item :=
  (vlist s.mpm.module).flatMap moduleItems
    ++ listItems (fun e => [.code 1 e.berth.val, .code 1 e.count, urgencyItem e.urgency] ++ timeItems e.queuedAt) s.mpm.alloc
    ++ listItems (fun e => [.code 1 e.module.val, .code 1 (moduleOpCode (opOf e.op))]) s.mpm.switching
    ++ [natItem s.mpm.ageA, natItem s.mpm.ageB, natItem s.mpm.ageStation]

/-! ## Breakers (R91) -/

/-- A breaker record. R91 names the item "withdrawn": it carries the mark alone, without the withdrawal cycle (DEDUCED, entry 40). -/
def breakerItems (r : BreakerRecord) : List Item :=
  [statusItem r.status, flagItem r.ready, .code 1 r.offset,
    .code 1 (match r.command with
      | .none => 0 | .close => 1 | .open => 2),
    natItem r.issue.toNat, flagItem r.withdrawn, flagItem r.limitReported, measuringItem r.measuring, natItem r.learned,
    measuredItem r.lastMeasured, flagItem r.mark]

/-- The last evaluation or its absence: every field absent (DESIGN CHOICE, entry 47). -/
def evalItems (o : Option SyncEval) : List Item :=
  match o with
  | some v =>
    [optItem 8 .num v.theta, .num v.slip, natItem v.advance, optItem 8 .num v.deltaTheta, optItem 8 .num v.thetaPred,
      flagItem v.angleOk, flagItem v.slipOk, flagItem v.voltageOk, flagItem v.frequencyOk, flagItem v.rotationOk,
      flagItem v.sbReady, flagItem v.sbFree, flagItem v.pbClosed]
  | none => List.replicate 5 (.absent 8) ++ List.replicate 8 (.absent 1)

/-- A sync record. -/
def syncItems (y : SyncRecord) : List Item :=
  [alignmentItem y.alignment, natItem y.collected, optItem 8 .num y.cableOffset, attemptItem y.attempt, natItem y.stability]
    ++ evalItems y.lastEval

/-- Section BREAKERS. -/
def State.breakersSection (s : State) (b : Berth) : List Item :=
  breakerItems (s.breaker (.pb b)) ++ breakerItems (s.breaker (.sb b)) ++ syncItems (s.sync b)

/-! ## Sessions (R120) -/

/-- A session record, in the order of its table (06), but for its Holdings, which the table lists before the handover phase: they are
carried once, after the record, by `State.sessionSection` (DESIGN CHOICE, entry 47). -/
def sessionItems (r : Session) : List Item :=
  [.code 1 (sessionStateCode r.state), optItem 8 natItem r.number, accountItem r.account, optItem 4 (.code 4) r.fnom,
    optItem 2 (.code 2) r.vnom, .code 1 r.requested, .code 2 r.share, natItem r.stageTimer, natItem r.stageLimit,
    natItem r.strikes, natItem r.stepTimer, natItem r.quietCount, natItem r.quietSeconds, natItem r.settle,
    endReasonItem r.endReason, flagItem r.pbAsked, flagItem r.metering, flagItem r.closeIssued, flagItem r.abortPending,
    drainItem r.drain, flagItem r.gensMayDisconnect, flagItem r.gensStart,
    .code 1 (match r.ship with
      | .genSupply => 0 | .readyForShore => 1 | .genOff => 2 | .genParallel => 3 | .shipEsd => 4),
    .bytes (bytesOfInt 4 r.shipOutput), .code 1 (phaseCode r.phase)]

/-- Section SESSION: the record, the cap and the sum of BOUND ratings as last formed, the modules STARTING and BOUND, and final
record pending (R72, R120, R165, R190). These four are the record's Holdings: they stand here once, in the order R190 names them, and
not a second time before the handover phase; the counts are those of the module records (DESIGN CHOICE, entry 47). -/
def State.sessionSection (s : State) (b : Berth) : List Item :=
  let r := s.session b
  sessionItems r
    ++ [natItem r.cap, natItem r.sigma, natItem (s.countIn b .starting), natItem (s.countIn b .bound),
      flagItem (s.meter b).finalPending]

/-- Section SESSIONS: the headroom record and the session number counter. -/
def sesItems (e : Ses) : List Item := [natItem e.budget, .num e.stationImport, flagItem e.incomerLost, natItem e.nextNumber]

/-! ## Supervision (R136) -/

/-- The counts of the watched points with their raised marks: the three counts, then the three marks (DESIGN CHOICE, entry 47). -/
def watchedItems (w : Watched) : List Item :=
  [natItem w.bus.count, natItem w.plug.count, natItem w.ship.count, flagItem w.bus.raised, flagItem w.plug.raised,
    flagItem w.ship.raised]

/-- Section SUPERVISION, in the order of the record's table (07). -/
def supItems (v : Supervision) : List Item :=
  [flagItem v.armed, natItem v.blank, natItem v.overcurrent.count, flagItem v.overcurrent.raised] ++ watchedItems v.voltage
    ++ watchedItems v.frequency
    ++ [natItem v.reverse.count, flagItem v.reverse.raised, kindItem v.tripKind, classItem v.tripClass, .code 2 v.tripCycle.toNat]
    ++ timeItems v.tripTime
    ++ [natItem v.laterFaults, kindItem v.laterKind, kindItem v.warnedKind, natItem v.warnCount, natItem v.attempts,
      natItem v.restartTimer, flagItem v.restartDue]

/-! ## Clock (R148) -/

/-- The image of a tariff entry (R194). -/
def tariffImage (e : TariffEntry) : List Byte := bytesOf 1 e.band ++ [e.mask] ++ bytesOf 2 e.start ++ bytesOf 2 e.price

/-- A slot of a tariff table: a present byte, 1 or 0, and the six bytes of the entry's image, all ones in an empty slot. R148 shows
empty slots as empty; the present byte is taken from the arguments of WRITE TARIFF ENTRY (R195) (DESIGN CHOICE, entry 47). -/
def slotItems (o : Option TariffEntry) : List Item :=
  match o with
  | some e => [.code 1 1, .bytes (tariffImage e)]
  | none => [.code 1 0, .absent 6]

/-- Section CLOCK (R148). The 16 slots of each table are always 16 and carry no count (DESIGN CHOICE, entry 47). -/
def clockItems (c : Ctu) : List Item :=
  timeItems c.time ++ [flagItem c.clockUnset]
    ++ [optItem 2 (fun a => .code 2 a.1) c.activation, optItem 3 (fun a => .code 3 a.2) c.activation]
    ++ [.code 1 c.band.band, .code 2 c.band.price, optItem 1 (fun i : Slot => .code 1 i.val) c.band.slot, tariffItem c.band.tariff]
    ++ timeItems c.block.start ++ [natItem c.block.elapsed] ++ (vlist c.active).flatMap slotItems
    ++ (vlist c.pendingTable).flatMap slotItems

/-! ## Billing (R160, R167) -/

/-- A record number, 4 bytes. R159 and R167 give no form to an exhausted one: it is carried as an absent field, all ones, which are also
the bytes of the number 4,294,967,295 (DESIGN CHOICE, entry 47). -/
def recordNumberItem (n : Nat) : Item := if n ≤ 4294967295 then .code 4 n else .absent 4

/-- A closed record with every band entry but the carries (R160). -/
def closedItems (r : ClosedRecord) : List Item :=
  [.code 4 r.number, optItem 8 natItem r.session, .code 1 r.berth.val, accountItem r.account] ++ timeItems r.openedAt
    ++ timeItems r.closedAt ++ [closeReasonItem r.reason]
    ++ listItems (fun e => [.code 1 e.band, .code 2 e.price, natItem e.importE, natItem e.exportE, natItem e.charge,
        tariffItem e.tariff]) r.entries
    ++ [natItem r.peakDemand, natItem r.substituted, natItem r.gap, flagItem r.mixed, flagItem r.unverified,
      flagItem r.clockUnset, flagItem r.noTariff]

/-- An open record with its carries (R167). -/
def openItems (b : Berth) (r : OpenRecord) : List Item :=
  [optItem 8 natItem r.session, .code 1 b.val, accountItem r.account] ++ timeItems r.openedAt
    ++ listItems (fun e => [.code 1 e.band, .code 2 e.price, natItem e.importE, natItem e.exportE, natItem e.charge,
        natItem e.carry, tariffItem e.tariff]) r.entries
    ++ [natItem r.peakDemand, natItem r.substituted, natItem r.gap, flagItem r.mixed, flagItem r.unverified,
      flagItem r.clockUnset, flagItem r.noTariff]

/-- The open record or its absence: every field absent and no band entry (DESIGN CHOICE, entry 47). -/
def optOpenItems (b : Berth) (o : Option OpenRecord) : List Item :=
  match o with
  | some r => openItems b r
  | none =>
    [.absent 8, .absent 1, .absent 4, .absent 2, .absent 3, .absent 1, .count 0, .absent 8, .absent 8, .absent 8, .absent 1,
      .absent 1, .absent 1, .absent 1]

/-- The last second or its absence: every field absent (DESIGN CHOICE, entry 47). -/
def lastSecondItems (o : Option LastSecond) : List Item :=
  match o with
  | some l => [natItem l.energy, directionItem l.direction, .num l.rawSum, natItem l.subst, flagItem l.gap]
  | none => [.absent 8, .namedAbsent "direction", .absent 8, .absent 8, .absent 1]

/-- The held-over demand block end or its absence: every field absent (DESIGN CHOICE, entry 47). -/
def heldBlockItems (o : Option BlockEnd) : List Item :=
  optTimeItems (o.map (·.start)) ++ [optItem 8 (fun e : BlockEnd => natItem e.length) o]

/-- The held-over account boundary or its absence: every field absent (DESIGN CHOICE, entry 47). -/
def heldBoundaryItems (o : Option AcctBoundary) : List Item :=
  match o with
  | some a =>
    [closeReasonItem a.reason] ++ timeItems a.time ++ [.code 1 a.band, .code 2 a.price, tariffItem a.tariff, flagItem a.clockUnset]
  | none =>
    [.namedAbsent "close reason", .absent 2, .absent 3, .absent 1, .absent 1, .absent 2, .namedAbsent "tariff mark", .absent 1]

/-- The deferral or its absence: every field absent (DESIGN CHOICE, entry 47). -/
def deferralItems (o : Option Deferral) : List Item :=
  match o with
  | some d =>
    [closeReasonItem d.reason] ++ timeItems d.instant ++ [optItem 1 flagItem d.notedUnset, natItem d.split]
      ++ [(match d.ended with
        | some x => closeReasonItem x.1
        | none => .namedAbsent "close reason")] ++ optTimeItems (d.ended.map (·.2))
  | none =>
    [.namedAbsent "close reason", .absent 2, .absent 3, .absent 1, .absent 1, .absent 8, .namedAbsent "close reason", .absent 2,
      .absent 3, .absent 1]

/-- READ METER's results (R167). The place in the deferral queue counts from 0, at the oldest berth (DESIGN CHOICE, entry 47). -/
def State.meterItems (s : State) (b : Berth) : List Item :=
  let m := s.meter b
  [.named "metering" (if m.running then "RUNNING" else "STOPPED"), optItem 8 natItem m.session, accountItem m.account,
    natItem m.importReg, natItem m.exportReg, natItem m.importRem, natItem m.exportRem, .code 2 m.price, natItem m.blockSum]
    ++ lastSecondItems m.lastSecond ++ heldBlockItems m.heldBlock ++ heldBoundaryItems m.heldBoundary ++ deferralItems m.deferral
    ++ [flagItem m.finalPending, optItem 8 natItem (s.mbu.queue.findIdx? (· == b))] ++ optOpenItems b m.record

/-- Section BILLING (R167). -/
def billingItems (m : Mbu) : List Item :=
  [natItem m.ring.length, optItem 4 (fun r : ClosedRecord => .code 4 r.number) m.ring.head?,
    optItem 4 (fun r : ClosedRecord => .code 4 r.number) m.ring.getLast?, recordNumberItem m.nextRecord]
    ++ listItems (fun b : Berth => [.code 1 b.val]) m.queue

/-! ## Ring, configuration and management (R180, R190) -/

/-- Section RING (R190). The 31 health records, of addresses 1 to 31, are always 31 and carry no count; the last unknown source is its
address and its kind, each absent when there is none (DESIGN CHOICE, entry 47). -/
def ringItems (r : Rif) : List Item :=
  [ringItem r.ring, natItem r.miss, natItem r.ret, .code 2 r.cycle.toNat]
    ++ (vlist r.health).flatMap (fun h => [natItem h.counter, flagItem h.lost])
    ++ [optItem 1 (fun x : Byte × FrameKind => .code 1 x.1.toNat) r.lastUnknown,
      optItem 1 (fun x : Byte × FrameKind => .code 1 (kindNumber x.2)) r.lastUnknown]

/-- Section CONFIGURATION (R180). The configuration timer is one 8-byte field: its remaining cycles while it runs, carried as an
absent number, all ones, while it is stopped (DESIGN CHOICE, entry 47). -/
def configItems (c : Cfs) : List Item :=
  [.code 1 (modeCode c.mode), flagItem c.invalid, optItem 4 (fun v : BitVec 32 => .code 4 v.toNat) c.signature,
    optItem 8 natItem c.timer, walkerItem c.walker.state, natItem c.walker.position, natItem c.walker.spacing,
    natItem c.walker.passes, passItem c.walker.result]

/-- A notice: its scope and the flags it names. -/
def noticeItems (n : Notice) : List Item :=
  .code 1 (scopeNumber n.scope) :: listItems (fun i => [.code 1 i]) n.flags

/-- Section MANAGEMENT; the count includes the place of the request that reads it. -/
def managementItems (m : Mrh) : List Item :=
  [natItem m.count, natItem m.responses.length, flagItem m.hold, natItem m.dropped] ++ listItems noticeItems m.notices

/-- The section of a scope (R190); absent where the scope does not have it. -/
def State.statusSection (s : State) (c : Scope) (section_ : Nat) : Option (List Item) :=
  match c, section_ with
  | .station, 0 => some (ringItems s.rif)
  | .station, 1 => some (measItems .incomer (s.meas .incomer))
  | .station, 2 => some s.poolSection
  | .station, 3 => some (sesItems s.ses)
  | .station, 4 => some (clockItems s.ctu)
  | .station, 5 => some (billingItems s.mbu)
  | .station, 6 => some (configItems s.cfs)
  | .station, 7 => some (managementItems s.mrh)
  | .berth b, 0 => some (s.measurementSection b)
  | .berth b, 1 => some (oscItems (s.osc b))
  | .berth b, 2 => some (s.breakersSection b)
  | .berth b, 3 => some (s.sessionSection b)
  | .berth b, 4 => some (supItems (s.superv b))
  | _, _ => none

/-! ## Survey and events (R15, R187) -/

/-- The list with an item placed by ascending source. -/
def insertBySource (i : SurveyItem) : List SurveyItem → List SurveyItem
  | [] => [i]
  | j :: l => if i.source.toNat ≤ j.source.toNat then i :: j :: l else j :: insertBySource i l

/-- A survey set in ascending source address (R15). -/
def bySource (l : List SurveyItem) : List SurveyItem := l.foldr insertBySource []

/-- RING SURVEY's results (R15, R195). -/
def surveyItems (l : List SurveyItem) : List Item :=
  listItems (fun i => .code 1 i.source.toNat :: listItems (fun k => [.code 1 (kindNumber k)]) i.kinds ++ [flagItem i.late])
    (bySource l)

/-- The latched or masked marks of a scope as carried, 2 bytes. -/
def marksItem (v : BitVec 16) : Item := .code 2 v.toNat

/-- The flags that a scope's queued notice names. -/
def noticeFlags (m : Mrh) (c : Scope) : Option (List Nat) := (m.notices.find? (fun n => n.scope == c)).map (·.flags)

/-- READ EVENTS's results (R187). Whether a notice of the scope is queued is a byte before its list of flags, which is empty without
one (DESIGN CHOICE, entry 47). -/
def eventItems (m : Mrh) (c : Scope) : List Item :=
  [marksItem (m.latched.get c), marksItem (m.masked.get c), flagItem (noticeFlags m c).isSome]
    ++ listItems (fun i => [.code 1 i]) ((noticeFlags m c).getD [])
    ++ (match c with
      | .station => [natItem m.dropped]
      | .berth _ => [])

end Sys2Proof.Machine
end

