-- ==== Sys2Proof/Machine/Requests.lean ====
section
/-! DEFINITION. The twenty-six requests as their owners judge and answer them: each is a function of the argument bytes and the
state. The form checks and the queues stand around them (R183). -/

namespace Sys2Proof.Machine

open Sys2Proof

/-- The answer that a request's owner gives leaves the state as it is when it refuses. -/
def refuse (s : State) (r : Reason) : State × Answer := (s, refused r)

/-- A request that names a berth: refused RANGE outside 0..3 (R99, R110, R135; entry 22). -/
def onBerth (args : List Byte) (s : State) (f : Berth → State → State × Answer) : State × Answer :=
  match berthOf (byteAt args 0) with
  | some b => f b s
  | none => refuse s .range

/-- A request that names a module: refused RANGE outside 0..7 (R62). -/
def onModule (args : List Byte) (s : State) (f : ModuleId → State → State × Answer) : State × Answer :=
  match moduleOf (byteAt args 0) with
  | some m => f m s
  | none => refuse s .range

/-- A request that names a scope: refused RANGE outside 0..4 (R187, R188, R190). -/
def onScope (args : List Byte) (s : State) (f : Scope → State → State × Answer) : State × Answer :=
  match scopeOf (byteAt args 0).toNat with
  | some c => f c s
  | none => refuse s .range

/-! ## Configuration Store (10) -/

/-- READ TABLE ENTRY (R169). -/
def reqReadTableEntry (args : List Byte) (s : State) : State × Answer :=
  match entryNamed (byteAt args 0) (byteAt args 1) with
  | some e => (s, doneWith [.bytes (entryImage s.cfs.tables e)])
  | none => refuse s .range

/-- WRITE TABLE ENTRY (R170). -/
def reqWriteTableEntry (args : List Byte) (s : State) : State × Answer := s.writeEntry (byteAt args 0) (byteAt args 1) (args.drop 2)

/-- COMMIT (R172). -/
def reqCommit (args : List Byte) (s : State) : State × Answer := s.commitTables (BitVec.ofNat 32 (natOf (args.take 4)))

/-- ENTER CONFIGURATION (R174). -/
def reqEnterConfiguration (_args : List Byte) (s : State) : State × Answer := s.requestConfig

/-! ## Station Clock and Tariff Unit (08) -/

/-- SET CLOCK (R139). -/
def reqSetClock (args : List Byte) (s : State) : State × Answer :=
  let t : StationTime := ⟨natOf (field args 0 2), natOf (field args 2 3), natOf (field args 5 1)⟩
  if t.day ≤ 65535 ∧ t.second ≤ 86399 ∧ t.weekday ≤ 6 then (s.setClockTo t, done) else refuse s .range

/-- The tariff entry of an image (R194). -/
def tariffOfImage (l : List Byte) : TariffEntry :=
  { band := natOf (field l 0 1), mask := byteAt l 1, start := natOf (field l 2 2), price := natOf (field l 4 2) }

/-- Every field of a tariff entry in its range (08). -/
def tariffInRange (e : TariffEntry) : Bool :=
  within 0 15 e.band && within 1 127 e.mask.toNat && within 0 1439 e.start && within 0 65535 e.price

/-- What WRITE TARIFF ENTRY puts into its slot; absent when its arguments are out of range (R140, R195). -/
def tariffArgument (args : List Byte) : Option (Slot × Option TariffEntry) :=
  if h : (byteAt args 0).toNat < 16 then
    if byteAt args 1 = 0 then some (⟨(byteAt args 0).toNat, h⟩, none)
    else if byteAt args 1 = 1 ∧ tariffInRange (tariffOfImage (args.drop 2)) = true then
      some (⟨(byteAt args 0).toNat, h⟩, some (tariffOfImage (args.drop 2)))
    else none
  else none

/-- WRITE TARIFF ENTRY (R140). Arguments out of range are refused RANGE also while an activation time is held: R140 gives the two
refusals no order, and the model takes the one that R142 states for ACTIVATE TARIFF (DEDUCED, entry 48). -/
def reqWriteTariffEntry (args : List Byte) (s : State) : State × Answer :=
  match tariffArgument args with
  | none => refuse s .range
  | some x =>
    if s.ctu.activation.isSome then refuse s .pending
    else ({ s with ctu := { s.ctu with pendingTable := vset s.ctu.pendingTable x.1 x.2 } }, done)

/-- The detail of a table that is not valid (R141, R195). -/
def tariffDetail (f : TariffFault) : List Item :=
  match f with
  | .gap d => [.code 1 0, .code 1 d]
  | .overlap d m i => [.code 1 1, .code 1 d, .code 2 m, .code 1 i]

/-- ACTIVATE TARIFF (R142). -/
def reqActivateTariff (args : List Byte) (s : State) : State × Answer :=
  let day := natOf (field args 0 2)
  let second := natOf (field args 2 3)
  if day ≤ 65535 ∧ second ≤ 86399 then
    if s.ctu.activation.isSome then refuse s .pending
    else match tariffFault s.ctu.pendingTable with
      | some f => (s, refusedWith .inconsistent (tariffDetail f))
      | none => ({ s with ctu := { s.ctu with activation := some (day, second) } }, acceptedWith [])
  else refuse s .range

/-- CANCEL ACTIVATION (R143). -/
def reqCancelActivation (_args : List Byte) (s : State) : State × Answer :=
  if s.ctu.activation.isSome then ({ s with ctu := { s.ctu with activation := none } }, done) else refuse s .state

/-! ## Session Controller (06) -/

/-- The session number after one (R93). -/
def numberAfter (n : Nat) : Nat := if n = 65535 then 1 else n + 1

/-- The arguments of OPEN SESSION after its berth (R195). -/
structure OpenArgs where
  account : BitVec 32
  fnom : Nat
  vnom : Nat
  count : Nat
  deriving DecidableEq, Repr

/-- The arguments read from their bytes. -/
def openArgs (args : List Byte) : OpenArgs :=
  { account := BitVec.ofNat 32 (natOf (field args 1 4)), fnom := natOf (field args 5 4), vnom := natOf (field args 9 2),
    count := natOf (field args 11 1) }

/-- The fifth test of OPEN SESSION (R94). -/
def openInRange (e : BerthEntry) (a : OpenArgs) : Bool :=
  (a.fnom == 50000 || a.fnom == 60000) && within 1000 15000 a.vnom && within 1 e.maxModules.toNat a.count

/-- A session opened (R94): the number, the stored arguments, the entry into RESERVING, the allocation request, and the supervision's
checks at the entry (R129; entry 16). -/
def State.openedSession (s : State) (b : Berth) (a : OpenArgs) : State :=
  let s1 : State := { s with ses := { s.ses with nextNumber := numberAfter s.ses.nextNumber } }
  let s2 := s1.setSession b
    { s1.session b with
      number := some s.ses.nextNumber, account := some a.account, fnom := some a.fnom, vnom := some a.vnom,
      requested := a.count, endReason := none }
  let s3 := s2.setSuperv b { s2.superv b with attempts := 0 }
  ((s3.enterState b .reserving).allocRequest b a.count .normal).openingFaults b

/-- OPEN SESSION (R94). -/
def reqOpenSession (args : List Byte) (s : State) : State × Answer :=
  onBerth args s fun b s =>
    if s.operating = false ∨ s.cfs.invalid = true then refuse s .mode
    else if flagOf (s.berthEntry b).enabled = false ∨ (s.session b).state ≠ .idle then refuse s .state
    else if (s.meter b).finalPending then refuse s .billingFull
    else if openInRange (s.berthEntry b) (openArgs args) then
      (s.openedSession b (openArgs args), acceptedWith [natItem s.ses.nextNumber])
    else refuse s .range

/-- HANDOVER IN (R99), refused MODE in every state of the session while the part is in CONFIG or its configuration is invalid (R118;
entry 37). -/
def reqHandoverIn (args : List Byte) (s : State) : State × Answer :=
  onBerth args s fun b s =>
    if s.operating = false ∨ s.cfs.invalid = true then refuse s .mode
    else if (s.session b).state = .connected ∧ (s.session b).ship = .readyForShore then
      (s.enterState b .syncing, acceptedWith [])
    else refuse s .state

/-- A sync close in flight withdrawn by ABORT HANDOVER (R100). -/
def State.withdrawClose (s : State) (b : Berth) : State :=
  let x := (s.setSession b { s.session b with abortPending := true }).openRequest (.sb b)
  if x.2 then x.1.sbOpenComplete b else x.1

/-- ABORT HANDOVER (R100). -/
def reqAbortHandover (args : List Byte) (s : State) : State × Answer :=
  onBerth args s fun b s =>
    if (s.session b).state = .syncing then
      if (s.session b).closeIssued = false then (s.enterState b .connected, done)
      else if (s.session b).abortPending then (s, acceptedWith [])
      else (s.withdrawClose b, acceptedWith [])
    else refuse s .state

/-- RECALL entered, with the gens start request set (R110). -/
def State.enterRecall (s : State) (b : Berth) : State :=
  let s1 := s.enterState b .recall
  s1.setSession b { s1.session b with gensStart := true }

/-- RAMP_OUT entered from PARALLEL with P_sh 0 (R101). -/
def State.rampOutIdle (s : State) (b : Berth) : State :=
  let s1 := s.enterState b .rampOut
  s1.setSession b { s1.session b with share := 0 }

/-- HANDOVER OUT (R101, R109, R110). -/
def reqHandoverOut (args : List Byte) (s : State) : State × Answer :=
  onBerth args s fun b s =>
    match (s.session b).state with
    | .shore => (s.enterRecall b, acceptedWith [])
    | .parallel => (s.rampOutIdle b, done)
    | .rampIn => (s.enterState b .rampOut, done)
    | _ => refuse s .state

/-- CLOSE SESSION (R113). -/
def reqCloseSession (args : List Byte) (s : State) : State × Answer :=
  onBerth args s fun b s =>
    if (s.session b).state = .connected then (s.enterDraining b .closed false, acceptedWith []) else refuse s .state

/-- The supervision's part of an abort or a clear in FAULTED (R135, R136): no restart, no class in force. -/
def State.dropClass (s : State) (b : Berth) : State :=
  s.setSuperv b { s.superv b with restartDue := false, restartTimer := 0, tripClass := none }

/-- ABORT SESSION (R114, R136). In CONFIG an IDLE berth is answered STATE: R114 gives both refusals and no order (DEDUCED, entry 42). -/
def reqAbortSession (args : List Byte) (s : State) : State × Answer :=
  onBerth args s fun b s =>
    if (s.session b).state = .idle then refuse s .state
    else if s.operating = false then refuse s .mode
    else
      let s1 := if (s.session b).state = .faulted then s.dropClass b else s
      (s1.abortSession b .aborted, acceptedWith [])

/-! ## Berth Supervision, Module Pool Manager, Breaker and Synchroniser -/

/-- CLEAR FAULT (R135). -/
def reqClearFault (args : List Byte) (s : State) : State × Answer :=
  onBerth args s fun b s =>
    if (s.session b).state ≠ .faulted then refuse s .state
    else if (s.superv b).tripClass = some .latched ∧ s.operating = true then refuse s .mode
    else if breakerAtRest (s.breaker (.pb b)) && breakerAtRest (s.breaker (.sb b)) then
      let s1 := s.dropClass b
      ((s1.setSession b { s1.session b with endReason := some .fault }).tryIdle b, done)
    else refuse s .state

/-- BLOCK MODULE (R62). A module blocked from FAILED drops its cooldown deadline too: R62 says so only of one blocked from COOLDOWN, and
a module that failed from COOLDOWN still holds its deadline (DEDUCED, entry 39). -/
def reqBlockModule (args : List Byte) (s : State) : State × Answer :=
  onModule args s fun m s =>
    match (s.module m).state with
    | .free | .cooldown | .failed => (s.setModule m { s.module m with state := .blocked, cooldown := 0 }, done)
    | .starting | .bound | .stopping => refuse s .state
    | .blocked => (s, done)

/-- UNBLOCK MODULE (R62). -/
def reqUnblockModule (args : List Byte) (s : State) : State × Answer :=
  onModule args s fun m s =>
    if (s.module m).state = .blocked then
      if (s.module m).op = .none then ((s.setModule m { s.module m with state := .free }).grantEvaluation, done)
      else refuse s .state
    else (s, done)

/-- The other breaker of the same berth. -/
def otherBreaker (k : Breaker) : Breaker :=
  match k with
  | .pb b => .sb b
  | .sb b => .pb b

/-- MARK BREAKER (R82). -/
def reqMarkBreaker (args : List Byte) (s : State) : State × Answer :=
  match breakerOf (byteAt args 0) with
  | some k =>
    let s1 := s.setBreaker k { s.breaker k with mark := true }
    (s1.setBreaker (otherBreaker k) { s1.breaker (otherBreaker k) with mark := false }, done)
  | none => refuse s .range

/-! ## Meter and Billing Unit (09) -/

/-- READ BILLING (R160). -/
def reqReadBilling (_args : List Byte) (s : State) : State × Answer :=
  match s.mbu.ring with
  | r :: _ => (s, doneWith (closedItems r))
  | [] => refuse s .noRecord

/-- RELEASE BILLING (R161). -/
def reqReleaseBilling (args : List Byte) (s : State) : State × Answer :=
  match s.mbu.ring with
  | r :: _ => if r.number = natOf (args.take 4) then (s.releaseOldest, done) else refuse s .sequence
  | [] => refuse s .noRecord

/-- READ METER (R167). -/
def reqReadMeter (args : List Byte) (s : State) : State × Answer := onBerth args s fun b s => (s, doneWith (s.meterItems b))

/-! ## Ring Interface and Management Request Handler -/

/-- RING SURVEY (R15). -/
def reqRingSurvey (_args : List Byte) (s : State) : State × Answer := (s, doneWith (surveyItems s.rif.previous))

/-- READ STATUS (R190). -/
def reqReadStatus (args : List Byte) (s : State) : State × Answer :=
  onScope args s fun c s =>
    match s.statusSection c (byteAt args 1).toNat with
    | some l => (s, doneWith l)
    | none => refuse s .range

/-- READ EVENTS (R187). -/
def reqReadEvents (args : List Byte) (s : State) : State × Answer := onScope args s fun c s => (s, doneWith (eventItems s.mrh c))

/-- The marks that a scope has flags for; bits above its highest flag are ignored (R195). -/
def scopeMask (c : Scope) (v : BitVec 16) : BitVec 16 := v &&& BitVec.ofNat 16 (2 ^ scopeFlagCount c - 1)

/-- The two mark bytes after a scope. -/
def marksArgument (args : List Byte) (c : Scope) : BitVec 16 := scopeMask c (BitVec.ofNat 16 (natOf (field args 1 2)))

/-- CLEAR EVENTS (R188). -/
def reqClearEvents (args : List Byte) (s : State) : State × Answer :=
  onScope args s fun c s =>
    let old := s.mrh.latched.get c
    ({ s with mrh := { s.mrh with latched := s.mrh.latched.set c (old &&& ~~~ marksArgument args c) } }, doneWith [marksItem old])

/-- SET EVENT MASK (R187). -/
def reqSetEventMask (args : List Byte) (s : State) : State × Answer :=
  onScope args s fun c s =>
    ({ s with mrh := { s.mrh with masked := s.mrh.masked.set c (marksArgument args c) } }, done)

/-! ## Execution of the head (R183) -/

/-- The owner of a code of the catalogue (R195). -/
def ownerOf (code : Nat) : List Byte → State → State × Answer :=
  match code with
  | 1 => reqReadTableEntry
  | 2 => reqWriteTableEntry
  | 3 => reqCommit
  | 4 => reqEnterConfiguration
  | 5 => reqSetClock
  | 6 => reqWriteTariffEntry
  | 7 => reqActivateTariff
  | 8 => reqCancelActivation
  | 9 => reqOpenSession
  | 10 => reqHandoverIn
  | 11 => reqAbortHandover
  | 12 => reqHandoverOut
  | 13 => reqCloseSession
  | 14 => reqAbortSession
  | 15 => reqClearFault
  | 16 => reqBlockModule
  | 17 => reqUnblockModule
  | 18 => reqMarkBreaker
  | 19 => reqReadBilling
  | 20 => reqReleaseBilling
  | 21 => reqReadMeter
  | 22 => reqRingSurvey
  | 23 => reqReadStatus
  | 24 => reqReadEvents
  | 25 => reqClearEvents
  | 26 => reqSetEventMask
  | _ => fun _ s => refuse s .unknown

/-- A request executed: its length checked, its owner's answer in the response queue (R183). -/
def State.execute (s : State) (r : Request) (owner : List Byte → State → State × Answer) : State :=
  if lengthFits r then
    let x := owner r.args s
    x.1.answerHead x.2
  else s.answerHead (refused .range)

/-- The head of the request queue executed, whatever its code (R183). -/
def State.executeHead (s : State) : State :=
  match s.mrh.requests with
  | r :: _ => if knownCode r.code then s.execute r (ownerOf r.code.toNat) else s.answerHead (refused .unknown)
  | [] => s

/-- The head executed when it carries the code given; nothing otherwise (entry 4). -/
def State.executeCode (s : State) (code : Byte) (owner : List Byte → State → State × Answer) : State :=
  match s.mrh.requests with
  | r :: _ => if r.code = code then s.execute r owner else s
  | [] => s

end Sys2Proof.Machine
end

