-- ==== Sys2Proof/Machine/Boundary.lean ====
section
/-! DEFINITION. The cycle boundary (R2): the counting that every block does there, and the list of events that the counting makes
due. The events themselves stand in Events.lean. -/

namespace Sys2Proof.Machine

open Sys2Proof

/-! ## What the boundary counts -/

/-- The operation ages one cycle on, kept at 40,000 (R68). -/
def ageMpm (m : Mpm) : Mpm :=
  { m with ageA := min 40000 (m.ageA + 1), ageB := min 40000 (m.ageB + 1), ageStation := min 40000 (m.ageStation + 1) }

/-- The pool's counting at a boundary in OPERATE (R55, R57, R58, R68, R69). -/
def State.boundaryPool (s : State) : State :=
  { s with
    mpm := { ageMpm s.mpm with module := vmapIx (fun m r => boundaryModule (s.stageRuns m) r) s.mpm.module } }

/-- A session record's counting at a boundary in OPERATE: the stage timer (R98), the settle timer (R101) and the step timer
(R102). -/
def boundarySession (r : Session) : Session :=
  { r with
    stageTimer := if stageRunning r then r.stageTimer + 1 else r.stageTimer
    settle := if r.state = .parallel then r.settle - 1 else r.settle
    stepTimer := if keepsShare r.state && r.stepTimer < 399 then r.stepTimer + 1 else r.stepTimer }

/-- The session records after the counting. -/
def State.boundarySessions (s : State) : State :=
  { s with ses := { s.ses with berth := vmapIx (fun _ r => boundarySession r) s.ses.berth } }

/-- A supervision record's restart timer at a boundary in OPERATE (R133). -/
def boundaryRestart (waits : Bool) (v : Supervision) : Supervision :=
  { v with restartTimer := if waits then v.restartTimer - 1 else v.restartTimer }

/-- A supervision record's blank timer at a boundary (R124); the fall from 1 to 0 is left to its own event. -/
def boundaryBlank (v : Supervision) : Supervision := { v with blank := if 1 < v.blank then v.blank - 1 else v.blank }

/-- The scrub walker's spacing count at a boundary in OPERATE (R177); the rise to 4 is left to its own event. -/
def boundaryWalker (w : Walker) : Walker :=
  match w.state with
  | .stopped => w
  | .running | .verifying => { w with spacing := if w.spacing < 3 then w.spacing + 1 else w.spacing }

/-- The counting that a boundary does in OPERATE only. -/
def State.countOperate (s : State) : State :=
  let s1 := s.boundaryPool.boundarySessions
  { s1 with
    sup := vmapIx (fun b v => boundaryRestart (s.awaitsRestart b) v) s1.sup
    cfs := { s1.cfs with walker := boundaryWalker s1.cfs.walker } }

/-- The configuration timer at a boundary in CONFIG (R171). -/
def State.countConfig (s : State) : State := { s with cfs := { s.cfs with timer := s.cfs.timer.map (fun n => n - 1) } }

/-- The counting that a boundary does in both modes: the oscillators (R36, R41, R44), the blank timers (R124) and the cycles of
the second (R137), whose last is left to the second tick. -/
def State.countAlways (s : State) : State :=
  { s with
    rob := vmapIx (fun _ o => boundaryOsc o) s.rob
    sup := vmapIx (fun _ v => boundaryBlank v) s.sup
    ctu := { s.ctu with phaseCount := if s.ctu.phaseCount < 3999 then s.ctu.phaseCount + 1 else s.ctu.phaseCount } }

/-- All the counting of a boundary. -/
def State.counted (s : State) : State := if s.operating then s.countAlways.countOperate else s.countAlways.countConfig

/-- The Ring Interface's part of a boundary (R2, R11, R14, R15): the ending cycle concluded, the new one opened. -/
def State.turnCycle (s : State) : State :=
  let s1 := s.concludeHealths
  { s1 with rif := openCycle s.operating (closeSurvey (concludeContinuity s1.rif)) }

/-! ## What the boundary makes due: `old` is the state before the counting, `new` the state after it -/

/-- An event due under a condition. -/
def dueIf (c : Bool) (d : Due) : List Due := if c then [d] else []

/-- Events of numbered records that satisfy a condition, lowest number first. -/
def dueEach {n : Nat} (c : Fin n → Bool) (f : Fin n → Due) : List Due := ((List.finRange n).filter c).map f

/-- Whether a node's counter has just reached its limit (R11). -/
def State.lossDue (s : State) (n : NodeIx) : Bool :=
  s.operating && countedRole (s.nodeEntry n) && !(s.health n).lost && (s.nodeEntry n).limit.toNat ≤ (s.health n).counter

/-- Whether a LOST node's counter has just reached 0 (R11). -/
def State.recoveryDue (s : State) (n : NodeIx) : Bool :=
  s.operating && countedRole (s.nodeEntry n) && (s.health n).lost && (s.health n).counter == 0

/-- The Ring Interface's events (R11, R14). -/
def ringDues (new : State) : List Due :=
  dueEach new.lossDue .nodeLost ++ dueEach new.recoveryDue .nodeRecovered
    ++ dueIf (new.rif.ring == .up && 8 ≤ new.rif.miss) .ringDown ++ dueIf (new.rif.ring == .down && 8 ≤ new.rif.ret) .ringUp

/-- The oscillators' events (R41, R44). -/
def oscillatorDues (old new : State) : List Due :=
  dueEach (fun b => (old.osc b).mode == .free && 399 ≤ (old.osc b).slew) .freeStep
    ++ dueEach (fun b => (new.osc b).mode == .lock && !(new.osc b).holdover && holdoverLimit (new.osc b).fnom ≤ (new.osc b).watchdog)
      .holdoverEntry

/-- The pool's events (R55, R57, R58, R68, R69). -/
def poolDues (new : State) : List Due :=
  dueEach (fun m => new.stageRuns m && (new.module m).startLimit ≤ (new.module m).stageTimer) .moduleStartLimit
    ++ dueEach (fun m => (new.module m).op != .none && 4000 ≤ (new.module m).opAge) .moduleOperateLimit
    ++ dueEach (fun m => (new.module m).state == .cooldown && (new.module m).cooldown == 0) .cooldownEnd
    ++ [.switchingIssue]

/-- The breakers' and sessions' events (R79, R96, R98, R101, R102). -/
def sessionDues (old new : State) : List Due :=
  dueEach (fun b => limitReached new.ext (new.breaker (.pb b))) (fun b => .breakerOperateLimit (.pb b))
    ++ dueEach (fun b => limitReached new.ext (new.breaker (.sb b))) (fun b => .breakerOperateLimit (.sb b))
    ++ dueEach (fun b => (new.session b).state == .energising && (new.session b).pbRetry) .pbCloseRetry
    ++ dueEach (fun b => stageRunning (new.session b) && (new.session b).stageLimit ≤ (new.session b).stageTimer) .stageLimitExpiry
    ++ dueEach (fun b => (new.session b).state == .parallel && (new.session b).settle == 0) .settleEnd
    ++ dueEach (fun b => keepsShare (old.session b).state && 399 ≤ (old.session b).stepTimer) .rampStep

/-- The restarts' events (R133, R134). -/
def restartDues (new : State) : List Due :=
  dueEach (fun b => new.awaitsRestart b && (new.superv b).restartTimer == 0 && !(new.superv b).restartDue) .restartDue
    ++ dueEach (fun b => new.awaitsRestart b && (new.superv b).restartTimer == 0) .restart

/-- Whether a boundary ends a second: it is the 4,000th of its second (R30, R137). -/
def secondEnds (old : State) : Bool := 3999 ≤ old.ctu.phaseCount

/-- The events of a boundary, in the order of the table (entry 1). -/
def boundaryDues (old new : State) : List Due :=
  let operate (l : List Due) : List Due := if old.operating then l else []
  ringDues new ++ new.due ++ dueIf (secondEnds old) .measurementSecondEnd ++ oscillatorDues old new
    ++ operate (poolDues new ++ sessionDues old new)
    ++ dueEach (fun b => (old.superv b).blank == 1) .blankEnd
    ++ operate (restartDues new)
    ++ dueIf (secondEnds old) .secondTick
    ++ dueEach (fun b => hasHeld (new.meter b)) .heldOverApply
    ++ dueIf (!old.operating && new.cfs.timer == some 0) .configTimeout
    ++ dueIf (old.operating && old.cfs.walker.state != .stopped && 3 ≤ old.cfs.walker.spacing) .scrubRead

/-- A boundary up to its emission: the undelivered point cycles of the ending cycle (R20), the Ring Interface's conclusions, the
counting, and the events made due. R2 lets the blocks act at a boundary in any order; that the undelivered point cycles, with a trip that
one of them brings, come before the counting and before the emission, and that the phases advance before a RESTART reinitialises an
oscillator (R40), is the model's choice (DESIGN CHOICE, entry 41). -/
def State.boundaryWork (s : State) : State :=
  let s1 := s.undeliveredCycles.turnCycle
  let s2 := s1.counted
  { s2 with due := boundaryDues s1 s2 }

/-- A cycle boundary (R2), with the cycle frame emitted before the boundary's other events or among them (R3). -/
def State.boundary (s : State) (deferEmission : Bool) : State :=
  let s1 := s.boundaryWork
  if deferEmission then { s1 with due := .emission :: s1.due } else s1.emission

/-- The first cycle frame (R16): it opens cycle 0 without advancing the counters; the part is in CONFIG or has been committed
since, and the cycle counts as opened in the mode it finds. -/
def State.firstFrame (s : State) : State :=
  if s.rif.started then s
  else
    let s1 : State := { s with rif := { s.rif with started := true, cycleOperate := s.operating } }
    s1.emission

end Sys2Proof.Machine
end

