-- ==== Sys2Proof/Machine/Events.lean ====
section
/-! DEFINITION. The events of a boundary or a point cycle taken one by one (entry 1), what is settled before an outside event, and
the guards that every command's meaning stands in. -/

namespace Sys2Proof.Machine

open Sys2Proof

/-- The FREE step of berth `b`'s oscillator (R41). -/
def State.freeStep (s : State) (b : Berth) : State :=
  if (s.osc b).mode = .free ∧ 399 ≤ (s.osc b).slew then s.setOsc b (freeStepOsc (s.osc b)) else s

/-- The second tick, taken when the 4,000th boundary of its second has come (R137). -/
def State.tickIfReached (s : State) : State := if 3999 ≤ s.ctu.phaseCount then s.secondTick else s

/-- The held-over items of berth `b`'s meter applied when it holds any (R155). -/
def State.applyHeldOver (s : State) (b : Berth) : State := if hasHeld (s.meter b) then s.flushHeld b else s

/-- What an event does when it is taken. `refreshFirst` is the order within the end of a measurement second (R105). -/
def State.runDue (s : State) (refreshFirst : Bool) (d : Due) : State :=
  match d with
  | .emission => s.emission
  | .nodeLost n => s.nodeLost n
  | .nodeRecovered n => s.nodeRecovered n
  | .ringDown => s.ringDown
  | .ringUp => s.ringUp
  | .noCrossingTimeout p => s.noCrossing p
  | .measurementSecondEnd => s.secondEnd refreshFirst
  | .freeStep b => s.freeStep b
  | .holdoverEntry b => s.holdoverEntry b
  | .moduleStartLimit m => s.moduleStartLimit m
  | .moduleOperateLimit m => s.moduleOperateLimit m
  | .cooldownEnd m => s.cooldownEnd m
  | .switchingIssue => s.switchingIssue
  | .breakerOperateLimit k => s.breakerLimit k
  | .pbCloseRetry b => s.pbCloseRetry b
  | .stageLimitExpiry b => s.stageExpiry b
  | .settleEnd b => s.settleEnd b
  | .rampStep b => s.rampStep b
  | .blankEnd b => s.blankEnd b
  | .restartDue b => s.restartDue b
  | .restart b => s.restart b
  | .secondTick => s.tickIfReached
  | .tariffActivation => s.tickActivation
  | .demandBlockEnd => s.blockEnd
  | .heldOverApply b => s.applyHeldOver b
  | .configTimeout => s.configTimeout
  | .scrubRead => s.scrubRead

/-- An event that is due taken: it is due no longer, and it acts. -/
def State.takeDue (s : State) (refreshFirst : Bool) (d : Due) : State :=
  State.runDue { s with due := s.due.erase d } refreshFirst d

/-- The checks of a second tick that come before an event (R137): the tick's own checks keep their order, and no other event comes
between them. -/
def tickChecksBefore (d : Due) : List Due :=
  match d with
  | .tariffActivation => []
  | .demandBlockEnd => [.tariffActivation]
  | _ => [.tariffActivation, .demandBlockEnd]

/-- A check of a second tick taken when it is due. -/
def State.takeCheck (s : State) (d : Due) : State := if d ∈ s.due then s.takeDue false d else s

/-- The meaning of an event's own command: the event is taken when it is due, after the checks of a second tick that come before it,
and nothing happens when it is not due (R137; entries 1 and 3). -/
def State.takeIfDue (s : State) (refreshFirst : Bool) (d : Due) : State :=
  if d ∈ s.due then ((tickChecksBefore d).foldl State.takeCheck s).takeDue refreshFirst d else s

/-- At most `n` of the events that are due taken, in the order in which they stand. -/
def State.drainDue (s : State) : Nat → State
  | 0 => s
  | n + 1 =>
    match s.due with
    | d :: _ => State.drainDue (s.takeDue false d) n
    | [] => s

/-- Every event that is due taken. A second tick makes at most two more due, which the bound covers. -/
def State.settleDue (s : State) : State := s.drainDue (4 * s.due.length + 4)

/-- At most `n` requests executed from the head of the request queue. -/
def State.drainRequests (s : State) : Nat → State
  | 0 => s
  | n + 1 => State.drainRequests s.executeHead n

/-- Everything taken that comes before the next outside event: the events that are due, then the queued requests (entries 1
and 4). -/
def State.settle (s : State) : State :=
  let s1 := s.settleDue
  s1.drainRequests s1.mrh.requests.length

/-- The guard of an outside event: nothing has been sent yet in the step, and while the reset line is held the part takes nothing
(R16). -/
def State.outside (s : State) (f : State → State) : State := if s.quiet.resetHeld then s.quiet else f s.quiet.settle

/-- The guard of an event of the part itself: nothing has been sent yet in the step, and a part held in reset does nothing. -/
def State.inside (s : State) (f : State → State) : State := if s.quiet.resetHeld then s.quiet else f s.quiet

/-- The meaning of a request's own command: what is due is taken, and the head is executed when it carries the code (entry 4). -/
def State.requestCommand (s : State) (code : Byte) (owner : List Byte → State → State × Answer) : State :=
  s.inside fun s => s.settleDue.executeCode code owner

/-- The meaning of an event's own command. -/
def State.eventCommand (s : State) (d : Due) : State := s.inside fun s => s.takeIfDue false d

/-- The meaning of a frame's arrival, with its kind nibble. -/
def State.frameCommand (s : State) (o : DeliveryOrder) (nibble : BitVec 4) (f : Arrival) : State :=
  s.outside fun s => s.arrive o nibble f

end Sys2Proof.Machine
end

