-- ==== Sys2Proof/Machine/Commands.lean ====
section
/-! DEFINITION. The meanings of the commands, one definition for each row of the table. Every meaning answers a next state: nothing in
the spec stops the part. -/

namespace Sys2Proof.Machine

open Sys2Proof

/-- The kind of an own frame that returns (R5). -/
def ownKind (k : OwnKind) : FrameKind :=
  match k with
  | .mrs => .mrs
  | .evn => .evn

/-- RESET_ASSERT (R16): the reset line goes low; from now until its release nothing is sent and nothing is taken. -/
def execResetAssert (s : State) : Host.Outcome State Fault Refusal := .next { s.quiet with resetHeld := true }

/-- RESET_RELEASE (R16): every block takes its reset state; the commands that wait outside the part still wait. -/
def execResetRelease (s : State) : Host.Outcome State Fault Refusal := .next { State.reset with pending := s.pending }

/-- CYCLE_BOUNDARY (R2): what came before is settled, and the boundary is taken. Before the first cycle frame there is no cycle to
end (R16). -/
def execCycleBoundary (deferEmission : Bool) (s : State) : Host.Outcome State Fault Refusal :=
  .next (s.outside fun s => if s.rif.started then s.boundary deferEmission else s)

/-- NODE_LOST (R11): a node's counter has reached its limit; taken when it is due. -/
def execNodeLost (n : NodeIx) (s : State) : Host.Outcome State Fault Refusal := .next (s.eventCommand (.nodeLost n))

/-- NODE_RECOVERED (R12): a LOST node's counter has returned to 0; taken when it is due. -/
def execNodeRecovered (n : NodeIx) (s : State) : Host.Outcome State Fault Refusal := .next (s.eventCommand (.nodeRecovered n))

/-- RING_DOWN (R14): the miss count has reached 8; taken when it is due. -/
def execRingDown (s : State) : Host.Outcome State Fault Refusal := .next (s.eventCommand .ringDown)

/-- RING_UP (R14): the return count has reached 8; taken when it is due. -/
def execRingUp (s : State) : Host.Outcome State Fault Refusal := .next (s.eventCommand .ringUp)

/-- CYC_RETURN (R14): a CYC frame arrives. -/
def execCycReturn (f : Arrival) (s : State) : Host.Outcome State Fault Refusal := .next (s.frameCommand plainOrder (nibbleOf .cyc) f)

/-- OWN_FRAME_RETURN (R5): an MRS or EVN frame arrives. -/
def execOwnFrameReturn (k : OwnKind) (f : Arrival) (s : State) : Host.Outcome State Fault Refusal :=
  .next (s.frameCommand plainOrder (nibbleOf (ownKind k)) f)

/-- FOREIGN_FRAME (R4): a frame of kind 8 to 15 arrives. -/
def execForeignFrame (k : BitVec 3) (f : Arrival) (s : State) : Host.Outcome State Fault Refusal :=
  .next (s.frameCommand plainOrder (8 ||| k.setWidth 4) f)

/-- CORRUPT_FRAME (R4): a frame of kind 0 to 7 arrives, whose checks it may fail. -/
def execCorruptFrame (k : BitVec 3) (f : Arrival) (s : State) : Host.Outcome State Fault Refusal :=
  .next (s.frameCommand plainOrder (k.setWidth 4) f)

/-- SMP_DELIVERY (R7): an SMP frame arrives. -/
def execSmpDelivery (f : Arrival) (s : State) : Host.Outcome State Fault Refusal := .next (s.frameCommand plainOrder (nibbleOf .smp) f)

/-- MOD_DELIVERY (R52): a MOD frame arrives. -/
def execModDelivery (o : DeliveryOrder) (f : Arrival) (s : State) : Host.Outcome State Fault Refusal := .next (s.frameCommand o (nibbleOf .mod) f)

/-- BRK_DELIVERY (R75): a BRK frame arrives. -/
def execBrkDelivery (o : DeliveryOrder) (f : Arrival) (s : State) : Host.Outcome State Fault Refusal := .next (s.frameCommand o (nibbleOf .brk) f)

/-- SIU_DELIVERY (R8): an SIU frame arrives. -/
def execSiuDelivery (o : DeliveryOrder) (f : Arrival) (s : State) : Host.Outcome State Fault Refusal := .next (s.frameCommand o (nibbleOf .siu) f)

/-- NO_CROSSING_TIMEOUT (R25): a point's window has reached 101 samples; taken when it is due. -/
def execNoCrossingTimeout (p : Point) (s : State) : Host.Outcome State Fault Refusal := .next (s.eventCommand (.noCrossingTimeout p))

/-- MEASUREMENT_SECOND_END (R30): taken when it is due, with the headroom refresh before or after the closes (R105). -/
def execMeasurementSecondEnd (refreshFirst : Bool) (s : State) : Host.Outcome State Fault Refusal :=
  .next (s.inside fun s => s.takeIfDue refreshFirst .measurementSecondEnd)

/-- FREE_STEP (R41): the slew count has reached 400; taken when it is due. -/
def execFreeStep (b : Berth) (s : State) : Host.Outcome State Fault Refusal := .next (s.eventCommand (.freeStep b))

/-- HOLDOVER_ENTRY (R44): the lock watchdog has reached the holdover limit; taken when it is due. -/
def execHoldoverEntry (b : Berth) (s : State) : Host.Outcome State Fault Refusal := .next (s.eventCommand (.holdoverEntry b))

/-- MODULE_START_LIMIT (R55): a STARTING or STOPPING module's stage timer has reached its start limit; taken when it is due. -/
def execModuleStartLimit (m : ModuleId) (s : State) : Host.Outcome State Fault Refusal := .next (s.eventCommand (.moduleStartLimit m))

/-- MODULE_OPERATE_LIMIT (R69): a module breaker operation has been in force for 4,000 cycles; taken when it is due. -/
def execModuleOperateLimit (m : ModuleId) (s : State) : Host.Outcome State Fault Refusal := .next (s.eventCommand (.moduleOperateLimit m))

/-- COOLDOWN_END (R58): a cooldown deadline has run out; taken when it is due. -/
def execCooldownEnd (m : ModuleId) (s : State) : Host.Outcome State Fault Refusal := .next (s.eventCommand (.cooldownEnd m))

/-- SWITCHING_ISSUE (R68): the boundary's issue from the switching queue; taken when it is due. -/
def execSwitchingIssue (s : State) : Host.Outcome State Fault Refusal := .next (s.eventCommand .switchingIssue)

/-- BREAKER_OPERATE_LIMIT (R79): a PB or SB command in force has reached its operate limit; taken when it is due. -/
def execBreakerOperateLimit (k : Breaker) (s : State) : Host.Outcome State Fault Refusal := .next (s.eventCommand (.breakerOperateLimit k))

/-- PB_CLOSE_RETRY (R96): a refused plug breaker close is asked for again; taken when it is due. -/
def execPbCloseRetry (b : Berth) (s : State) : Host.Outcome State Fault Refusal := .next (s.eventCommand (.pbCloseRetry b))

/-- STAGE_LIMIT_EXPIRY (R98): a stage timer has reached its limit; taken when it is due. -/
def execStageLimitExpiry (b : Berth) (s : State) : Host.Outcome State Fault Refusal := .next (s.eventCommand (.stageLimitExpiry b))

/-- SETTLE_END (R101): the settle timer of PARALLEL has run out; taken when it is due. -/
def execSettleEnd (b : Berth) (s : State) : Host.Outcome State Fault Refusal := .next (s.eventCommand (.settleEnd b))

/-- RAMP_STEP (R102): the step timer of RAMP_IN or RAMP_OUT has run; taken when it is due. -/
def execRampStep (b : Berth) (s : State) : Host.Outcome State Fault Refusal := .next (s.eventCommand (.rampStep b))

/-- BLANK_END (R124): the blank timer has run out; taken when it is due. -/
def execBlankEnd (b : Berth) (s : State) : Host.Outcome State Fault Refusal := .next (s.eventCommand (.blankEnd b))

/-- RESTART_DUE (R133): the restart timer has reached 0; taken when it is due. -/
def execRestartDue (b : Berth) (s : State) : Host.Outcome State Fault Refusal := .next (s.eventCommand (.restartDue b))

/-- RESTART (R134): the restart conditions are tested at a boundary; taken when it is due. -/
def execRestart (b : Berth) (s : State) : Host.Outcome State Fault Refusal := .next (s.eventCommand (.restart b))

/-- SECOND_TICK (R137): the 4,000th boundary of a second has come; taken when it is due. -/
def execSecondTick (s : State) : Host.Outcome State Fault Refusal := .next (s.eventCommand .secondTick)

/-- TARIFF_ACTIVATION (R144): the activation time has come at a second tick; taken when it is due. -/
def execTariffActivation (s : State) : Host.Outcome State Fault Refusal := .next (s.eventCommand .tariffActivation)

/-- DEMAND_BLOCK_END (R147): a second tick has ended the demand block; taken when it is due. -/
def execDemandBlockEnd (s : State) : Host.Outcome State Fault Refusal := .next (s.eventCommand .demandBlockEnd)

/-- HELD_OVER_APPLY (R155): held-over items no second end has applied; taken when it is due. -/
def execHeldOverApply (b : Berth) (s : State) : Host.Outcome State Fault Refusal := .next (s.eventCommand (.heldOverApply b))

/-- CONFIG_TIMEOUT (R171): the configuration timer has run out; taken when it is due. -/
def execConfigTimeout (s : State) : Host.Outcome State Fault Refusal := .next (s.eventCommand .configTimeout)

/-- SCRUB_READ (R177): the walker's fourth boundary has come; taken when it is due. -/
def execScrubRead (s : State) : Host.Outcome State Fault Refusal := .next (s.eventCommand .scrubRead)

/-- REQUEST_FRAME (R6): an MRQ frame arrives. -/
def execRequestFrame (f : Arrival) (s : State) : Host.Outcome State Fault Refusal := .next (s.frameCommand plainOrder (nibbleOf .mrq) f)

/-- READ_TABLE_ENTRY (R169): the request at the head of the queue executed when it is a READ TABLE ENTRY. -/
def execReadTableEntry (s : State) : Host.Outcome State Fault Refusal := .next (s.requestCommand 1 reqReadTableEntry)

/-- WRITE_TABLE_ENTRY (R170): the request at the head of the queue executed when it is a WRITE TABLE ENTRY. -/
def execWriteTableEntry (s : State) : Host.Outcome State Fault Refusal := .next (s.requestCommand 2 reqWriteTableEntry)

/-- COMMIT (R172): the request at the head of the queue executed when it is a COMMIT. -/
def execCommit (s : State) : Host.Outcome State Fault Refusal := .next (s.requestCommand 3 reqCommit)

/-- ENTER_CONFIGURATION (R175): the request at the head of the queue executed when it is a ENTER CONFIGURATION. -/
def execEnterConfiguration (s : State) : Host.Outcome State Fault Refusal := .next (s.requestCommand 4 reqEnterConfiguration)

/-- SET_CLOCK (R139): the request at the head of the queue executed when it is a SET CLOCK. -/
def execSetClock (s : State) : Host.Outcome State Fault Refusal := .next (s.requestCommand 5 reqSetClock)

/-- WRITE_TARIFF_ENTRY (R140): the request at the head of the queue executed when it is a WRITE TARIFF ENTRY. -/
def execWriteTariffEntry (s : State) : Host.Outcome State Fault Refusal := .next (s.requestCommand 6 reqWriteTariffEntry)

/-- ACTIVATE_TARIFF (R142): the request at the head of the queue executed when it is a ACTIVATE TARIFF. -/
def execActivateTariff (s : State) : Host.Outcome State Fault Refusal := .next (s.requestCommand 7 reqActivateTariff)

/-- CANCEL_ACTIVATION (R143): the request at the head of the queue executed when it is a CANCEL ACTIVATION. -/
def execCancelActivation (s : State) : Host.Outcome State Fault Refusal := .next (s.requestCommand 8 reqCancelActivation)

/-- OPEN_SESSION (R94): the request at the head of the queue executed when it is a OPEN SESSION. -/
def execOpenSession (s : State) : Host.Outcome State Fault Refusal := .next (s.requestCommand 9 reqOpenSession)

/-- HANDOVER_IN (R99): the request at the head of the queue executed when it is a HANDOVER IN. -/
def execHandoverIn (s : State) : Host.Outcome State Fault Refusal := .next (s.requestCommand 10 reqHandoverIn)

/-- ABORT_HANDOVER (R100): the request at the head of the queue executed when it is a ABORT HANDOVER. -/
def execAbortHandover (s : State) : Host.Outcome State Fault Refusal := .next (s.requestCommand 11 reqAbortHandover)

/-- HANDOVER_OUT (R110): the request at the head of the queue executed when it is a HANDOVER OUT. -/
def execHandoverOut (s : State) : Host.Outcome State Fault Refusal := .next (s.requestCommand 12 reqHandoverOut)

/-- CLOSE_SESSION (R113): the request at the head of the queue executed when it is a CLOSE SESSION. -/
def execCloseSession (s : State) : Host.Outcome State Fault Refusal := .next (s.requestCommand 13 reqCloseSession)

/-- ABORT_SESSION (R114): the request at the head of the queue executed when it is a ABORT SESSION. -/
def execAbortSession (s : State) : Host.Outcome State Fault Refusal := .next (s.requestCommand 14 reqAbortSession)

/-- CLEAR_FAULT (R135): the request at the head of the queue executed when it is a CLEAR FAULT. -/
def execClearFault (s : State) : Host.Outcome State Fault Refusal := .next (s.requestCommand 15 reqClearFault)

/-- BLOCK_MODULE (R62): the request at the head of the queue executed when it is a BLOCK MODULE. -/
def execBlockModule (s : State) : Host.Outcome State Fault Refusal := .next (s.requestCommand 16 reqBlockModule)

/-- UNBLOCK_MODULE (R62): the request at the head of the queue executed when it is a UNBLOCK MODULE. -/
def execUnblockModule (s : State) : Host.Outcome State Fault Refusal := .next (s.requestCommand 17 reqUnblockModule)

/-- MARK_BREAKER (R82): the request at the head of the queue executed when it is a MARK BREAKER. -/
def execMarkBreaker (s : State) : Host.Outcome State Fault Refusal := .next (s.requestCommand 18 reqMarkBreaker)

/-- READ_BILLING (R160): the request at the head of the queue executed when it is a READ BILLING. -/
def execReadBilling (s : State) : Host.Outcome State Fault Refusal := .next (s.requestCommand 19 reqReadBilling)

/-- RELEASE_BILLING (R161): the request at the head of the queue executed when it is a RELEASE BILLING. -/
def execReleaseBilling (s : State) : Host.Outcome State Fault Refusal := .next (s.requestCommand 20 reqReleaseBilling)

/-- READ_METER (R167): the request at the head of the queue executed when it is a READ METER. -/
def execReadMeter (s : State) : Host.Outcome State Fault Refusal := .next (s.requestCommand 21 reqReadMeter)

/-- RING_SURVEY (R15): the request at the head of the queue executed when it is a RING SURVEY. -/
def execRingSurvey (s : State) : Host.Outcome State Fault Refusal := .next (s.requestCommand 22 reqRingSurvey)

/-- READ_STATUS (R190): the request at the head of the queue executed when it is a READ STATUS. -/
def execReadStatus (s : State) : Host.Outcome State Fault Refusal := .next (s.requestCommand 23 reqReadStatus)

/-- READ_EVENTS (R187): the request at the head of the queue executed when it is a READ EVENTS. -/
def execReadEvents (s : State) : Host.Outcome State Fault Refusal := .next (s.requestCommand 24 reqReadEvents)

/-- CLEAR_EVENTS (R188): the request at the head of the queue executed when it is a CLEAR EVENTS. -/
def execClearEvents (s : State) : Host.Outcome State Fault Refusal := .next (s.requestCommand 25 reqClearEvents)

/-- SET_EVENT_MASK (R187): the request at the head of the queue executed when it is a SET EVENT MASK. -/
def execSetEventMask (s : State) : Host.Outcome State Fault Refusal := .next (s.requestCommand 26 reqSetEventMask)

/-- FIRST_CYCLE_FRAME (R16): the frame that opens cycle 0. -/
def execFirstCycleFrame (s : State) : Host.Outcome State Fault Refusal := .next (s.outside State.firstFrame)

end Sys2Proof.Machine
end

