-- ==== Sys2Proof/Machine/Dispatch.lean ====
section
/-! DEFINITION. The meaning of every command, arm by arm. -/

namespace Sys2Proof.Machine

open Sys2Proof

/-- The effect of a command on everything but the queue of waiting commands. -/
def exec (i : Instr) (s : State) : Host.Outcome State Fault Refusal :=
  match i with
  | .resetAssert => Sys2Proof.Machine.execResetAssert s
  | .resetRelease => Sys2Proof.Machine.execResetRelease s
  | .cycleBoundary deferEmission => Sys2Proof.Machine.execCycleBoundary deferEmission s
  | .nodeLost n => Sys2Proof.Machine.execNodeLost n s
  | .nodeRecovered n => Sys2Proof.Machine.execNodeRecovered n s
  | .ringDown => Sys2Proof.Machine.execRingDown s
  | .ringUp => Sys2Proof.Machine.execRingUp s
  | .cycReturn f => Sys2Proof.Machine.execCycReturn f s
  | .ownFrameReturn k f => Sys2Proof.Machine.execOwnFrameReturn k f s
  | .foreignFrame k f => Sys2Proof.Machine.execForeignFrame k f s
  | .corruptFrame k f => Sys2Proof.Machine.execCorruptFrame k f s
  | .smpDelivery f => Sys2Proof.Machine.execSmpDelivery f s
  | .modDelivery o f => Sys2Proof.Machine.execModDelivery o f s
  | .brkDelivery o f => Sys2Proof.Machine.execBrkDelivery o f s
  | .siuDelivery o f => Sys2Proof.Machine.execSiuDelivery o f s
  | .noCrossingTimeout p => Sys2Proof.Machine.execNoCrossingTimeout p s
  | .measurementSecondEnd refreshFirst => Sys2Proof.Machine.execMeasurementSecondEnd refreshFirst s
  | .freeStep b => Sys2Proof.Machine.execFreeStep b s
  | .holdoverEntry b => Sys2Proof.Machine.execHoldoverEntry b s
  | .moduleStartLimit m => Sys2Proof.Machine.execModuleStartLimit m s
  | .moduleOperateLimit m => Sys2Proof.Machine.execModuleOperateLimit m s
  | .cooldownEnd m => Sys2Proof.Machine.execCooldownEnd m s
  | .switchingIssue => Sys2Proof.Machine.execSwitchingIssue s
  | .breakerOperateLimit k => Sys2Proof.Machine.execBreakerOperateLimit k s
  | .pbCloseRetry b => Sys2Proof.Machine.execPbCloseRetry b s
  | .stageLimitExpiry b => Sys2Proof.Machine.execStageLimitExpiry b s
  | .settleEnd b => Sys2Proof.Machine.execSettleEnd b s
  | .rampStep b => Sys2Proof.Machine.execRampStep b s
  | .blankEnd b => Sys2Proof.Machine.execBlankEnd b s
  | .restartDue b => Sys2Proof.Machine.execRestartDue b s
  | .restart b => Sys2Proof.Machine.execRestart b s
  | .secondTick => Sys2Proof.Machine.execSecondTick s
  | .tariffActivation => Sys2Proof.Machine.execTariffActivation s
  | .demandBlockEnd => Sys2Proof.Machine.execDemandBlockEnd s
  | .heldOverApply b => Sys2Proof.Machine.execHeldOverApply b s
  | .configTimeout => Sys2Proof.Machine.execConfigTimeout s
  | .scrubRead => Sys2Proof.Machine.execScrubRead s
  | .requestFrame f => Sys2Proof.Machine.execRequestFrame f s
  | .readTableEntry => Sys2Proof.Machine.execReadTableEntry s
  | .writeTableEntry => Sys2Proof.Machine.execWriteTableEntry s
  | .commit => Sys2Proof.Machine.execCommit s
  | .enterConfiguration => Sys2Proof.Machine.execEnterConfiguration s
  | .setClock => Sys2Proof.Machine.execSetClock s
  | .writeTariffEntry => Sys2Proof.Machine.execWriteTariffEntry s
  | .activateTariff => Sys2Proof.Machine.execActivateTariff s
  | .cancelActivation => Sys2Proof.Machine.execCancelActivation s
  | .openSession => Sys2Proof.Machine.execOpenSession s
  | .handoverIn => Sys2Proof.Machine.execHandoverIn s
  | .abortHandover => Sys2Proof.Machine.execAbortHandover s
  | .handoverOut => Sys2Proof.Machine.execHandoverOut s
  | .closeSession => Sys2Proof.Machine.execCloseSession s
  | .abortSession => Sys2Proof.Machine.execAbortSession s
  | .clearFault => Sys2Proof.Machine.execClearFault s
  | .blockModule => Sys2Proof.Machine.execBlockModule s
  | .unblockModule => Sys2Proof.Machine.execUnblockModule s
  | .markBreaker => Sys2Proof.Machine.execMarkBreaker s
  | .readBilling => Sys2Proof.Machine.execReadBilling s
  | .releaseBilling => Sys2Proof.Machine.execReleaseBilling s
  | .readMeter => Sys2Proof.Machine.execReadMeter s
  | .ringSurvey => Sys2Proof.Machine.execRingSurvey s
  | .readStatus => Sys2Proof.Machine.execReadStatus s
  | .readEvents => Sys2Proof.Machine.execReadEvents s
  | .clearEvents => Sys2Proof.Machine.execClearEvents s
  | .setEventMask => Sys2Proof.Machine.execSetEventMask s
  | .firstCycleFrame => Sys2Proof.Machine.execFirstCycleFrame s

end Sys2Proof.Machine
end

