-- ==== Sys2Proof/Machine/Step.lean ====
section
/-! DEFINITION. One step: the command at the front of the queue is taken. -/

namespace Sys2Proof.Machine

open Sys2Proof

/-- The state with the queue's rest in place of the queue. -/
def State.withPending (s : State) (l : List Instr) : State := { s with pending := l }

/-- One step: the command at the front of the queue run on the state with the queue's rest. With nothing waiting the part idles
(entry 2). -/
def step (s : State) : Host.Outcome State Fault Refusal :=
  match s.pending with
  | c :: rest => exec c (s.withPending rest)
  | [] => .next s

/-- The command that a word spells put at the front of the queue; the state itself where the word spells none (entry 32). -/
def State.withFetchWord (s : State) (nbits w : Nat) : State :=
  match decodeTableWord nbits w with
  | some c => s.withPending (c :: s.pending)
  | none => s

end Sys2Proof.Machine
end

