-- ==== Sys2Proof/Safety.lean ====
section
/-! DEFINITION. What counts as safe on this part, in the terms that statements use: the laws the spec says are kept, each as a
predicate of a state, and the circumstances in which a command is taken. -/

namespace Sys2Proof.Machine

open Sys2Proof

/-! ## Outcomes and circumstances -/

/-- The outcome is a next state with a property. -/
def Answers (o : Host.Outcome State Fault Refusal) (P : State → Prop) : Prop := ∃ t, o = .next t ∧ P t

/-- Nothing is left to take before an outside event: the reset line is high, no event is due, no request is queued (R16, R183;
entries 1 and 4). -/
abbrev Settled (s : State) : Prop := s.resetHeld = false ∧ s.due = [] ∧ s.mrh.requests = []

/-- An event is due, no check of a second tick stands before it, and the reset line is high (R137; entry 1). -/
abbrev DueNow (s : State) (d : Due) : Prop := s.resetHeld = false ∧ d ∈ s.due ∧ ∀ c ∈ tickChecksBefore d, c ∉ s.due

/-- The due event that a command of the part's own events names; absent for any other command (entry 1). -/
def dueOf (c : Instr) : Option Due :=
  match c with
  | .nodeLost n => some (.nodeLost n)
  | .nodeRecovered n => some (.nodeRecovered n)
  | .ringDown => some .ringDown
  | .ringUp => some .ringUp
  | .noCrossingTimeout p => some (.noCrossingTimeout p)
  | .measurementSecondEnd _ => some .measurementSecondEnd
  | .freeStep b => some (.freeStep b)
  | .holdoverEntry b => some (.holdoverEntry b)
  | .moduleStartLimit m => some (.moduleStartLimit m)
  | .moduleOperateLimit m => some (.moduleOperateLimit m)
  | .cooldownEnd m => some (.cooldownEnd m)
  | .switchingIssue => some .switchingIssue
  | .breakerOperateLimit k => some (.breakerOperateLimit k)
  | .pbCloseRetry b => some (.pbCloseRetry b)
  | .stageLimitExpiry b => some (.stageLimitExpiry b)
  | .settleEnd b => some (.settleEnd b)
  | .rampStep b => some (.rampStep b)
  | .blankEnd b => some (.blankEnd b)
  | .restartDue b => some (.restartDue b)
  | .restart b => some (.restart b)
  | .secondTick => some .secondTick
  | .tariffActivation => some .tariffActivation
  | .demandBlockEnd => some .demandBlockEnd
  | .heldOverApply b => some (.heldOverApply b)
  | .configTimeout => some .configTimeout
  | .scrubRead => some .scrubRead
  | _ => none

/-- The state in which a due event acts: nothing sent yet in the step, the event no longer due. -/
def State.without (s : State) (d : Due) : State := { s.quiet with due := s.due.erase d }

/-- A request stands at the head of the queue and nothing is due before it (R183). -/
abbrev AtHead (s : State) (r : Request) (l : List Request) : Prop := s.resetHeld = false ∧ s.due = [] ∧ s.mrh.requests = r :: l

/-- The head request answered: it leaves the request queue and its response joins the back of the response queue (R183, R184). -/
def State.answered (s : State) (r : Request) (l : List Request) (a : Answer) : State :=
  { s with mrh := { s.mrh with requests := l, responses := s.mrh.responses ++ [⟨r.source, r.tag, r.code, a⟩] } }

/-- The command of a frame's arrival by its kind. -/
def arrivalCommand (k : FrameKind) (o : DeliveryOrder) (f : Arrival) : Instr :=
  match k with
  | .cyc => .cycReturn f
  | .smp => .smpDelivery f
  | .mod => .modDelivery o f
  | .brk => .brkDelivery o f
  | .siu => .siuDelivery o f
  | .mrq => .requestFrame f
  | .mrs => .ownFrameReturn .mrs f
  | .evn => .ownFrameReturn .evn f

/-- The blocks besides the Ring Interface and the Management Request Handler are as they were. -/
def SameBlocks (s t : State) : Prop :=
  t.mfe = s.mfe ∧ t.rob = s.rob ∧ t.mpm = s.mpm ∧ t.bsy = s.bsy ∧ t.ses = s.ses ∧ t.sup = s.sup ∧ t.ctu = s.ctu ∧ t.mbu = s.mbu
    ∧ t.cfs = s.cfs

/-- Whether an event is latched in a scope (R186). -/
def State.isLatched (s : State) (c : Scope) (n : Nat) : Bool := (s.mrh.latched.get c).getLsbD n

/-- A frame that arrives in a running cycle with good length and CRC (R4, R16). -/
abbrev GoodFrame (s : State) (k : FrameKind) (f : Arrival) : Prop :=
  s.rif.started = true ∧ f.whole = true ∧ checksGood k (arrivalFrame (nibbleOf k) f) = true

/-- A frame that is on time, from a node that has not yet delivered in the cycle and whose role matches its kind (R5, R7). -/
abbrev FirstOnTime (s : State) (k : FrameKind) (n : NodeIx) (f : Arrival) : Prop :=
  f.source ≠ 0 ∧ s.matchingNode k f.source = some n ∧ f.cycle = s.rif.cycle ∧ vget s.rif.taken n = false

/-- What one judgement of a protection filter does (R125 to R128): a passing one clears the count and the raised mark; a failing one
raises the count up to the limit; the one that reaches it with the mark clear sets the mark and takes the fault. -/
abbrev JudgedAs (s t : State) (b : Berth) (k : FaultKind) (limit : Nat) (fails : Prop) (f : Filter) (put : Filter → Supervision) :
    Prop :=
  (¬ fails → t = s.setSuperv b (put ⟨0, false⟩))
    ∧ (fails → f.raised = true ∨ f.count + 1 < limit → t = s.setSuperv b (put ⟨min limit (f.count + 1), f.raised⟩))
    ∧ (fails → f.raised = false → limit ≤ f.count + 1 → t = (s.setSuperv b (put ⟨limit, true⟩)).fault b k)

/-- The RMS figures that a record `x` takes from a window of squared samples (R26, R27): the RMS volts of each phase, the point's, the
line-to-line volts, and, with a nominal voltage, the per-mille figures that fit their 16 bits; without one they are absent. -/
abbrev RmsFigures (vfs : Nat) (vnom : Option Nat) (w : Window) (x : MeasRecord) : Prop :=
  let volts (sum : Nat) : Nat := isqrt (sum / w.count) * vfs / 32767
  let permille (u v : Nat) : Nat := (v * 1732 + u / 2) / u
  x.rms = ⟨volts w.sums.l1, volts w.sums.l2, volts w.sums.l3⟩ ∧ x.pointRms = (x.rms.l1 + x.rms.l2 + x.rms.l3) / 3
    ∧ x.lineVolts = (x.pointRms * 1732 + 500) / 1000
    ∧ (vnom = none → x.permille = ⟨none, none, none⟩ ∧ x.pointPermille = none)
    ∧ ∀ u, vnom = some u → permille u x.rms.l1 < 65536 → permille u x.rms.l2 < 65536 → permille u x.rms.l3 < 65536 →
      x.permille = ⟨some (permille u x.rms.l1), some (permille u x.rms.l2), some (permille u x.rms.l3)⟩
        ∧ x.pointPermille = some ((permille u x.rms.l1 + permille u x.rms.l2 + permille u x.rms.l3) / 3)

/-- Every window of a sync evaluation holds (R88). -/
abbrev AllWindows (v : SyncEval) : Prop :=
  v.angleOk = true ∧ v.slipOk = true ∧ v.voltageOk = true ∧ v.frequencyOk = true ∧ v.rotationOk = true ∧ v.sbReady = true
    ∧ v.sbFree = true ∧ v.pbClosed = true

/-- A tariff table has an entry for a weekday at minute 0 (R141). -/
abbrev OpensDay (t : Vector (Option TariffEntry) 16) (weekday : Nat) : Prop :=
  ∃ i e, vget t i = some e ∧ e.mask.getLsbD weekday = true ∧ e.start = 0

/-- No two entries of a tariff table for a weekday have one start minute (R141). -/
abbrev StartsApart (t : Vector (Option TariffEntry) 16) (weekday : Nat) : Prop :=
  ∀ i j e x, i ≠ j → vget t i = some e → vget t j = some x → e.mask.getLsbD weekday = true → x.mask.getLsbD weekday = true →
    e.start ≠ x.start

/-- Two Node entries hold one role and target; the incomer's target is not read (R170, R172). -/
abbrev SameDuty (a b : NodeEntry) (r : Role) : Prop :=
  roleOf a.role = some r ∧ roleOf b.role = some r ∧ (r = .muIncomer ∨ a.target = b.target)

/-! ## Laws that every step keeps -/

/-- The shore share law of one session record (R104): P_sh does not pass the cap as last formed, and is 0 outside RAMP_IN and
RAMP_OUT. -/
def ShareOk (r : Session) : Prop := r.share ≤ r.cap ∧ (keepsShare r.state = false → r.share = 0)

/-- The shore share law (R104). -/
def ShoreShareLaw (s : State) : Prop := ∀ b : Berth, ShareOk (s.session b)

/-- A nominal frequency (03, the oscillator record). -/
def NominalOk (f : Nat) : Prop := f = 50000 ∨ f = 60000

/-- The clamp law of one oscillator record (R37, R38): the setpoint within nominal plus or minus 2 %, and the increment the one
that the setpoint gives. -/
def OscOk (o : Osc) : Prop :=
  NominalOk o.fnom ∧ clampLow o.fnom ≤ o.fset ∧ o.fset ≤ clampHigh o.fnom ∧ o.k = incrementOf o.fset

/-- The clamp law (R38), with the session's nominal frequency that a reinitialisation takes (R40, R94). -/
def ClampLaw (s : State) : Prop := ∀ b : Berth, OscOk (s.osc b) ∧ ∀ f, (s.session b).fnom = some f → NominalOk f

/-- The queue law (R181): requests queued plus responses waiting never exceed 16. -/
def QueueLaw (s : State) : Prop := s.mrh.count ≤ 16

/-- The record ring law (R159): at most 64 closed records. -/
def RecordRingLaw (s : State) : Prop := s.mbu.ring.length ≤ 64

/-- The clock law (R137): every field of the station time in its range, and the phase count below a second's cycles. -/
def ClockLaw (s : State) : Prop :=
  s.ctu.time.day ≤ 65535 ∧ s.ctu.time.second ≤ 86399 ∧ s.ctu.time.weekday ≤ 6 ∧ s.ctu.phaseCount ≤ 3999

/-- The tick law (R137): an activation and a block end of a second tick are due once at most, and while one is due the tick's work is
held. -/
abbrev TickLaw (s : State) : Prop :=
  s.due.count .tariffActivation ≤ 1 ∧ s.due.count .demandBlockEnd ≤ 1
    ∧ (Due.tariffActivation ∈ s.due ∨ Due.demandBlockEnd ∈ s.due → s.ctu.tick.isSome = true)

/-- The notice law (R189): at most one queued notice per scope, and no flag named twice in one. -/
def NoticeLaw (s : State) : Prop := (s.mrh.notices.map (·.scope)).Nodup ∧ ∀ n ∈ s.mrh.notices, n.flags.Nodup

/-- A run is safe as long as every law holds at each of its states. -/
def Lawful (s : State) : Prop := ShoreShareLaw s ∧ ClampLaw s ∧ QueueLaw s ∧ RecordRingLaw s ∧ ClockLaw s ∧ TickLaw s
    ∧ NoticeLaw s

end Sys2Proof.Machine
end

