-- ==== Sys2Proof/Certificates/Slice0/Obligations.lean ====
section
/-! DEFINITION. The statements for the provers, block by block. Each states what rules of the spec say a command or the part does. That
an event of the part acts when it is due, and that a request is executed at the head by its command, is the model's form of these
rules (entries 1, 3 and 4). -/

open Sys2Proof Sys2Proof.Machine

/-! ## The queue, reset and the ring -/

/-- A step runs the command at the front of the queue on the state with the queue's rest; with nothing waiting the part idles. The
idling is the model's choice (entry 2). -/
def Obligations.StepRunsFront : Prop :=
  (∀ (c : Instr) (l : List Instr) (s : State), s.pending = c :: l → step s = exec c { s with pending := l })
    ∧ ∀ s : State, s.pending = [] → step s = .next s

/-- The state right after the release of the reset line, block by block (R16, R34, R71, R74, R83, R93, R105, R123, R138, R149,
R168, R191). -/
def Obligations.ResetState : Prop :=
  let r := State.reset
  (r.rif.started = false ∧ r.rif.cycle = 0 ∧ r.rif.ext = 0 ∧ r.rif.ring = .up ∧ r.rif.miss = 0 ∧ r.rif.ret = 0
      ∧ r.rif.insertion = [] ∧ r.rif.current = [] ∧ r.rif.previous = [] ∧ r.rif.lastUnknown = none
      ∧ ∀ n, r.health n = ⟨0, false, false⟩)
    ∧ (∀ p, (r.meas p).heldV = ⟨0, 0, 0⟩ ∧ (r.meas p).heldI = ⟨0, 0, 0⟩ ∧ (r.meas p).armed = ⟨false, false, false⟩
      ∧ (r.meas p).lastCross = ⟨none, none, none⟩ ∧ (r.meas p).period = 0 ∧ (r.meas p).freq = 0 ∧ (r.meas p).stale = true
      ∧ (r.meas p).rms = ⟨0, 0, 0⟩ ∧ (r.meas p).pointRms = 0 ∧ (r.meas p).lineVolts = 0
      ∧ (r.meas p).permille = ⟨none, none, none⟩ ∧ (r.meas p).pointPermille = none ∧ (r.meas p).rotation = .unknown
      ∧ (r.meas p).substCount = 0 ∧ (r.meas p).window = ⟨⟨0, 0, 0⟩, 0⟩ ∧ (r.meas p).acc = 0 ∧ (r.meas p).tally = 0
      ∧ (r.meas p).rawSum = 0 ∧ (r.meas p).lastPower = 0 ∧ (r.meas p).lastSubst = 0)
    ∧ (∀ m, (r.module m).state = .free ∧ (r.module m).berth = none ∧ (r.module m).reported = .stopped
      ∧ (r.module m).kva = 0 ∧ (r.module m).breaker = .open ∧ (r.module m).selector = .none ∧ (r.module m).output = 0
      ∧ (r.module m).run = .stop ∧ (r.module m).op = .none ∧ (r.module m).opAge = 0 ∧ (r.module m).stageTimer = 0
      ∧ (r.module m).startLimit = 0 ∧ (r.module m).stopPhase = false ∧ (r.module m).cooldown = 0
      ∧ (r.module m).cause = none)
    ∧ (r.mpm.alloc = [] ∧ r.mpm.switching = [] ∧ r.mpm.ageA = 40000 ∧ r.mpm.ageB = 40000 ∧ r.mpm.ageStation = 40000)
    ∧ (∀ k, (r.breaker k).status = .open ∧ (r.breaker k).ready = false ∧ (r.breaker k).offset = 0
      ∧ (r.breaker k).command = .none ∧ (r.breaker k).issue = 0 ∧ (r.breaker k).limit = 0 ∧ (r.breaker k).withdrawn = false
      ∧ (r.breaker k).limitReported = false ∧ (r.breaker k).measuring = false ∧ (r.breaker k).learned = 100000
      ∧ (r.breaker k).lastMeasured = none ∧ (r.breaker k).mark = false)
    ∧ (∀ b, (r.sync b).alignment = .inactive ∧ (r.sync b).collected = 0 ∧ (r.sync b).firstAngle = 0 ∧ (r.sync b).angleSum = 0
      ∧ (r.sync b).cableOffset = none ∧ (r.sync b).pNew = none ∧ (r.sync b).pOld = none ∧ (r.sync b).attempt = .inactive
      ∧ (r.sync b).stability = 0 ∧ (r.sync b).lastEval = none)
    ∧ (∀ b, (r.session b).state = .idle ∧ (r.session b).number = none ∧ (r.session b).account = none
      ∧ (r.session b).fnom = none ∧ (r.session b).vnom = none ∧ (r.session b).requested = 1 ∧ (r.session b).share = 0
      ∧ (r.session b).endReason = none ∧ (r.session b).drain = .done ∧ (r.session b).ship = .genSupply
      ∧ (r.session b).shipOutput = 0 ∧ (r.session b).cap = 0 ∧ (r.session b).sigma = 0 ∧ (r.session b).phase = .none)
    ∧ (r.ses.nextNumber = 1 ∧ r.ses.budget = 0 ∧ r.ses.stationImport = 0 ∧ r.ses.incomerLost = false)
    ∧ (∀ b, (r.superv b).armed = false ∧ (r.superv b).blank = 0 ∧ (r.superv b).overcurrent = ⟨0, false⟩
      ∧ (r.superv b).reverse = ⟨0, false⟩ ∧ (r.superv b).tripKind = none ∧ (r.superv b).tripClass = none
      ∧ (r.superv b).tripCycle = 0 ∧ (r.superv b).tripTime = ⟨0, 0, 0⟩ ∧ (r.superv b).laterFaults = 0
      ∧ (r.superv b).laterKind = none ∧ (r.superv b).warnedKind = none ∧ (r.superv b).warnCount = 0
      ∧ (r.superv b).attempts = 0 ∧ (r.superv b).restartTimer = 0 ∧ (r.superv b).restartDue = false)
    ∧ (r.ctu.time = ⟨0, 0, 0⟩ ∧ r.ctu.clockUnset = true ∧ r.ctu.phaseCount = 0 ∧ (∀ i, vget r.ctu.active i = none)
      ∧ (∀ i, vget r.ctu.pendingTable i = none) ∧ r.ctu.activation = none ∧ r.ctu.band = ⟨0, 0, none, false⟩
      ∧ r.ctu.block.elapsed = 0)
    ∧ (∀ b, (r.meter b).running = false ∧ (r.meter b).session = none ∧ (r.meter b).account = none
      ∧ (r.meter b).importReg = 0 ∧ (r.meter b).exportReg = 0 ∧ (r.meter b).importRem = 0 ∧ (r.meter b).exportRem = 0
      ∧ (r.meter b).blockSum = 0 ∧ (r.meter b).lastSecond = none ∧ (r.meter b).lastTag = none ∧ (r.meter b).record = none
      ∧ (r.meter b).deferral = none ∧ (r.meter b).finalPending = false)
    ∧ (r.mbu.ring = [] ∧ r.mbu.queue = [] ∧ r.mbu.nextRecord = 1)
    ∧ (r.cfs.mode = .config ∧ r.cfs.invalid = false ∧ r.cfs.signature = none ∧ r.cfs.timer = none
      ∧ r.cfs.walker.state = .stopped ∧ (∀ n, (r.nodeEntry n).role = 0) ∧ ∀ b, (r.berthEntry b).enabled = 0)
    ∧ (r.mrh.requests = [] ∧ r.mrh.responses = [] ∧ r.mrh.hold = false ∧ r.mrh.dropped = 0 ∧ r.mrh.notices = []
      ∧ ∀ c, r.mrh.latched.get c = 0 ∧ r.mrh.masked.get c = 0)

/-- RESET_ASSERT holds the line low; while it is low every command but the release sends nothing and takes nothing; RESET_RELEASE
gives the reset state, whatever was before (R16); that the state stands still in between is the model's reading (entry 6).
FIRST_CYCLE_FRAME opens cycle 0 without advancing the counters and sends the
cycle frame with at most two insertions behind it; right after reset that frame carries cycle 0, CONFIG, CLOCK_UNSET, time 0 and
four IDLE berths (R16, R3, R192). -/
def Obligations.ResetAndFirstFrame : Prop :=
  ((∀ s : State, exec .resetAssert s = .next { s with ringOut := [], resetHeld := true })
      ∧ (∀ s : State, exec .resetRelease s = .next { State.reset with pending := s.pending })
      ∧ ∀ (c : Instr) (s : State), s.resetHeld = true → c ≠ .resetRelease → exec c s = .next { s with ringOut := [] })
    ∧ ((∀ s : State, Settled s → s.rif.started = false →
          Answers (exec .firstCycleFrame s) fun t =>
            t.rif = { s.rif with started := true, cycleOperate := s.operating, insertion := [] } ∧ SameBlocks s t
              ∧ ∃ l, t.ringOut = s.cycleFrame :: l ∧ l.length ≤ 2)
        ∧ Answers (exec .firstCycleFrame State.reset) fun t =>
            t.ringOut.map (fun f => (f.dest, f.source, f.kindByte, f.length, f.cycle, f.body))
              = [(255, 0, 0, 14, 0, [0, 0, 0, 0, 0, 0, 0, 0, 0, 4, 0, 0, 0, 0])])

/-- CYCLE_BOUNDARY opens the next cycle: both counters advance, the survey sets turn over, the marks of the ended cycle are cleared,
and the new cycle frame is sent with at most two insertions behind it, or becomes due first of all (R2, R3, R10, R15); the operand
that chooses is the model's (entry 7). -/
def Obligations.CycleBoundary : Prop :=
  ∀ (s : State) (d : Bool), Settled s → s.rif.started = true →
    Answers (exec (.cycleBoundary d) s) fun t =>
      t.rif.cycle = s.rif.cycle + 1 ∧ t.rif.ext = s.rif.ext + 1 ∧ t.rif.previous = s.rif.current ∧ t.rif.current = []
        ∧ t.rif.returned = false ∧ (∀ n, vget t.rif.taken n = false) ∧ (∀ n, (t.health n).delivered = false)
        ∧ (d = false → ∃ f l, t.ringOut = f :: l ∧ l.length ≤ 2 ∧ f.source = 0 ∧ f.kindByte = 0 ∧ f.cycle = s.rif.cycle + 1)
        ∧ (d = true → t.ringOut = [] ∧ t.due.head? = some .emission)

/-- The emission of a cycle frame fills the insertion queue, responses first, then notices, at most two frames, and leaves it empty when
they are sent behind the cycle frame (R10); HOLD is set at a count of 12, cleared at 4 and kept between (R185). That the cycle frame is
the one of the state before these responses are taken, so that a change of HOLD which they bring shows in the next frame, is the model's
choice where R3 allows either (entry 36). -/
def Obligations.EmissionInsertsTwo : Prop :=
  ∀ s : State,
    s.emission.ringOut = s.ringOut ++ s.cycleFrame :: ((s.mrh.responses.take 2).map (responseFrame s.rif.cycle)
        ++ (s.mrh.notices.take (2 - min 2 s.mrh.responses.length)).map s.noticeFrame)
      ∧ s.emission.mrh.responses = s.mrh.responses.drop 2
      ∧ s.emission.mrh.notices = s.mrh.notices.drop (2 - min 2 s.mrh.responses.length)
      ∧ s.emission.rif.insertion = []
      ∧ (let count := s.mrh.requests.length + (s.mrh.responses.length - 2)
        s.emission.mrh.hold = if 12 ≤ count then true else if count ≤ 4 then false else s.mrh.hold)
      ∧ (∀ r : Response, (responseFrame s.rif.cycle r).dest = r.dest ∧ (responseFrame s.rif.cycle r).source = 0
        ∧ (responseFrame s.rif.cycle r).kindByte = 6 ∧ (responseFrame s.rif.cycle r).cycle = s.rif.cycle)
      ∧ ∀ n : Notice, (s.noticeFrame n).dest = s.cfs.tables.station.controller ∧ (s.noticeFrame n).source = 0
        ∧ (s.noticeFrame n).kindByte = 7 ∧ (s.noticeFrame n).cycle = s.rif.cycle

/-- A frame whose reception is cut short is neither forwarded nor used, whatever its kind (R1). A frame of kind 8 to 15 is forwarded
untouched without checks; a frame of kind 0 to 7 that fails the length or CRC check is forwarded untouched; neither changes
anything else in the part (R4). -/
def Obligations.FramesPassedOn : Prop :=
  (∀ (s : State) (f : Arrival) (k : FrameKind) (o : DeliveryOrder) (x : BitVec 3), Settled s → f.whole = false →
      exec (arrivalCommand k o f) s = .next { s with ringOut := [] }
        ∧ exec (.foreignFrame x f) s = .next { s with ringOut := [] }
        ∧ exec (.corruptFrame x f) s = .next { s with ringOut := [] })
    ∧ (∀ (s : State) (f : Arrival) (x : BitVec 3), Settled s → f.whole = true →
        exec (.foreignFrame x f) s = .next { s with ringOut := [arrivalFrame (8 ||| x.setWidth 4) f] }
          ∧ (checksGood (kindOf x) (arrivalFrame (x.setWidth 4) f) = false →
            exec (.corruptFrame x f) s = .next { s with ringOut := [arrivalFrame (x.setWidth 4) f] }))

/-- The part's own frames come back: they are removed, and a cycle frame of the current cycle, and no other, counts as returned
(R5, R14). -/
def Obligations.OwnFrameReturn : Prop :=
  (∀ (s : State) (f : Arrival), Settled s → GoodFrame s .cyc f → f.source = 0 →
      exec (.cycReturn f) s
        = .next { s with ringOut := [], rif := { s.rif with returned := s.rif.returned || f.cycle == s.rif.cycle } })
    ∧ (∀ (s : State) (f : Arrival), Settled s → GoodFrame s .mrs f → f.source = 0 →
      exec (.ownFrameReturn .mrs f) s = .next { s with ringOut := [] })
    ∧ ∀ (s : State) (f : Arrival), Settled s → GoodFrame s .evn f → f.source = 0 →
      exec (.ownFrameReturn .evn f) s = .next { s with ringOut := [] }

/-- A frame that fails the source check is forwarded untouched, recorded as the last unknown source, and UNKNOWN_NODE is latched;
none of its contents is used (R5). A LATE frame and a duplicate are forwarded, rewritten where their kind carries a command
section, and change nothing in any block or health record (R7). -/
def Obligations.FramesNotUsed : Prop :=
  (∀ (s : State) (k : FrameKind) (o : DeliveryOrder) (f : Arrival), Settled s → GoodFrame s k f → k ≠ .mrq → f.source ≠ 0 →
      s.matchingNode k f.source = none →
        Answers (exec (arrivalCommand k o f) s) fun t =>
          t.ringOut = [arrivalFrame (nibbleOf k) f] ∧ t.rif.lastUnknown = some (f.source, k) ∧ t.isLatched .station 0 = true
            ∧ SameBlocks s t ∧ t.rif.health = s.rif.health ∧ t.rif.taken = s.rif.taken ∧ t.rif.returned = s.rif.returned
            ∧ t.mrh.requests = [] ∧ t.mrh.responses = s.mrh.responses)
    ∧ (∀ (s : State) (k : FrameKind) (o : DeliveryOrder) (f : Arrival) (n : NodeIx), Settled s → GoodFrame s k f → f.source ≠ 0 →
        s.matchingNode k f.source = some n → (f.cycle ≠ s.rif.cycle ∨ vget s.rif.taken n = true) →
          Answers (exec (arrivalCommand k o f) s) fun t =>
            t.ringOut = [s.forwarded k (s.nodeEntry n).target (arrivalFrame (nibbleOf k) f)] ∧ SameBlocks s t
              ∧ t.rif.health = s.rif.health ∧ t.rif.taken = s.rif.taken ∧ t.mrh = s.mrh)

/-- A frame forwarded rewritten keeps its header and its measurement part, takes the new command section, and carries a good CRC; an
SMP frame is forwarded as it is; in CONFIG every command section is all zero bytes, "no command" (R1, R9, R192). In OPERATE a MOD
section carries run command, selector and breaker operation by the module's state (R53), for a STARTING or BOUND module its berth's
increment, next-cycle phase, voltage setpoint and control mode (R46 to R48), and its part of the shore share (R103); a BRK section
the command in force at PB, and an SIU section the one at SB, a withdrawn CLOSE as "no command" (R76), with the shore share, the
handover phase and the two requests (R119). -/
def Obligations.ForwardedRewritten : Prop :=
  (∀ (s : State) (k : FrameKind) (target : Byte) (f : RingFrame),
      (hasSection k = false → s.forwarded k target f = f)
        ∧ (hasSection k = true → lengthGood k f.body.length = true →
          let g := s.forwarded k target f
          g.dest = f.dest ∧ g.source = f.source ∧ g.kindByte = f.kindByte ∧ g.length = f.length ∧ g.cycle = f.cycle
            ∧ g.crc = crc16 (headerBytes f ++ g.body) ∧ g.body.length = f.body.length
            ∧ g.body = f.body.take (sectionPlace k).1 ++ s.commandSection k target
            ∧ (s.operating = false → ∀ i, (sectionPlace k).1 ≤ i → i < g.body.length → g.body[i]? = some 0)))
    ∧ (∀ (s : State) (m : ModuleId) (target : Byte), s.operating = true → moduleOf target = some m →
      let r := s.module m
      let op : Byte := if r.op = .none then 0 else if r.op = .close then 1 else 2
      let zeros : List Byte := List.replicate 13 0
      (r.state = .free ∨ r.state = .cooldown → s.commandSection .mod target = [2, 1, 0] ++ zeros)
        ∧ (r.state = .failed ∨ r.state = .blocked → s.commandSection .mod target = [2, 1, op] ++ zeros)
        ∧ ∀ b, r.berth = some b →
          (r.state = .stopping → s.commandSection .mod target
              = (if r.stopPhase then [2, BitVec.ofNat 8 (b.val + 2), 0] else [1, BitVec.ofNat 8 (b.val + 2), op]) ++ zeros)
            ∧ ∀ v, (s.session b).vnom = some v → r.state = .starting ∨ r.state = .bound →
              let x := s.session b
              let volts := if x.state = .syncing then max (v - v / 10) (min (v + v / 10) (s.meas (.ship b)).lineVolts) else v
              let mode : Byte :=
                if x.state = .idle then 0 else if x.state = .parallel ∨ x.state = .rampIn ∨ x.state = .rampOut then 2 else 1
              s.commandSection .mod target
                = [1, BitVec.ofNat 8 (b.val + 2), op] ++ bytesOf 4 (s.osc b).k.toNat
                  ++ bytesOf 4 ((s.osc b).phase + (s.osc b).k).toNat ++ bytesOf 2 volts ++ [mode]
                  ++ bytesOfInt 2 (if r.state = .bound then s.powerSetpoint m else 0))
    ∧ ∀ (s : State) (b : Berth) (target : Byte), s.operating = true → berthOf target = some b →
      let command (r : BreakerRecord) : Byte :=
        if r.command = .open then 2 else if r.command = .close ∧ r.withdrawn = false then 1 else 0
      let phase : HandoverPhase → Byte
        | .none => 0 | .cableLive => 1 | .sync => 2 | .parallel => 3 | .shoreSupply => 4 | .recall => 5 | .parting => 6
      let x := s.session b
      s.commandSection .brk target = [command (s.breaker (.pb b))]
        ∧ s.commandSection .siu target = [command (s.breaker (.sb b))] ++ bytesOf 2 x.share
          ++ [phase x.phase, (if x.gensMayDisconnect then 1 else 0) ||| (if x.gensStart then 2 else 0)]

/-- SMP_DELIVERY of a cycle that opened in OPERATE: the frame goes on untouched, the node counts as delivered, and the point the node
feeds, and no other, has its point cycle from the samples delivered (R7, R8, R17, R20). -/
def Obligations.SmpDelivery : Prop :=
  ∀ (s : State) (f : Arrival) (n : NodeIx), Settled s → GoodFrame s .smp f → FirstOnTime s .smp n f → s.cycleRuns = true →
    Answers (exec (.smpDelivery f) s) fun t =>
      t.ringOut = [arrivalFrame (nibbleOf .smp) f] ∧ (t.health n).delivered = true ∧ vget t.rif.taken n = true
        ∧ (∀ p ∈ pointsFedBy (s.nodeEntry n), t.meas p
            = (pointCycle p s.ext (s.nodeEntry n) (s.pointVnom p) (some (samplesAt f.body 0, samplesAt f.body 6))
                (s.meas p)).record)
        ∧ ∀ p, p ∉ pointsFedBy (s.nodeEntry n) → t.meas p = s.meas p

/-- A delivery of a cycle that opened in CONFIG, or taken in CONFIG, marks its node as delivered and reaches no consumer (R8, R19;
entry 10). -/
def Obligations.ConfigDelivery : Prop :=
  ∀ (s : State) (k : FrameKind) (o : DeliveryOrder) (f : Arrival) (n : NodeIx), Settled s → GoodFrame s k f →
    FirstOnTime s k n f → s.cycleRuns = false →
      Answers (exec (arrivalCommand k o f) s) fun t =>
        t.ringOut = [s.forwarded k (s.nodeEntry n).target (arrivalFrame (nibbleOf k) f)] ∧ SameBlocks s t
          ∧ t.mrh = s.mrh ∧ (t.health n).delivered = true ∧ vget t.rif.taken n = true
          ∧ ∀ i, i ≠ n → t.health i = s.health i ∧ vget t.rif.taken i = vget s.rif.taken i

/-- MOD_DELIVERY: the module's reported state, available kVA, breaker status, selector position and output become the delivered
ones, in every state of the module, and the frame goes on with its header and measurement part as received and its CRC computed
afresh (R52, R9, R1). BRK_DELIVERY: the plug breaker's status, ready flag and contact offset become the delivered ones, and the frame
goes on in the same way (R75, R9, R1). What a delivery does besides, for every module: a reported FAULT, a breaker FAULT, and in BOUND
a breaker not closed or a wrong selector fail it (R59, R60; that the first cause of the table counts is entry 14); RUNNING on its berth
queues its CLOSE, and the CLOSE completed makes it BOUND, presented to session and supervision (R55, R69, R96, R124); an open completed
begins the stop phase, and STOPPED with the breaker open in it takes it to COOLDOWN (R57), as it takes a FAILED one (R61; the readings of
entry 39). For every breaker: the changes of status that are presented (R75), and the ends of a CLOSE, of a withdrawn CLOSE and of an OPEN
with what the session does then (R79, R81, R97, R99, R100, R112, R115, R117). -/
def Obligations.UnitDeliveries : Prop :=
  (∀ (s : State) (o : DeliveryOrder) (f : Arrival) (n : NodeIx) (m : ModuleId), Settled s → GoodFrame s .mod f →
      FirstOnTime s .mod n f → s.cycleRuns = true → moduleOf (s.nodeEntry n).target = some m →
        Answers (exec (.modDelivery o f) s) fun t =>
          (t.module m).reported = reportedOf (byteAt f.body 0) ∧ (t.module m).kva = natOf (field f.body 1 2)
            ∧ (t.module m).breaker = statusOf (byteAt f.body 3) ∧ (t.module m).selector = selectorOf (byteAt f.body 4)
            ∧ (t.module m).output = intOf (field f.body 5 2) ∧ (t.health n).delivered = true ∧ t.mfe = s.mfe
            ∧ ∃ g, t.ringOut = [g] ∧ g.dest = f.dest ∧ g.source = f.source ∧ g.kindByte = f.kindHigh ++ nibbleOf .mod
              ∧ g.length = f.length ∧ g.cycle = f.cycle ∧ g.crc = crc16 (headerBytes g ++ g.body)
              ∧ g.body.take 7 = f.body.take 7
              ∧ t = (((s.quiet.survey .mod (arrivalFrame (nibbleOf .mod) f)).markDelivered n).moduleDelivery m
                ⟨reportedOf (byteAt f.body 0), natOf (field f.body 1 2), statusOf (byteAt f.body 3), selectorOf (byteAt f.body 4),
                  intOf (field f.body 5 2)⟩).send [g])
    ∧ (∀ (s : State) (o : DeliveryOrder) (f : Arrival) (n : NodeIx) (b : Berth), Settled s → GoodFrame s .brk f →
        FirstOnTime s .brk n f → s.cycleRuns = true → berthOf (s.nodeEntry n).target = some b →
          Answers (exec (.brkDelivery o f) s) fun t =>
            (t.breaker (.pb b)).status = statusOf (byteAt f.body 0) ∧ (t.breaker (.pb b)).ready = readyOf (byteAt f.body 1)
              ∧ (t.breaker (.pb b)).offset = offsetOf (byteAt f.body 2) ∧ (t.health n).delivered = true ∧ t.mfe = s.mfe
              ∧ ∃ g, t.ringOut = [g] ∧ g.dest = f.dest ∧ g.source = f.source ∧ g.kindByte = f.kindHigh ++ nibbleOf .brk
              ∧ g.length = f.length ∧ g.cycle = f.cycle ∧ g.crc = crc16 (headerBytes g ++ g.body)
              ∧ g.body.take 3 = f.body.take 3
              ∧ t = (((s.quiet.survey .brk (arrivalFrame (nibbleOf .brk) f)).markDelivered n).breakerDelivery o.supervisionFirst (.pb b)
                ⟨statusOf (byteAt f.body 0), readyOf (byteAt f.body 1), offsetOf (byteAt f.body 2)⟩).send [g])
    ∧ (∀ (s : State) (m : ModuleId) (d : ModuleReport),
        let r := s.module m
        let t := s.moduleDelivery m d
        let wrong := r.state = .bound ∧ r.berth.map .berth ≠ some d.selector
        let opened := r.state = .bound ∧ r.op = .none ∧ d.breaker ≠ .closed
        let sound := d.reported ≠ .fault ∧ d.breaker ≠ .fault
        (r.state ≠ .failed → r.state ≠ .blocked → d.reported = .fault ∨ d.breaker = .fault ∨ opened ∨ wrong →
            (t.module m).state = .failed ∧ (t.module m).berth = none ∧ (t.module m).run = .stop ∧ (t.module m).stopPhase = false
              ∧ (t.module m).cause = some (if d.reported = .fault then .reportedFault
                else if d.breaker = .fault ∨ opened then .breakerFault else .selector)
              ∧ (∀ e ∈ t.mpm.switching, e.module ≠ m) ∧ t.isLatched .station 5 = true
              ∧ (r.op = .none ∨ r.op = .close → d.breaker ≠ .open → (t.module m).op = .protectionOpen))
          ∧ (r.state = .starting → sound → d.reported = .running → r.berth.map .berth = some d.selector → r.op = .none →
            (∀ e ∈ s.mpm.switching, e.module ≠ m) →
              t.mpm.switching = s.mpm.switching ++ [⟨m, .close⟩] ∧ (t.module m).state = .starting ∧ (t.module m).berth = r.berth)
          ∧ (r.state = .starting → sound → (d.reported ≠ .running ∨ r.berth.map .berth ≠ some d.selector) → r.op = .none →
            (t.module m).state = .starting ∧ t.mpm.switching = s.mpm.switching)
          ∧ (r.state = .starting → sound → r.op = .close → d.breaker = .closed →
            (t.module m).state = .bound ∧ (t.module m).op = .none ∧ (t.module m).run = .run ∧ (t.module m).berth = r.berth
              ∧ ∀ b, r.berth = some b →
                (t.superv b).blank = 4 * (s.berthEntry b).blank.toNat ∧ (t.session b).bound = t.countIn b .bound
                  ∧ (t.session b).starting = t.countIn b .starting ∧ ((s.session b).state ≠ .idle → (t.superv b).armed = true)
                  ∧ ((s.session b).state = .energising → (s.session b).pbAsked = false → t.countIn b .starting = 0 →
                    (∀ e ∈ s.mpm.alloc, e.berth ≠ b) → (s.breaker (.pb b)).command = .none → (s.breaker (.pb b)).status = .open →
                      (t.breaker (.pb b)).command = .close ∧ (t.session b).pbAsked = true))
          ∧ (r.state = .stopping → sound → r.stopPhase = false → (r.op = .open ∨ r.op = .protectionOpen) → d.breaker = .open →
            (t.module m).op = .none ∧ (t.module m).state = .stopping ∧ (t.module m).berth = r.berth
              ∧ ((∀ e ∈ s.mpm.switching, e.module ≠ m) → (t.module m).stopPhase = true ∧ (t.module m).run = .stop
                ∧ (t.module m).stageTimer = 0 ∧ (t.module m).startLimit = 4 * (s.moduleEntry m).startLimit.toNat)
              ∧ ((∃ e ∈ s.mpm.switching, e.module = m) → (t.module m).stopPhase = false))
          ∧ (r.state = .stopping → r.stopPhase = true → d.reported = .stopped → d.breaker = .open →
            (t.module m).state = .cooldown ∧ (t.module m).berth = none ∧ (t.module m).run = .stop ∧ (t.module m).stopPhase = false
              ∧ (t.module m).cooldown = 4 * s.cfs.tables.station.cooldown.toNat)
          ∧ (r.state = .stopping → sound → r.stopPhase = true → (d.reported ≠ .stopped ∨ d.breaker ≠ .open) →
            (t.module m).state = .stopping ∧ (t.module m).stopPhase = true)
          ∧ (r.state = .failed →
            (d.reported = .stopped → d.breaker = .open → r.op ≠ .close → s.roleLost .module m.val = false →
                (t.module m).state = .cooldown ∧ (t.module m).op = .none ∧ (t.module m).cause = r.cause
                  ∧ (t.module m).cooldown = 4 * s.cfs.tables.station.cooldown.toNat)
              ∧ (d.reported ≠ .stopped ∨ d.breaker ≠ .open ∨ r.op = .close ∨ s.roleLost .module m.val = true →
                (t.module m).state = .failed ∧ (t.module m).cause = r.cause))
          ∧ (r.state = .blocked ∨ sound ∧ (r.state = .free ∨ r.state = .cooldown ∨ r.state = .bound ∧ ¬ opened ∧ ¬ wrong) →
            (t.module m).state = r.state ∧ (t.module m).berth = r.berth ∧ t.mpm.switching = s.mpm.switching ∧ t.mrh = s.mrh)
          ∧ ∀ i, i ≠ m → (s.module i).state ≠ .free → t.module i = s.module i)
    ∧ ∀ (s : State) (first : Bool) (k : Breaker) (d : BreakerReport),
      let r := s.breaker k
      let b := breakerBerth k
      let kind : FaultKind := match k with | .pb _ => .pbFail | .sb _ => .sbFail
      let u := s.setBreaker k { r with status := d.status, ready := d.ready, offset := d.offset }
      let blanked := u.setSuperv b { u.superv b with blank := 4 * (s.berthEntry b).blank.toNat }
      let t := s.breakerDelivery first k d
      let st := (s.session b).state
      (d.status = .moving → t = u)
        ∧ (d.status = .fault → (r.status = .fault → t = u) ∧ (r.status ≠ .fault → t = u.fault b kind))
        ∧ (d.status = .closed → r.command ≠ .close →
          (r.status = .closed → t = u) ∧ (r.status ≠ .closed → t = blanked.fault b kind))
        ∧ (d.status = .closed → r.command = .close →
          (t.breaker k).withdrawn = false ∧ (t.breaker k).command = (if r.withdrawn then .open else .none)
            ∧ (r.measuring = true → t.isLatched (.berth b) 1 = true ∧ (t.breaker k).measuring = false
              ∧ (t.breaker k).lastMeasured
                = plausible (s.breakerEntry k) (((s.ext - r.issue).toNat : Int) * 250 + d.offset - 250))
            ∧ (r.status ≠ .closed → (t.superv b).blank = 4 * (s.berthEntry b).blank.toNat)
            ∧ (k = .pb b → st = .energising → (t.session b).metering = true ∧ (t.session b).phase = .cableLive
              ∧ (t.session b).state = .energising ∧ (t.sync b).alignment = .collecting ∧ (t.sync b).collected = 0
              ∧ (t.sync b).angleSum = 0 ∧ (t.sync b).cableOffset = none)
            ∧ (k = .sb b → st = .syncing →
              (t.session b).state = (if (s.session b).abortPending then .parting else .parallel)))
        ∧ (d.status = .open → r.command = .none →
          (r.status = .open ∨ r.status = .fault → t = u)
            ∧ (r.status = .closed ∨ r.status = .moving → t = u.presentUncommandedOpen first k
              ∧ (k = .sb b → st = .parallel ∨ st = .rampIn ∨ st = .shore ∨ st = .recall ∨ st = .rampOut →
                (s.classFor .sbOpened = .warn → (t.session b).state = .connected ∧ (t.superv b).warnedKind = some .sbOpened)
                  ∧ (s.classFor .sbOpened ≠ .warn → (s.session b).endReason ≠ some .fault →
                    (t.session b).state = .faulted ∧ (t.superv b).tripKind = some .sbOpened))
              ∧ (k = .pb b → s.classFor .pbFail = .warn →
                st = .connected ∨ st = .syncing ∨ st = .parallel ∨ st = .rampIn ∨ st = .shore ∨ st = .recall ∨ st = .rampOut
                  ∨ st = .parting →
                  (t.session b).endReason = some .plugOpened ∧ ((t.session b).state = .draining ∨ (t.session b).state = .idle))))
        ∧ (d.status = .open → r.command = .close →
          (r.withdrawn = false ∨ (s.ext - r.withdrawCycle).toNat < 2 → t = u)
            ∧ (r.withdrawn = true → 2 ≤ (s.ext - r.withdrawCycle).toNat →
              (t.breaker k).command = .none ∧ (t.breaker k).withdrawn = false
                ∧ (r.measuring = true → (t.breaker k).measuring = false ∧ (t.breaker k).lastMeasured = none)
                ∧ (k = .sb b → st = .syncing → (s.session b).abortPending = true → (t.session b).state = .connected)))
        ∧ (d.status = .open → r.command = .open →
          (t.breaker k).command = .none ∧ (t.breaker k).limitReported = false
            ∧ (k = .pb b → st = .draining → (s.session b).drain = .pb →
              (t.session b).drain = .done ∧ (t.session b).metering = false ∧ t.held b = 0
                ∧ ((s.session b).starting = 0 ∧ (s.session b).bound = 0 ∨ 0 < s.held b →
                  (t.session b).state = .idle ∧ t.isLatched (.berth b) 5 = true))
            ∧ (k = .pb b → st = .faulted → (t.session b).state = .faulted ∧ (t.session b).metering = false)
            ∧ (k = .sb b → st = .parting → (t.session b).state = .connected ∧ t.isLatched (.berth b) 4 = true)
            ∧ (k = .sb b → st = .syncing → (t.session b).state = (if (s.session b).abortPending then .connected else .syncing))
            ∧ (k = .sb b → st = .draining → (s.session b).drain = .sb → (t.session b).drain ≠ .sb
              ∧ ((s.session b).pbTaken = false → (s.breaker (.pb b)).command = .none → (s.breaker (.pb b)).status ≠ .open →
                (t.session b).drain = .pb ∧ (t.breaker (.pb b)).command = .open)))

/-- SIU_DELIVERY: the session holds the delivered ship state and output, SB the delivered status, ready flag and offset, and P's and S's
held samples are the delivered ones, conditioned and with invalid ones replaced (R8, R18, R21, R75, R93). The point cycles of P and S
come first, then the ship's report and then the breaker's: the model's order (entry 8). The ship's report is stored in every state; in
RAMP_IN it counts the quiet reports and GEN_OFF takes the session to SHORE (R107, R108); in RECALL GEN_PARALLEL takes it to RAMP_OUT with
the bus power as share, no budget drawn (R111); a change to SHIP_ESD is presented as a fault after it (R93). A ship state byte of 5 to 255
is read as the state last delivered (R193); that such a delivery counts as bringing a kept GEN_OFF or GEN_PARALLEL, and as no change to
SHIP_ESD, is the model's reading (entry 30). -/
def Obligations.SiuDelivery : Prop :=
  (∀ (s : State) (o : DeliveryOrder) (f : Arrival) (n : NodeIx) (b : Berth), Settled s → GoodFrame s .siu f →
    FirstOnTime s .siu n f → s.cycleRuns = true → berthOf (s.nodeEntry n).target = some b →
      let e := s.nodeEntry n
      let v := (s.quiet.survey .siu (arrivalFrame (nibbleOf .siu) f)).markDelivered n
      let p := (v.runCycle (.plug b) s.ext e (some (samplesAt f.body 0, triOf 0))).takeTimeout (.plug b)
      let w := (p.runCycle (.ship b) s.ext e (some (samplesAt f.body 6, triOf 0))).takeTimeout (.ship b)
      Answers (exec (.siuDelivery o f) s) fun t =>
        (t.session b).ship = shipOf (s.session b).ship (byteAt f.body 12) ∧ (t.session b).shipOutput = intOf (field f.body 13 4)
          ∧ (t.breaker (.sb b)).status = statusOf (byteAt f.body 17) ∧ (t.breaker (.sb b)).ready = readyOf (byteAt f.body 18)
          ∧ (t.breaker (.sb b)).offset = offsetOf (byteAt f.body 19) ∧ (t.health n).delivered = true
          ∧ (t.meas (.plug b)).heldV = triZip substitute (s.meas (.plug b)).heldV
              (condition (flagOf (s.nodeEntry n).mirrored) (samplesAt f.body 0))
          ∧ (t.meas (.ship b)).heldV = triZip substitute (s.meas (.ship b)).heldV
              (condition (flagOf (s.nodeEntry n).mirrored) (samplesAt f.body 6))
          ∧ ∃ g, t.ringOut = [g] ∧ g.source = f.source ∧ g.cycle = f.cycle ∧ g.body.take 20 = f.body.take 20
            ∧ t = ((w.siuReport b (shipOf (s.session b).ship (byteAt f.body 12)) (intOf (field f.body 13 4))).breakerDelivery
              o.supervisionFirst (.sb b)
              ⟨statusOf (byteAt f.body 17), readyOf (byteAt f.body 18), offsetOf (byteAt f.body 19)⟩).send [g])
    ∧ ∀ (s : State) (b : Berth) (ship : ShipState) (output : Int),
      let r := s.session b
      let u := s.shipReport b ship output
      s.siuReport b ship output = (if ship = .shipEsd ∧ r.ship ≠ .shipEsd then u.fault b .shipEsd else u)
        ∧ (u.session b).ship = ship ∧ (u.session b).shipOutput = output
        ∧ (r.state = .rampIn → ship ≠ .genOff →
          (output ≤ (s.berthEntry b).residual.toNat → u = s.setSession b { r with
              ship := ship, shipOutput := output, quietCount := min 8000 (r.quietCount + 1),
              gensMayDisconnect := r.gensMayDisconnect || 8000 ≤ r.quietCount + 1 })
            ∧ ((s.berthEntry b).residual.toNat < output → u = s.setSession b { r with
              ship := ship, shipOutput := output, quietCount := 0, gensMayDisconnect := false }))
        ∧ (r.state = .rampIn → ship = .genOff → (u.session b).state = .shore ∧ (u.session b).share = 0
          ∧ (u.session b).phase = .shoreSupply ∧ (u.session b).gensMayDisconnect = false ∧ (u.osc b).mode = .free
          ∧ u.isLatched (.berth b) 3 = true)
        ∧ (r.state = .recall → ship = .genParallel → (u.session b).state = .rampOut
          ∧ ((u.session b).share : Int) = min (r.cap : Int) (max 0 (s.meas (.bus b)).lastPower)
          ∧ (u.session b).gensStart = false ∧ u.ses.budget = s.ses.budget)
        ∧ (r.state ≠ .rampIn → ¬ (r.state = .recall ∧ ship = .genParallel) → u = s.setSession b { r with
          ship := ship, shipOutput := output })

/-- Node health: a counted node's counter at a boundary in OPERATE falls by 1 with a delivery and rises by 2, up to the limit,
without one; the nodes of roles NONE and STATION are not counted; the figures of the spec's worked example follow (R11). A node whose
delivery of the cycle was taken before a COMMIT counts as present, and a record reset by a repair write in the cycle stays at 0
(R13; the model's reading, entry 9).
NODE_LOST and NODE_RECOVERED: the flag changes, the event is latched, and the loss or the recovery is presented to the owner
that the node's role names (R11, R12). -/
def Obligations.NodeHealth : Prop :=
  ((∀ (e : NodeEntry) (h : Health), countedRole e = true →
        (concludeHealth true e h).counter = (if h.delivered then h.counter - 1 else min e.limit.toNat (h.counter + 2))
          ∧ (concludeHealth true e h).lost = h.lost ∧ (concludeHealth true e h).delivered = false)
      ∧ (∀ (e : NodeEntry) (h : Health) (w : Bool), countedRole e = false ∨ w = false →
        concludeHealth w e h = { h with delivered := false })
      ∧ ([false, true, false, true, false, true, false, true, false, true, false, true, false, false, true].foldl
          (fun l d => l ++ [healthCounter 8 ⟨l.getLastD 0, false, d⟩]) [])
          = [2, 1, 3, 2, 4, 3, 5, 4, 6, 5, 7, 6, 8, 8, 7]
      ∧ ∀ (s : State) (n : NodeIx), s.operating = true → countedRole (s.nodeEntry n) = true →
        ((s.health n).delivered = true ∨ vget s.rif.taken n = true ∨ vget s.rif.fresh n = true →
            (s.turnCycle.health n).counter = (s.health n).counter - 1)
          ∧ ((s.health n).delivered = false → vget s.rif.taken n = false → vget s.rif.fresh n = false →
            (s.turnCycle.health n).counter = min (s.nodeEntry n).limit.toNat ((s.health n).counter + 2)))
    ∧ ((∀ (s : State) (n : NodeIx), DueNow s (.nodeLost n) → s.operating = true → countedRole (s.nodeEntry n) = true →
          (s.health n).lost = false → (s.nodeEntry n).limit.toNat ≤ (s.health n).counter →
            exec (.nodeLost n) s = .next ((((s.without (.nodeLost n)).setHealth n { s.health n with lost := true }).latchStation
              .nodeLost).presentLoss (s.nodeEntry n)))
        ∧ (∀ (s : State) (n : NodeIx), DueNow s (.nodeRecovered n) → s.operating = true → countedRole (s.nodeEntry n) = true →
          (s.health n).lost = true → (s.health n).counter = 0 →
            exec (.nodeRecovered n) s = .next ((((s.without (.nodeRecovered n)).setHealth n
              { s.health n with lost := false }).latchStation .nodeRecovered).presentRecovery (s.nodeEntry n)))
        ∧ ∀ (s : State) (e : NodeEntry) (b : Berth), berthOf e.target = some b →
          (roleOf e.role = some .muBerth → s.presentLoss e = s.fault b .meterLost)
            ∧ (roleOf e.role = some .plugBu → s.presentLoss e = s.fault b .plugUnitLost)
            ∧ (roleOf e.role = some .siu → s.presentLoss e = s.fault b .shipLinkLost))

/-- RING_DOWN and RING_UP: at a count of 8 the ring state changes, both counts return to 0 and the event is latched; a boundary
counts the misses while UP and the returns while DOWN (R14). -/
def Obligations.RingContinuity : Prop :=
  (∀ s : State, DueNow s .ringDown → s.rif.ring = .up → 8 ≤ s.rif.miss →
      exec .ringDown s = .next (({ s.without .ringDown with
        rif := { s.rif with ring := .down, miss := 0, ret := 0 } } : State).latchStation .ringDown))
    ∧ (∀ s : State, DueNow s .ringUp → s.rif.ring = .down → 8 ≤ s.rif.ret →
      exec .ringUp s = .next (({ s.without .ringUp with
        rif := { s.rif with ring := .up, miss := 0, ret := 0 } } : State).latchStation .ringUp))
    ∧ (∀ r : Rif, r.ring = .up → concludeContinuity r = { r with miss := if r.returned then 0 else min 8 (r.miss + 1) })
    ∧ ∀ r : Rif, r.ring = .down → concludeContinuity r = { r with ret := if r.returned then min 8 (r.ret + 1) else 0 }

/-! ## Measurement -/

/-- NO_CROSSING_TIMEOUT: at 101 samples the RMS, line-to-line and per-mille figures of the window are computed, the stale mark is set,
period and frequency are kept, the window restarts, and the computation is presented to the supervision (R25 to R27, R126). -/
def Obligations.NoCrossingTimeout : Prop :=
  (∀ (s : State) (p : Point) (i : NodeIx), DueNow s (.noCrossingTimeout p) → feedingNode s.cfs.tables p = some i →
      101 ≤ (s.meas p).window.count →
        exec (.noCrossingTimeout p) s = .next (((s.without (.noCrossingTimeout p)).setMeas p
          (timeoutRecord (s.nodeEntry i).vfs.toNat (s.pointVnom p) (s.meas p))).superviseVoltage p))
    ∧ ∀ (vfs : Nat) (u : Option Nat) (r : MeasRecord),
      (timeoutRecord vfs u r).stale = true ∧ (timeoutRecord vfs u r).period = r.period
        ∧ (timeoutRecord vfs u r).freq = r.freq ∧ (timeoutRecord vfs u r).window = ⟨⟨0, 0, 0⟩, 0⟩
        ∧ (timeoutRecord vfs u r).lastCross = r.lastCross
        ∧ (timeoutRecord vfs u r).rotation = r.rotation ∧ RmsFigures vfs u r.window (timeoutRecord vfs u r)

/-- MEASUREMENT_SECOND_END first takes every no-crossing timeout that is due (R20, R25), then closes B of every berth and G, in either
order with the headroom refresh: a complete second gives raw sum, power in kW truncated toward zero and substituted tally; a partial
one keeps them; the accumulator and tallies return to 0; P and S are left as they were (R30, R31). The refresh, in OPERATE, takes the
LOST flag of the incomer's node as the incomer lost mark, G's power, or without an incomer the sum of the four B powers, as the station
import, and the rest of the import limit as the budget, 0 under the mark; an import above the limit without the mark latches
IMPORT_HIGH (R105). The close of B after a complete second presents it to the meter, the session and the supervision, and after a partial
one to none (R31, R32). A running meter accrues the second, or with its node LOST counts a gap second, takes the last second and its tag,
and then applies what it holds over (R152, R155); in RAMP_OUT the session counts a quiet second with share 0 and the power at or below the
residual, starts again from 0 otherwise, and at two asks SB to open in PARTING (R112). A substituted cycle of B counts in a running
meter's record while its node is not LOST (R154). -/
def Obligations.MeasurementSecondEnd : Prop :=
  (∀ (s : State) (first : Bool), DueNow s .measurementSecondEnd →
      let u := (s.without .measurementSecondEnd).takeTimeouts
      Answers (exec (.measurementSecondEnd first) s) fun t =>
        (∀ b, t.meas (.bus b) = closeSecond (s.feedingEntry (.bus b)) (u.meas (.bus b)))
          ∧ t.meas .incomer = closeSecond (s.feedingEntry .incomer) (u.meas .incomer)
          ∧ (∀ b, t.meas (.plug b) = u.meas (.plug b) ∧ t.meas (.ship b) = u.meas (.ship b))
          ∧ t.rif = s.rif ∧ t.ctu = s.ctu ∧ t.cfs = s.cfs ∧ t.ringOut = []
          ∧ (s.operating = true →
            let power (p : Point) : Int := if first then (u.meas p).lastPower else (t.meas p).lastPower
            let imported : Int :=
              if (feedingNode s.cfs.tables .incomer).isSome then power .incomer
              else power (.bus 0) + power (.bus 1) + power (.bus 2) + power (.bus 3)
            let limit := s.cfs.tables.station.importLimit.toNat
            t.ses.incomerLost = s.roleLost .muIncomer 0 ∧ t.ses.stationImport = imported
              ∧ t.ses.budget = (if s.roleLost .muIncomer 0 then 0 else ((limit : Int) - imported).toNat)
              ∧ (s.roleLost .muIncomer 0 = false → (limit : Int) < imported → t.isLatched .station 6 = true))
          ∧ (s.operating = false → t.ses.incomerLost = s.ses.incomerLost ∧ t.ses.stationImport = s.ses.stationImport
            ∧ t.ses.budget = s.ses.budget))
    ∧ (∀ (s : State) (p : Point) (i : NodeIx), Due.noCrossingTimeout p ∈ s.due → feedingNode s.cfs.tables p = some i →
      101 ≤ (s.meas p).window.count →
        (s.takeTimeout p).meas p = timeoutRecord (s.nodeEntry i).vfs.toNat (s.pointVnom p) (s.meas p))
    ∧ (∀ s : State, (∀ p, Due.noCrossingTimeout p ∉ s.due) → ∀ p, s.takeTimeouts.meas p = s.meas p)
    ∧ (∀ (e : NodeEntry) (r : MeasRecord), r.tally = 4000 →
      closeSecond (some e) r = { r with
        rawSum := r.acc, lastPower := (r.acc * e.vfs.toNat * e.ifs.toNat).tdiv (32767 ^ 2 * 4000 * 1000),
        lastSubst := r.substTally, acc := 0, tally := 0, substTally := 0 })
    ∧ (∀ (e : Option NodeEntry) (r : MeasRecord), r.tally ≠ 4000 → closeSecond e r = { r with acc := 0, tally := 0, substTally := 0 })
    ∧ (∀ (s : State) (first : Bool), DueNow s .measurementSecondEnd →
      let u := (s.without .measurementSecondEnd).takeTimeouts
      exec (.measurementSecondEnd first) s = .next (if first then (forEach State.closeBus u.refresh).closeIncomer
        else (forEach State.closeBus u).closeIncomer.refresh))
    ∧ (∀ (s : State) (b : Berth),
      let r := s.meas (.bus b)
      (∀ e, s.feedingEntry (.bus b) = some e → r.tally = 4000 → s.closeBus b
          = (((s.setMeas (.bus b) (closeSecond (some e) r)).secondEndMeter b e).secondEndSession b).superviseReverse b)
        ∧ (r.tally ≠ 4000 ∨ s.feedingEntry (.bus b) = none →
          s.closeBus b = s.setMeas (.bus b) (closeSecond (s.feedingEntry (.bus b)) r)))
    ∧ (∀ (s : State) (b : Berth) (e : NodeEntry),
      let m := s.meter b
      let r := s.meas (.bus b)
      let x := accrueSecond r.rawSum e.vfs.toNat e.ifs.toNat m
      let lost := s.roleLost .muBerth b.val
      let w : Meter :=
        if lost then { m with
          record := m.record.map (fun o => { o with gap := o.gap + 1 }), lastSecond := some ⟨0, .none, r.rawSum, r.lastSubst, true⟩,
          lastTag := some (s.rif.ext - 1) }
        else { x.1 with lastSecond := some ⟨x.2.1, x.2.2, r.rawSum, r.lastSubst, false⟩, lastTag := some (s.rif.ext - 1) }
      let u := s.secondEndMeter b e
      (m.running = false → hasHeld m = false → u = s)
        ∧ (m.running = true → (∀ o, m.record = some o → o.gap < 4294967295) →
          (hasHeld m = false → u = s.setMeter b w)
            ∧ (m.heldFor = s.rif.ext - 1 →
              hasHeld (u.meter b) = false ∧ (u.meter b).lastTag = some (s.rif.ext - 1) ∧ (u.meter b).lastSecond = w.lastSecond
                ∧ (m.heldBlock.isSome = true → (u.meter b).blockSum = 0)
                ∧ (m.heldBlock.isSome = true → m.heldBoundary = none → u = s.setMeter b { w with
                  heldBlock := none, blockSum := 0,
                  record := w.record.map (fun o => { o with peakDemand := max o.peakDemand w.blockSum }) })
                ∧ ∀ a o, m.heldBoundary = some a → w.record = some o → m.deferral = none → s.mbu.ring.length < 64 →
                  s.mbu.nextRecord ≤ 4294967295 → ∃ k, u.mbu.ring = s.mbu.ring ++ [k] ∧ k.berth = b ∧ k.reason = a.reason
                    ∧ k.closedAt = a.time ∧ k.gap = o.gap ∧ k.entries = o.entries.map (fun y =>
                      ⟨y.band, y.price, y.importE, y.exportE, y.charge, y.tariff⟩)
                    ∧ k.peakDemand = (if m.heldBlock.isSome then max o.peakDemand w.blockSum else o.peakDemand))))
    ∧ (∀ (s : State) (b : Berth),
      let r := s.session b
      let u := s.secondEndSession b
      let quiet := r.share = 0 ∧ (s.meas (.bus b)).lastPower ≤ (s.berthEntry b).residual.toNat
      (r.state ≠ .rampOut → u = s)
        ∧ (r.state = .rampOut → ¬ quiet → u = s.setSession b { r with quietSeconds := 0 })
        ∧ (r.state = .rampOut → quiet → r.quietSeconds = 0 → u = s.setSession b { r with quietSeconds := 1 })
        ∧ (r.state = .rampOut → quiet → 1 ≤ r.quietSeconds →
          ((s.breaker (.sb b)).command = .none → (s.breaker (.sb b)).status = .open →
              (u.session b).state = .connected ∧ u.isLatched (.berth b) 4 = true)
            ∧ ((s.breaker (.sb b)).command = .none → (s.breaker (.sb b)).status ≠ .open →
              (u.session b).state = .parting ∧ (u.session b).phase = .parting ∧ (u.breaker (.sb b)).command = .open)
            ∧ ((s.breaker (.sb b)).command ≠ .none → (u.session b).state = .parting ∧ (u.session b).phase = .parting)))
    ∧ ∀ (s : State) (b : Berth) (n : Ext), hasHeld (s.meter b) = false ∨ (s.meter b).heldFor = n →
      let m := s.meter b
      (m.running = true → s.roleLost .muBerth b.val = false → s.substitutedCycle b n = s.setMeter b { m with
          record := m.record.map (fun o => { o with substituted := min 4294967295 (o.substituted + 1) }) })
        ∧ (m.running = false ∨ s.roleLost .muBerth b.val = true → s.substitutedCycle b n = s)

/-- Integer square roots are floors (00, Numbers and arithmetic). The crossing time: 1024 n less the floored quotient, modulo 2^32;
the quotient lies in 0..1024 for a positive crossing, and is 1024 when the previous sample is 0 (R23). -/
def Obligations.RootsAndCrossingTimes : Prop :=
  (∀ n : Nat, isqrt n * isqrt n ≤ n ∧ n < (isqrt n + 1) * (isqrt n + 1))
    ∧ (∀ (n : Ext) (cur prev : Int), 0 < cur → prev ≤ 0 →
        crossingTime n cur prev = BitVec.ofNat 32 (1024 * n.toNat) - BitVec.ofInt 32 (1024 * cur / (cur - prev))
          ∧ 0 ≤ 1024 * cur / (cur - prev) ∧ 1024 * cur / (cur - prev) ≤ 1024
          ∧ (prev = 0 → 1024 * cur / (cur - prev) = 1024))

/-- A point cycle without a delivery repeats every sample, counts as substituted, and cannot cross (R20, R21). A valid L1 crossing
takes a period of 58,514 to 102,400 ticks, the frequency rounded half up, and clears the stale mark; any other period keeps both
and sets it; the first crossing after a reset keeps all three; the crossing time is recorded and the window restarted in every case (R24,
R26). A valid crossing computes the RMS, line-to-line and per-mille figures of its window, any other keeps them (R26, R27). A phase 2
crossing of a record that is not stale and whose phase 1 has crossed takes rotation OK at 90 to 150 degrees, that is 3 P to 5 P over 12,
and REVERSED elsewhere; otherwise the rotation stands (R28). In a point cycle with samples each phase crosses from 0 or below to above 0
when it is armed, and phase 1 is handled before phase 2 (R21, R22, R28). -/
def Obligations.PointCycleRules : Prop :=
  (∀ (p : Point) (n : Ext) (e : NodeEntry) (u : Option Nat) (r : MeasRecord),
      let x := pointCycle p n e u none r
      x.validCross = none ∧ x.substituted = true ∧ x.record.heldV = r.heldV ∧ x.record.heldI = r.heldI
        ∧ x.record.period = r.period ∧ x.record.freq = r.freq ∧ x.record.stale = r.stale ∧ x.record.lastCross = r.lastCross
        ∧ x.record.substCount = min 4294967295 (r.substCount + 1) ∧ x.record.window.count = r.window.count + 1)
    ∧ (∀ (vfs : Nat) (u : Option Nat) (t t0 : Ticks) (r : MeasRecord), r.lastCross.l1 = some t0 →
        let x := l1Stage vfs u t r
        x.lastCross.l1 = some t ∧ x.window = ⟨⟨0, 0, 0⟩, 0⟩
          ∧ (58514 ≤ (t - t0).toNat ∧ (t - t0).toNat ≤ 102400 →
            x.period = (t - t0).toNat ∧ x.freq = (4096000000 + (t - t0).toNat / 2) / (t - t0).toNat ∧ x.stale = false
              ∧ 40000 ≤ x.freq ∧ x.freq ≤ 70000)
          ∧ (¬ (58514 ≤ (t - t0).toNat ∧ (t - t0).toNat ≤ 102400) → x.period = r.period ∧ x.freq = r.freq ∧ x.stale = true))
    ∧ (∀ (vfs : Nat) (u : Option Nat) (t : Ticks) (r : MeasRecord), r.lastCross.l1 = none →
      l1Stage vfs u t r = { r with window := ⟨⟨0, 0, 0⟩, 0⟩, lastCross := { r.lastCross with l1 := some t } })
    ∧ (∀ (vfs : Nat) (u : Option Nat) (t t0 : Ticks) (r : MeasRecord), r.lastCross.l1 = some t0 →
      let x := l1Stage vfs u t r
      (58514 ≤ (t - t0).toNat ∧ (t - t0).toNat ≤ 102400 → x.rotation = r.rotation ∧ RmsFigures vfs u r.window x)
        ∧ (¬ (58514 ≤ (t - t0).toNat ∧ (t - t0).toNat ≤ 102400) →
          x = { r with stale := true, window := ⟨⟨0, 0, 0⟩, 0⟩, lastCross := { r.lastCross with l1 := some t } }))
    ∧ (∀ (t : Ticks) (r : MeasRecord),
      let y : MeasRecord := { r with lastCross := { r.lastCross with l2 := some t } }
      (r.stale = true ∨ r.lastCross.l1 = none → rotationStage t r = y)
        ∧ ∀ t1, r.lastCross.l1 = some t1 → r.stale = false →
          let d := (t - t1).toNat
          (3 * r.period ≤ 12 * d ∧ 12 * d ≤ 5 * r.period → rotationStage t r = { y with rotation := .ok })
            ∧ (12 * d < 3 * r.period ∨ 5 * r.period < 12 * d → rotationStage t r = { y with rotation := .reversed }))
    ∧ ∀ (p : Point) (n : Ext) (e : NodeEntry) (u : Option Nat) (v i : Tri Int) (r : MeasRecord),
      let o := pointCycle p n e u (some (v, i)) r
      let z := triZip substitute r.heldV (condition (flagOf e.mirrored) v)
      let c1 := r.heldV.l1 ≤ 0 ∧ 0 < z.l1 ∧ r.armed.l1 = true
      let c2 := r.heldV.l2 ≤ 0 ∧ 0 < z.l2 ∧ r.armed.l2 = true
      let t1 := crossingTime n z.l1 r.heldV.l1
      let t2 := crossingTime n z.l2 r.heldV.l2
      let a := if c1 then l1Stage e.vfs.toNat u t1 r else r
      let b := if c2 then rotationStage t2 a else a
      o.record.heldV = z
        ∧ (o.record.period = a.period ∧ o.record.freq = a.freq ∧ o.record.stale = a.stale ∧ o.record.rms = a.rms
          ∧ o.record.pointRms = a.pointRms ∧ o.record.lineVolts = a.lineVolts ∧ o.record.permille = a.permille
          ∧ o.record.pointPermille = a.pointPermille)
        ∧ (o.record.rotation = b.rotation ∧ o.record.lastCross.l1 = a.lastCross.l1 ∧ o.record.lastCross.l2 = b.lastCross.l2)
        ∧ (z.l1 < -655 → o.record.armed.l1 = true) ∧ (c1 → o.record.armed.l1 = false)
        ∧ (-655 ≤ z.l1 → ¬ c1 → o.record.armed.l1 = r.armed.l1)
        ∧ o.record.window.count = a.window.count + 1
        ∧ o.record.window.sums.l1 = a.window.sums.l1 + z.l1.natAbs ^ 2
        ∧ (∀ t0, c1 → r.lastCross.l1 = some t0 → 58514 ≤ (t1 - t0).toNat → (t1 - t0).toNat ≤ 102400 → o.validCross = some t1)
        ∧ (¬ c1 ∨ r.lastCross.l1 = none → o.validCross = none)

/-! ## Oscillators -/

/-- Reset values of the oscillators; no change of mode, commit, recommit, table write or configuration timeout touches them; the phase
advances in both modes; the entry into RESERVING reinitialises (R35). -/
def Obligations.OscillatorReset : Prop :=
  (∀ b, State.reset.osc b
      = { phase := 0, k := 53687091, fset := 50000, fnom := 50000, mode := .free, slew := 0, watchdog := 0, holdover := false })
    ∧ (∀ s : State, s.enterConfig.rob = s.rob ∧ s.configTimeout.rob = s.rob ∧ (∀ x, (s.commitTables x).1.rob = s.rob)
      ∧ ∀ a b l, (s.writeEntry a b l).1.rob = s.rob)
    ∧ (∀ (s : State) (b : Berth), (s.counted.osc b).phase = (s.osc b).phase + (s.osc b).k)
    ∧ ∀ (s : State) (b : Berth) (f : Nat), (s.session b).fnom = some f → (s.enterState b .reserving).osc b
      = { phase := 0, k := incrementOf f, fset := f, fnom := f, mode := .free, slew := 0, watchdog := 0, holdover := false }

/-- At each cycle boundary, in both modes, both ring states and every oscillator mode, each phase advances by the increment in force,
modulo 2^32, and the increment and setpoint stay (R36). -/
def Obligations.PhaseAdvance : Prop :=
  ∀ (s : State) (d : Bool) (b : Berth), Settled s → s.rif.started = true →
    Answers (exec (.cycleBoundary d) s) fun t =>
      (t.osc b).phase = (s.osc b).phase + (s.osc b).k ∧ (t.osc b).k = (s.osc b).k ∧ (t.osc b).fset = (s.osc b).fset

/-- A new setpoint recomputes the increment, f_set times 2^32 over 4,000,000 rounded half up, and the reported frequency equals f_set
for every f_set in the clamp range (R37). -/
def Obligations.IncrementAndReport : Prop :=
  (∀ (o : Osc) (f : Nat), (setSetpoint o f).k = incrementOf (setSetpoint o f).fset)
    ∧ (∀ f : Nat, f ≤ 61200 → (incrementOf f).toNat = (f * 2 ^ 32 + 2000000) / 4000000)
    ∧ (∀ k : BitVec 32, reportedFrequency k = (k.toNat * 4000000 + 2 ^ 31) / 2 ^ 32)
    ∧ ∀ f : Nat, (49000 ≤ f ∧ f ≤ 51000) ∨ (58800 ≤ f ∧ f ≤ 61200) → reportedFrequency (incrementOf f) = f

/-- FREE_STEP moves the setpoint by at most 10 mHz toward nominal, recomputes the increment and returns the slew count to 0; it
touches nothing else (R41). HOLDOVER_ENTRY sets the holdover mark and presents LOCK_LOST; under class WARN the session keeps its
state and only the warning record and the WARN flag change besides (R44, R132). -/
def Obligations.OscillatorEvents : Prop :=
  (∀ (s : State) (b : Berth), DueNow s (.freeStep b) → (s.osc b).mode = .free → 399 ≤ (s.osc b).slew → OscOk (s.osc b) →
      let o := s.osc b
      let f := if o.fset < o.fnom then o.fset + min 10 (o.fnom - o.fset) else o.fset - min 10 (o.fset - o.fnom)
      exec (.freeStep b) s = .next ((s.without (.freeStep b)).setOsc b { o with fset := f, k := incrementOf f, slew := 0 }))
    ∧ (∀ (s : State) (b : Berth), DueNow s (.holdoverEntry b) → (s.osc b).mode = .lock → (s.osc b).holdover = false →
        holdoverLimit (s.osc b).fnom ≤ (s.osc b).watchdog →
          exec (.holdoverEntry b) s
              = .next (((s.without (.holdoverEntry b)).setOsc b { s.osc b with holdover := true }).fault b .lockLost)
            ∧ ((s.session b).state ≠ .idle → s.classFor .lockLost = .warn →
              exec (.holdoverEntry b) s = .next ((((s.without (.holdoverEntry b)).setOsc b
                { s.osc b with holdover := true }).setSuperv b { s.superv b with
                  warnedKind := some .lockLost, warnCount := min 65535 ((s.superv b).warnCount + 1) }).latchBerth b .warn)))

/-- The lock correction: the phase at the crossing is worked back, one sixteenth of it is taken from the phase, the setpoint takes the
clamped bus frequency, and watchdog and holdover mark are cleared; outside LOCK nothing changes (R43). A valid crossing of the ship's bus
in TRACK sets the setpoint to the ship's frequency plus the slip target, clamped to 2 % around nominal, with the increment recomputed and
nothing else touched; outside TRACK nothing changes (R42). -/
def Obligations.LockCorrection : Prop :=
  (∀ (s : State) (b : Berth),
    let o := s.osc b
    let f := max (o.fnom - o.fnom / 50) (min (o.fnom + o.fnom / 50) ((s.meas (.ship b)).freq + (s.berthEntry b).slipTarget.toNat))
    (o.mode ≠ .track → s.trackCrossing b = s)
      ∧ (o.mode = .track → s.trackCrossing b = s.setOsc b { o with fset := f, k := incrementOf f }))
  ∧ ∀ (n : Ext) (t : Ticks) (f : Nat) (o : Osc),
    (o.mode ≠ .lock → lockCorrection n t f o = o)
      ∧ (o.mode = .lock →
        let d := (BitVec.ofNat 32 (1024 * n.toNat) - t).toNat
        let cross := (o.phase - BitVec.ofNat 32 (o.k.toNat * d / 1024)).toInt
        lockCorrection n t f o = { o with
          phase := o.phase - BitVec.ofInt 32 (cross.tdiv 16), fset := clampFreq o.fnom f,
          k := incrementOf (clampFreq o.fnom f), watchdog := 0, holdover := false })

/-! ## Converter modules -/

/-- MODULE_START_LIMIT and MODULE_OPERATE_LIMIT: the module fails with the cause named, serves no berth, is commanded STOP, has nothing
left in the switching queue, and MODULE_FAILED is latched; in FAILED and BLOCKED an operation at its limit is dropped and the module
stays where it is (R55, R57, R59, R60, R69). That a dropped operation leaves age 0 is the model's reading (entry 39). -/
def Obligations.ModuleLimits : Prop :=
  (∀ (s : State) (m : ModuleId), DueNow s (.moduleStartLimit m) → s.stageRuns m = true →
      (s.module m).startLimit ≤ (s.module m).stageTimer →
        Answers (exec (.moduleStartLimit m) s) fun t =>
          (t.module m).state = .failed ∧ (t.module m).cause = some .startLimit ∧ (t.module m).berth = none
            ∧ (t.module m).run = .stop ∧ (t.module m).stopPhase = false ∧ (∀ e ∈ t.mpm.switching, e.module ≠ m)
            ∧ t.isLatched .station 5 = true)
    ∧ (∀ (s : State) (m : ModuleId), DueNow s (.moduleOperateLimit m) → (s.module m).op ≠ .none → 4000 ≤ (s.module m).opAge →
      ((s.module m).state = .starting ∨ (s.module m).state = .bound ∨ (s.module m).state = .stopping) →
        Answers (exec (.moduleOperateLimit m) s) fun t =>
          (t.module m).state = .failed ∧ (t.module m).cause = some .operateLimit ∧ (t.module m).berth = none
            ∧ (t.module m).run = .stop ∧ (t.module m).stopPhase = false ∧ (∀ e ∈ t.mpm.switching, e.module ≠ m)
            ∧ t.isLatched .station 5 = true)
    ∧ ∀ (s : State) (m : ModuleId), DueNow s (.moduleOperateLimit m) → (s.module m).op ≠ .none → 4000 ≤ (s.module m).opAge →
      ((s.module m).state = .failed ∨ (s.module m).state = .blocked) →
        exec (.moduleOperateLimit m) s
          = .next ((s.without (.moduleOperateLimit m)).setModule m { s.module m with op := .none, opAge := 0 })

/-- COOLDOWN_END: at deadline 0 the module becomes FREE and a grant evaluation follows; with no berth waiting, nothing else changes
(R58, R64). -/
def Obligations.CooldownEnd : Prop :=
  ∀ (s : State) (m : ModuleId), DueNow s (.cooldownEnd m) → (s.module m).state = .cooldown → (s.module m).cooldown = 0 →
    exec (.cooldownEnd m) s
        = .next (((s.without (.cooldownEnd m)).setModule m { s.module m with state := .free }).grantEvaluation)
      ∧ (s.mpm.alloc = [] →
        exec (.cooldownEnd m) s = .next ((s.without (.cooldownEnd m)).setModule m { s.module m with state := .free }))

/-- SWITCHING_ISSUE issues the oldest entry that meets both spacings with no operation in force and none of its module before it: it
becomes the operation in force with age 0, leaves the queue, and sets the ages of its group and the station to 0; when none
qualifies nothing changes (R68, R69). -/
def Obligations.SwitchingIssue : Prop :=
  (∀ (s : State) (before after : List SwitchEntry) (e : SwitchEntry), DueNow s .switchingIssue → s.operating = true →
      s.mpm.switching = before ++ e :: after → s.mayIssue e = true → (∀ x ∈ before, x.module ≠ e.module) →
      (∀ (l r : List SwitchEntry) (x : SwitchEntry), before = l ++ x :: r →
        s.mayIssue x = false ∨ ∃ y ∈ l, y.module = x.module) →
        Answers (exec .switchingIssue s) fun t =>
          t.mpm.switching = before ++ after ∧ (t.module e.module).op = opOf e.op ∧ (t.module e.module).opAge = 0
            ∧ (∀ i, i ≠ e.module → t.module i = s.module i) ∧ t.mpm.ageStation = 0
            ∧ (inGroupA e.module = true → t.mpm.ageA = 0 ∧ t.mpm.ageB = s.mpm.ageB)
            ∧ (inGroupA e.module = false → t.mpm.ageB = 0 ∧ t.mpm.ageA = s.mpm.ageA))
    ∧ (∀ s : State, DueNow s .switchingIssue → (∀ e ∈ s.mpm.switching, s.mayIssue e = false) →
      exec .switchingIssue s = .next (s.without .switchingIssue))
    ∧ ∀ (s : State) (e : SwitchEntry), s.mayIssue e = true →
      (s.module e.module).op = .none ∧ 4 * s.cfs.tables.station.tShort.toNat ≤ s.mpm.ageStation
        ∧ 4 * s.cfs.tables.station.tLong.toNat ≤ (if e.module.val < 4 then s.mpm.ageA else s.mpm.ageB)

/-- BLOCK MODULE and UNBLOCK MODULE: a number outside 0..7 is refused RANGE; FREE, COOLDOWN and FAILED modules are blocked, a blocked
one stays so, a serving one is refused STATE; a blocked module without an operation in force becomes FREE and, in OPERATE,
a grant evaluation follows, with one it is refused STATE, and any other module is left as it is (R62). That a module blocked
from FAILED drops its cooldown deadline as well is the model's reading (entry 39). -/
def Obligations.BlockAndUnblock : Prop :=
  (∀ (s : State) (r : Request) (l : List Request) (a : Byte), AtHead s r l → r.code = 16 → r.args = [a] → 8 ≤ a.toNat →
      exec .blockModule s = .next (s.quiet.answered r l (refused .range)))
    ∧ (∀ (s : State) (r : Request) (l : List Request) (a : Byte) (m : ModuleId), AtHead s r l → r.code = 16 → r.args = [a] →
      a.toNat = m.val →
        (((s.module m).state = .free ∨ (s.module m).state = .cooldown ∨ (s.module m).state = .failed) →
            exec .blockModule s
              = .next ((s.quiet.setModule m { s.module m with state := .blocked, cooldown := 0 }).answered r l done))
          ∧ (((s.module m).state = .starting ∨ (s.module m).state = .bound ∨ (s.module m).state = .stopping) →
            exec .blockModule s = .next (s.quiet.answered r l (refused .state)))
          ∧ ((s.module m).state = .blocked → exec .blockModule s = .next (s.quiet.answered r l done)))
    ∧ (∀ (s : State) (r : Request) (l : List Request) (a : Byte), AtHead s r l → r.code = 17 → r.args = [a] → 8 ≤ a.toNat →
      exec .unblockModule s = .next (s.quiet.answered r l (refused .range)))
    ∧ ∀ (s : State) (r : Request) (l : List Request) (a : Byte) (m : ModuleId), AtHead s r l → r.code = 17 → r.args = [a] →
      a.toNat = m.val →
        ((s.module m).state = .blocked → (s.module m).op = .none →
            exec .unblockModule s = .next
                (((s.quiet.setModule m { s.module m with state := .free }).grantEvaluation).answered r l done)
              ∧ (s.operating = false ∨ s.mpm.alloc = [] →
                exec .unblockModule s
                  = .next ((s.quiet.setModule m { s.module m with state := .free }).answered r l done)))
          ∧ ((s.module m).state = .blocked → (s.module m).op ≠ .none →
            exec .unblockModule s = .next (s.quiet.answered r l (refused .state)))
          ∧ ((s.module m).state ≠ .blocked → exec .unblockModule s = .next (s.quiet.answered r l done))

/-- The pick of a grant: the group with more grantable modules, on a tie the group that holds fewer of the berth's modules, on a
further tie group A; within it the lowest number, and only a FREE module of an enabled entry (R65). An URGENT allocation entry
stands behind the last URGENT one and ahead of every NORMAL one, and the others keep their order (R63). A head that is granted leaves
the queue; its count of modules is STARTING for the berth, a session in RESERVING is in ENERGISING, one in DRAINING, FAULTED or IDLE
has them released again, and any other keeps its state (R64, R54, R96). A grant evaluation, in OPERATE only, takes heads in order for
as long as the FREE count serves them (R64). A released STARTING or BOUND module is STOPPING for its berth, its queued operations gone,
with an OPEN queued behind a CLOSE in force or for a breaker that is not open, nothing behind a PROTECTION_OPEN, and the stop phase
begun at once with the breaker open; any other module is left as it is; a berth released whole holds none (R56, R57). That a breaker
which reads FAULT with no operation in force has an OPEN queued is the model's reading (entry 39). -/
def Obligations.GrantOrder : Prop :=
  (∀ (s : State) (b : Berth) (m : ModuleId), s.pick b = some m →
      (s.module m).state = .free ∧ flagOf (s.moduleEntry m).enabled = true
        ∧ (∀ i : ModuleId, i.val < m.val → inGroupA i = inGroupA m → s.grantable i = false)
        ∧ ((s.freeIn false).length < (s.freeIn true).length → inGroupA m = true)
        ∧ ((s.freeIn true).length < (s.freeIn false).length → inGroupA m = false)
        ∧ ((s.freeIn true).length = (s.freeIn false).length → inGroupA m = decide (s.heldIn b true ≤ s.heldIn b false)))
    ∧ (∀ (e : AllocEntry) (u n : List AllocEntry), e.urgency = .urgent → (∀ x ∈ u, x.urgency = .urgent) →
      (∀ x ∈ n, x.urgency = .normal) → insertUrgent e (u ++ n) = u ++ [e] ++ n)
    ∧ (∀ (s : State) (e : AllocEntry) (l : List AllocEntry), s.mpm.alloc = e :: l → e.count ≤ s.freeCount →
      let t := s.grantHead e
      let st := (s.session e.berth).state
      t.mpm.alloc = l
        ∧ (st = .draining ∨ st = .faulted ∨ st = .idle → t.held e.berth = s.held e.berth)
        ∧ (st ≠ .draining → st ≠ .faulted → st ≠ .idle →
          t.held e.berth = s.held e.berth + e.count ∧ (t.session e.berth).state = (if st = .reserving then .energising else st)
            ∧ ∀ m, t.module m ≠ s.module m → s.grantable m = true ∧ t.module m = { s.module m with
              state := .starting, berth := some e.berth, run := .run, stageTimer := 0,
              startLimit := 4 * (s.moduleEntry m).startLimit.toNat, op := .none, stopPhase := false }))
    ∧ (∀ s : State, (s.operating = false → s.grantEvaluation = s)
      ∧ ∃ granted, s.mpm.alloc = granted ++ s.grantEvaluation.mpm.alloc
        ∧ (s.operating = true → ∀ e l, s.grantEvaluation.mpm.alloc = e :: l → s.grantEvaluation.freeCount < e.count))
    ∧ (∀ (s : State) (m : ModuleId), (s.module m).state = .starting ∨ (s.module m).state = .bound →
      let t := s.releaseOne m
      let kept := s.mpm.switching.filter (fun e => e.module != m)
      (t.module m).state = .stopping ∧ (t.module m).berth = (s.module m).berth ∧ (t.module m).stageTimer = 0
        ∧ (t.module m).op = (s.module m).op ∧ (∀ i, i ≠ m → t.module i = s.module i)
        ∧ ((s.module m).op = .close → t.mpm.switching = kept ++ [⟨m, .open⟩] ∧ (t.module m).stopPhase = false)
        ∧ ((s.module m).op = .protectionOpen → t.mpm.switching = kept ∧ (t.module m).stopPhase = false)
        ∧ ((s.module m).op = .none → (s.module m).breaker ≠ .open →
          t.mpm.switching = kept ++ [⟨m, .open⟩] ∧ (t.module m).stopPhase = false)
        ∧ ((s.module m).op = .none → (s.module m).breaker = .open →
          t.mpm.switching = kept ∧ (t.module m).stopPhase = true ∧ (t.module m).run = .stop
            ∧ (t.module m).startLimit = 4 * (s.moduleEntry m).startLimit.toNat))
    ∧ (∀ (s : State) (m : ModuleId), (s.module m).state ≠ .starting → (s.module m).state ≠ .bound → s.releaseOne m = s)
    ∧ ∀ (s : State) (b : Berth), (s.releaseBerth b).held b = 0
      ∧ (0 < s.held b → ((s.releaseBerth b).session b).starting = 0 ∧ ((s.releaseBerth b).session b).bound = 0)

/-- A released module's split of the shore share: the setpoints of a berth's BOUND modules sum to P_sh, every other module carries 0
(R103). -/
def Obligations.ShareSplit : Prop :=
  (∀ (s : State) (b : Berth), s.boundModules b ≠ [] →
      ((s.boundModules b).map s.powerSetpoint).sum = ((s.session b).share : Int))
    ∧ (∀ (s : State) (m : ModuleId), (s.module m).state ≠ .bound → s.powerSetpoint m = 0)
    ∧ ∀ (s : State) (m : ModuleId) (b : Berth), m ∈ s.boundModules b → (s.boundModules b).head? ≠ some m →
      s.powerSetpoint m = ((s.session b).share * (s.moduleEntry m).rating.toNat / (s.session b).sigma : Nat)

/-! ## Breakers and synchronising -/

/-- BREAKER_OPERATE_LIMIT: a CLOSE at its limit ends without a result and its failure is presented, with an OPEN issued for a withdrawn
one unless the breaker reads OPEN; an OPEN at its limit stays in force, is marked as reported, and its failure is presented (R79). That
a withdrawn close ended by its limit with the breaker reading OPEN presents no completion to the session is the model's reading
(entry 33). -/
def Obligations.BreakerOperateLimit : Prop :=
  (∀ (s : State) (k : Breaker), DueNow s (.breakerOperateLimit k) → s.operating = true → (s.breaker k).command = .close →
      (s.breaker k).limit ≤ (s.ext - (s.breaker k).issue).toNat →
        let s1 := ((s.without (.breakerOperateLimit k)).concludeMeasurement k none).clearClose k
        exec (.breakerOperateLimit k) s = .next
          ((if (s.breaker k).withdrawn = true ∧ (s.breaker k).status ≠ .open then s1.issueOpen k else s1).fault (breakerBerth k)
            (failKind k)))
    ∧ ∀ (s : State) (k : Breaker), DueNow s (.breakerOperateLimit k) → s.operating = true → (s.breaker k).command = .open →
      (s.breaker k).limitReported = false → (s.breaker k).limit ≤ (s.ext - (s.breaker k).issue).toNat →
        exec (.breakerOperateLimit k) s = .next
          (((s.without (.breakerOperateLimit k)).setBreaker k { s.breaker k with limitReported := true }).fault (breakerBerth k)
            (failKind k))

/-- A close request, taken according to the record: issued from NONE and OPEN, complete from NONE and CLOSED, without effect on a
CLOSE, refused by any other record (R77). An open request, taken according to the record: complete from NONE and OPEN, issued
from NONE and any other status, without effect on an OPEN or on a withdrawn CLOSE; a CLOSE not withdrawn is withdrawn and stays
in force, written from then on as "no command" (R78). -/
def Obligations.BreakerRequests : Prop :=
  (∀ (s : State) (k : Breaker),
      ((s.breaker k).command = .none → (s.breaker k).status = .open →
          s.closeRequest k = (s.setBreaker k { s.breaker k with
            command := .close, issue := s.ext, withdrawn := false, limit := 4 * (s.breakerEntry k).limit.toNat,
            measuring := true }, .issued))
        ∧ ((s.breaker k).command = .none → (s.breaker k).status = .closed → s.closeRequest k = (s, .complete))
        ∧ ((s.breaker k).command = .close → s.closeRequest k = (s, .unchanged))
        ∧ ((s.breaker k).command = .open → s.closeRequest k = (s, .refused))
        ∧ ((s.breaker k).command = .none → (s.breaker k).status = .moving ∨ (s.breaker k).status = .fault →
          s.closeRequest k = (s, .refused)))
    ∧ (∀ (s : State) (k : Breaker),
        ((s.breaker k).command = .none → (s.breaker k).status = .open → s.openRequest k = (s, true))
          ∧ ((s.breaker k).command = .none → (s.breaker k).status ≠ .open →
            s.openRequest k = (s.setBreaker k { s.breaker k with
              command := .open, issue := s.ext, limitReported := false, withdrawn := false,
              limit := 4 * (s.breakerEntry k).limit.toNat }, false))
          ∧ ((s.breaker k).command = .open → s.openRequest k = (s, false))
          ∧ ((s.breaker k).command = .close → (s.breaker k).withdrawn = true → s.openRequest k = (s, false))
          ∧ ((s.breaker k).command = .close → (s.breaker k).withdrawn = false →
            s.openRequest k = (s.setBreaker k { s.breaker k with withdrawn := true, withdrawCycle := s.ext }, false)
              ∧ breakerCode ((s.openRequest k).1.breaker k) = 0))

/-- Learning and MARK BREAKER: the conclusion of a measurement with the mark set takes a plausible result as the learned close time and
clears the mark; with it clear the learned close time stays; MARK BREAKER sets the named breaker's mark, clears its partner's, and is
refused RANGE for any other number; COMMIT into OPERATE reloads the configured close time (R82). -/
def Obligations.LearnedCloseTime : Prop :=
  (∀ (s : State) (k : Breaker) (v : Option Nat), (s.breaker k).measuring = true →
      ((s.concludeMeasurement k v).breaker k).mark = false
        ∧ ((s.concludeMeasurement k v).breaker k).measuring = false
        ∧ ((s.concludeMeasurement k v).breaker k).lastMeasured = v
        ∧ ((s.breaker k).mark = true → ∀ n, v = some n → ((s.concludeMeasurement k v).breaker k).learned = n)
        ∧ ((s.breaker k).mark = false ∨ v = none →
          ((s.concludeMeasurement k v).breaker k).learned = (s.breaker k).learned))
    ∧ (∀ (s : State) (r : Request) (l : List Request) (a : Byte), AtHead s r l → r.code = 18 → r.args = [a] → 8 ≤ a.toNat →
      exec .markBreaker s = .next (s.quiet.answered r l (refused .range)))
    ∧ (∀ (s : State) (r : Request) (l : List Request) (a : Byte) (k : Breaker), AtHead s r l → r.code = 18 → r.args = [a] →
      breakerOf a = some k →
        Answers (exec .markBreaker s) fun t =>
          (t.breaker k) = { s.breaker k with mark := true }
            ∧ (t.breaker (otherBreaker k)) = { s.breaker (otherBreaker k) with mark := false }
            ∧ (∀ i, i ≠ k → i ≠ otherBreaker k → t.breaker i = s.breaker i)
            ∧ t.mrh.responses = s.mrh.responses ++ [⟨r.source, r.tag, r.code, done⟩] ∧ t.bsy.sync = s.bsy.sync)
    ∧ (∀ b : Berth, breakerOf (BitVec.ofNat 8 b.val) = some (.pb b) ∧ breakerOf (BitVec.ofNat 8 (4 + b.val)) = some (.sb b))
    ∧ (∀ k, (State.reset.breaker k).learned = 100000)
    ∧ ∀ (s : State) (sig : BitVec 32) (k : Breaker), ((s.enterOperate sig).breaker k).learned = (s.breakerEntry k).configured.toNat

/-- The measured close time: 250 µs for each cycle from issue to report, modulo 2^22, plus the contact offset less one cycle; a result
outside the plausible range is none (R81). -/
def Obligations.MeasuredCloseTime : Prop :=
  (∀ (n issue : Ext) (offset : Nat), measuredTime n issue offset = ((n - issue).toNat : Int) * 250 + offset - 250)
    ∧ (∀ (e : BreakerEntry) (z : Int), (e.minimum.toNat : Int) ≤ z → z ≤ e.maximum.toNat → plausible e z = some z.toNat)
    ∧ ∀ (e : BreakerEntry) (z : Int), z < e.minimum.toNat ∨ (e.maximum.toNat : Int) < z → plausible e z = none

/-- A ship breaker is told to close by a ship crossing only while its attempt is EVALUATING, at an evaluation in which every window of
its berth holds and which brings the stability count to 3; the attempt is then CLOSE_ISSUED and the session's close issued is set
(R87, R88, R89). A valid crossing of the plug point joins its history (R86). While the alignment is collecting it is counted when the bus
is not stale and has crossed and the displacement lies within the bounds; a counted one adds its angle, unwrapped against the first
angle (R84). The eighth is judged: with the mean angle, the rotation and the voltage as they must be, the mean becomes the cable offset
and a session in ENERGISING is CONNECTED; otherwise PHASING is presented; either way the alignment is inactive (R85). An evaluation takes
as P reference the newest history entry not after the S crossing; with P not stale and the interval below P's period it gives the angle,
the advance angle rounded half up and the predicted angle; slip and advance are given always; the eight windows compare them with the
Berth Table (R87, R88). Evaluated with every window at a stability count of 2 the close is issued, below it the count rises, and with a
window not held the count is 0; an attempt that is not EVALUATING evaluates nothing (R88, R89). -/
def Obligations.SyncCloseLaw : Prop :=
  (∀ (s : State) (b : Berth) (t : Ticks),
    let y : SyncRecord := { s.sync b with pNew := some t, pOld := (s.sync b).pNew }
    let bus := s.meas (.bus b)
    let u := s.plugCrossing b t
    let fold (z : Int) : Int := (z + 18000) % 36000 - 18000
    (u.sync b).pNew = some t ∧ (u.sync b).pOld = (s.sync b).pNew
      ∧ (y.alignment = .inactive ∨ bus.stale = true ∨ bus.lastCross.l1 = none → u = s.setSync b y)
      ∧ ∀ tB, bus.lastCross.l1 = some tB → y.alignment = .collecting → bus.stale = false →
        let d := (t - tB).toInt
        let raw := fold ((d * 36000).tdiv bus.period)
        let z : SyncRecord := { y with
          firstAngle := if y.collected = 0 then raw else y.firstAngle,
          angleSum := y.angleSum + if y.collected = 0 then raw else y.firstAngle + fold (raw - y.firstAngle),
          collected := y.collected + 1 }
        let mean := fold (z.angleSum.tdiv 8)
        let passes := -1500 ≤ mean ∧ mean ≤ 1500 ∧ (s.meas (.plug b)).rotation = .ok
          ∧ ∃ v, (s.meas (.plug b)).pointPermille = some v ∧ 900 ≤ v ∧ v ≤ 1100
        (d ≤ -(bus.period : Int) ∨ 2 * (bus.period : Int) ≤ d → u = s.setSync b y)
          ∧ (-(bus.period : Int) < d → d < 2 * (bus.period : Int) →
            (y.collected < 7 → u = s.setSync b z)
              ∧ (7 ≤ y.collected → passes → (u.sync b).alignment = .inactive ∧ (u.sync b).cableOffset = some mean
                ∧ ((s.session b).state = .energising → (u.session b).state = .connected ∧ u.isLatched (.berth b) 2 = true))
              ∧ (7 ≤ y.collected → ¬ passes → u = (s.setSync b { z with alignment := .inactive }).fault b .phasing)))
  ∧ (∀ (s : State) (b : Berth) (t : Ticks), (s.breaker (.sb b)).command ≠ .close →
    ((s.shipCrossing b t).breaker (.sb b)).command = .close →
      (s.sync b).attempt = .evaluating ∧ 2 ≤ (s.sync b).stability
        ∧ (let v := syncEvaluation (s.meas (.plug b)) (s.meas (.ship b)) (s.breaker (.sb b)) (s.breaker (.pb b))
            (s.berthEntry b) (s.osc b).fnom t (s.sync b)
          AllWindows v)
        ∧ ((s.shipCrossing b t).sync b).attempt = .closeIssued ∧ ((s.shipCrossing b t).session b).closeIssued = true)
  ∧ (∀ (plug ship : MeasRecord) (sb pb : BreakerRecord) (e : BerthEntry) (fnom : Nat) (t : Ticks) (y : SyncRecord),
    let v := syncEvaluation plug ship sb pb e fnom t y
    let fold (z : Int) : Int := (z + 18000) % 36000 - 18000
    let before (o : Option Ticks) : Prop := ∃ x, o = some x ∧ 0 ≤ (t - x).toInt
    let slip : Int := (plug.freq : Int) - ship.freq
    let advance : Nat := sb.learned + 250
    let gained : Int := (slip * advance * 9 + 125000) / 250000
    let valid (x : Ticks) : Prop := plug.stale = false ∧ (t - x).toNat < plug.period
    let angles (x : Ticks) : Prop :=
      let theta := fold (((t - x).toNat * 36000 / plug.period : Nat) : Int)
      v.theta = some theta ∧ v.deltaTheta = some gained ∧ v.thetaPred = some (fold (theta + gained))
        ∧ (v.angleOk = true ↔ (fold (theta + gained)).natAbs ≤ e.closeWindow.toNat)
    let noAngles : Prop := v.theta = none ∧ v.deltaTheta = none ∧ v.thetaPred = none ∧ v.angleOk = false
    (∀ x, y.pNew = some x → 0 ≤ (t - x).toInt → (valid x → angles x) ∧ (¬ valid x → noAngles))
      ∧ (¬ before y.pNew → ∀ x, y.pOld = some x → 0 ≤ (t - x).toInt → (valid x → angles x) ∧ (¬ valid x → noAngles))
      ∧ (¬ before y.pNew → ¬ before y.pOld → noAngles)
      ∧ v.slip = slip ∧ v.advance = advance
      ∧ (v.slipOk = true ↔ slip.natAbs ≤ e.slipMax.toNat)
      ∧ (v.voltageOk = true ↔ ∃ a, plug.pointPermille = some a ∧ ∃ b, ship.pointPermille = some b
        ∧ ((a : Int) - b).natAbs ≤ e.dvMax.toNat)
      ∧ (fnom = 50000 → (v.frequencyOk = true ↔ 49000 ≤ ship.freq ∧ ship.freq ≤ 51000))
      ∧ (fnom = 60000 → (v.frequencyOk = true ↔ 58800 ≤ ship.freq ∧ ship.freq ≤ 61200))
      ∧ (v.rotationOk = true ↔ ship.rotation = .ok) ∧ v.sbReady = sb.ready
      ∧ (v.sbFree = true ↔ sb.command = .none ∧ sb.status = .open) ∧ (v.pbClosed = true ↔ pb.status = .closed))
  ∧ ∀ (s : State) (b : Berth) (t : Ticks),
    let y := s.sync b
    let v := syncEvaluation (s.meas (.plug b)) (s.meas (.ship b)) (s.breaker (.sb b)) (s.breaker (.pb b)) (s.berthEntry b)
      (s.osc b).fnom t y
    let u := s.shipCrossing b t
    (y.attempt ≠ .evaluating → u = s)
      ∧ (y.attempt = .evaluating → ¬ AllWindows v → u = s.setSync b { y with stability := 0, lastEval := some v })
      ∧ (y.attempt = .evaluating → AllWindows v → y.stability < 2 →
        u = s.setSync b { y with stability := y.stability + 1, lastEval := some v })
      ∧ (y.attempt = .evaluating → AllWindows v → 2 ≤ y.stability →
        (u.breaker (.sb b)).command = .close ∧ (u.breaker (.sb b)).issue = s.rif.ext
          ∧ u.sync b = { y with stability := 3, lastEval := some v, attempt := .closeIssued }
          ∧ u.session b = { s.session b with closeIssued := true })

/-! ## Sessions -/

/-- OPEN SESSION is judged in the order of its five tests; a request that passes is answered ACCEPTED with the number the counter held,
which goes on from 65535 to 1; the session, in RESERVING or beyond it, holds the account, f_nom, V_nom and count that the request
carried (R93, R94). With no LOST node of the berth and no ship ESD, its NORMAL allocation request of that count, clamped to the room,
stands at the back of the queue when it has to wait, and is granted in the same event when the queue is empty and the FREE count serves
it (R63, R64, R94). -/
def Obligations.OpenSession : Prop :=
  ∀ (s : State) (r : Request) (l : List Request), AtHead s r l → r.code = 9 → r.args.length = 12 →
    (berthOf (byteAt r.args 0) = none → exec .openSession s = .next (s.quiet.answered r l (refused .range)))
      ∧ ∀ b, berthOf (byteAt r.args 0) = some b →
        (s.operating = false ∨ s.cfs.invalid = true → exec .openSession s = .next (s.quiet.answered r l (refused .mode)))
          ∧ (s.operating = true → s.cfs.invalid = false →
            (flagOf (s.berthEntry b).enabled = false ∨ (s.session b).state ≠ .idle →
                exec .openSession s = .next (s.quiet.answered r l (refused .state)))
              ∧ (flagOf (s.berthEntry b).enabled = true → (s.session b).state = .idle →
                ((s.meter b).finalPending = true →
                    exec .openSession s = .next (s.quiet.answered r l (refused .billingFull)))
                  ∧ ((s.meter b).finalPending = false → openInRange (s.berthEntry b) (openArgs r.args) = false →
                    exec .openSession s = .next (s.quiet.answered r l (refused .range)))
                  ∧ ((s.meter b).finalPending = false → openInRange (s.berthEntry b) (openArgs r.args) = true →
                    Answers (exec .openSession s) fun t =>
                      (t.session b).number = some s.ses.nextNumber ∧ (t.session b).account = some (openArgs r.args).account
                        ∧ (t.session b).fnom = some (openArgs r.args).fnom ∧ (t.session b).vnom = some (openArgs r.args).vnom
                        ∧ (t.session b).requested = (openArgs r.args).count ∧ (t.session b).endReason = none
                        ∧ (t.session b).state ≠ .idle
                        ∧ t.ses.nextNumber = (if s.ses.nextNumber = 65535 then 1 else s.ses.nextNumber + 1)
                        ∧ (t.osc b).fnom = (openArgs r.args).fnom ∧ (t.osc b).phase = 0 ∧ (t.superv b).attempts = 0
                        ∧ t.mrh.requests = l
                        ∧ t.mrh.responses = s.mrh.responses
                          ++ [⟨r.source, r.tag, r.code, acceptedWith [.num (s.ses.nextNumber : Int)]⟩]
                        ∧ let e0 : AllocEntry := ⟨b, min (openArgs r.args).count ((s.berthEntry b).maxModules.toNat - s.held b), .normal, s.ctu.time⟩
                          (s.berthNodeLost b = false → (s.session b).ship ≠ .shipEsd → 0 < e0.count → (∀ e ∈ s.mpm.alloc, e.berth ≠ b) →
                            ((∀ e ∈ (s.mpm.alloc ++ [e0]).head?, s.freeCount < e.count) →
                                t.mpm.alloc = s.mpm.alloc ++ [e0]
                                  ∧ (t.session b).state = .reserving)
                              ∧ (s.mpm.alloc = [] → e0.count ≤ s.freeCount →
                                t.mpm.alloc = [] ∧ (t.session b).state = .energising ∧ t.held b = s.held b + e0.count)))))

/-- HANDOVER IN: accepted in CONNECTED with the configuration valid and the ship READY_FOR_SHORE; refused MODE with the configuration
invalid or in CONFIG (R118); refused STATE otherwise, and RANGE outside berths 0..3 (R99). That MODE comes before STATE for a berth not
CONNECTED while the configuration is invalid is the model's reading (entry 37). ABORT HANDOVER in SYNCING:
with no close issued the session returns to CONNECTED; with one in flight it is withdrawn and the session waits with abort
pending; a second abort changes nothing; in any other state it is refused STATE (R100). A berth outside 0..3 is answered RANGE:
the model's choice (entry 22). -/
def Obligations.HandoverRequests : Prop :=
  (∀ (s : State) (r : Request) (l : List Request) (a : Byte), AtHead s r l → r.code = 10 → r.args = [a] →
      (berthOf a = none → exec .handoverIn s = .next (s.quiet.answered r l (refused .range)))
        ∧ ∀ b, berthOf a = some b →
          (s.operating = false ∨ s.cfs.invalid = true → exec .handoverIn s = .next (s.quiet.answered r l (refused .mode)))
            ∧ ((s.session b).state ≠ .connected → s.operating = true → s.cfs.invalid = false →
              exec .handoverIn s = .next (s.quiet.answered r l (refused .state)))
            ∧ ((s.session b).state = .connected → s.operating = true → s.cfs.invalid = false →
              ((s.session b).ship ≠ .readyForShore → exec .handoverIn s = .next (s.quiet.answered r l (refused .state)))
                ∧ ((s.session b).ship = .readyForShore →
                  Answers (exec .handoverIn s) fun t =>
                    (t.session b).state = .syncing ∧ (t.session b).phase = .sync ∧ (t.osc b).mode = .track
                      ∧ (t.osc b).phase = (s.osc b).phase ∧ (t.osc b).fset = (s.osc b).fset
                      ∧ (t.sync b).attempt = .evaluating ∧ (t.sync b).stability = 0 ∧ (t.session b).strikes = 0
                      ∧ (t.session b).stageLimit = 4 * (s.berthEntry b).syncLimit.toNat ∧ t.mpm = s.mpm
                      ∧ (∀ i, i ≠ b → t.session i = s.session i)
                      ∧ t.mrh.responses = s.mrh.responses ++ [⟨r.source, r.tag, r.code, acceptedWith []⟩])))
    ∧ (∀ (s : State) (r : Request) (l : List Request) (a : Byte), AtHead s r l → r.code = 11 → r.args = [a] →
        (berthOf a = none → exec .abortHandover s = .next (s.quiet.answered r l (refused .range)))
          ∧ ∀ b, berthOf a = some b →
            ((s.session b).state ≠ .syncing → exec .abortHandover s = .next (s.quiet.answered r l (refused .state)))
              ∧ ((s.session b).state = .syncing → (s.session b).closeIssued = false →
                Answers (exec .abortHandover s) fun t =>
                  (t.session b).state = .connected ∧ (t.sync b).attempt = .inactive ∧ t.bsy.sb = s.bsy.sb
                    ∧ t.mrh.responses = s.mrh.responses ++ [⟨r.source, r.tag, r.code, done⟩])
              ∧ ((s.session b).state = .syncing → (s.session b).closeIssued = true → (s.session b).abortPending = false →
                (s.breaker (.sb b)).command = .close → (s.breaker (.sb b)).withdrawn = false →
                  exec .abortHandover s = .next (((s.quiet.setSession b { s.session b with abortPending := true }).setBreaker (.sb b)
                    { s.breaker (.sb b) with withdrawn := true, withdrawCycle := s.ext }).answered r l (acceptedWith [])))
              ∧ ((s.session b).state = .syncing → (s.session b).closeIssued = true → (s.session b).abortPending = true →
                exec .abortHandover s = .next (s.quiet.answered r l (acceptedWith []))))

/-- HANDOVER OUT: RECALL from SHORE with gens start request set and LOCK, RAMP_OUT from PARALLEL with P_sh 0 and from RAMP_IN with P_sh
unchanged, refused STATE from every other state and RANGE outside berths 0..3 (R101, R109, R110). -/
def Obligations.HandoverOut : Prop :=
  ∀ (s : State) (r : Request) (l : List Request) (a : Byte), AtHead s r l → r.code = 12 → r.args = [a] →
    (berthOf a = none → exec .handoverOut s = .next (s.quiet.answered r l (refused .range)))
      ∧ ∀ b, berthOf a = some b →
        ((s.session b).state = .shore → Answers (exec .handoverOut s) fun t =>
            (t.session b).state = .recall ∧ (t.session b).gensStart = true ∧ (t.session b).phase = .recall
              ∧ (t.osc b).mode = .lock ∧ (t.session b).share = 0
              ∧ t.mrh.responses = s.mrh.responses ++ [⟨r.source, r.tag, r.code, acceptedWith []⟩])
          ∧ ((s.session b).state = .parallel → Answers (exec .handoverOut s) fun t =>
            (t.session b).state = .rampOut ∧ (t.session b).share = 0
              ∧ t.mrh.responses = s.mrh.responses ++ [⟨r.source, r.tag, r.code, done⟩])
          ∧ ((s.session b).state = .rampIn → Answers (exec .handoverOut s) fun t =>
            (t.session b).state = .rampOut ∧ (t.session b).share = (s.session b).share ∧ (t.session b).strikes = 0
              ∧ (t.session b).stageTimer = 0 ∧ (t.session b).gensMayDisconnect = false
              ∧ t.mrh.responses = s.mrh.responses ++ [⟨r.source, r.tag, r.code, done⟩])
          ∧ ((s.session b).state ≠ .shore → (s.session b).state ≠ .parallel → (s.session b).state ≠ .rampIn →
            exec .handoverOut s = .next (s.quiet.answered r l (refused .state)))

/-- CLOSE SESSION: in CONNECTED the allocation entry is cancelled, the end reason is CLOSED and the session drains from drain step
PB; with PB closed, an OPEN is issued for it and the session stays in DRAINING; in any other state it is refused STATE (R113,
R115). ABORT SESSION: refused STATE in IDLE and MODE in CONFIG; otherwise accepted, the allocation entry cancelled, the end
reason ABORTED, the session draining or already through to IDLE, and out of FAULTED no restart and no class in force (R114,
R136). That an IDLE berth is answered STATE in CONFIG too is the model's reading (entry 42). -/
def Obligations.EndingRequests : Prop :=
  (∀ (s : State) (r : Request) (l : List Request) (a : Byte), AtHead s r l → r.code = 13 → r.args = [a] →
      ∀ b, berthOf a = some b →
        ((s.session b).state ≠ .connected → exec .closeSession s = .next (s.quiet.answered r l (refused .state)))
          ∧ ((s.session b).state = .connected → Answers (exec .closeSession s) fun t =>
            (t.session b).endReason = some .closed ∧ ((t.session b).state = .draining ∨ (t.session b).state = .idle)
              ∧ (∀ e ∈ t.mpm.alloc, e.berth ≠ b)
              ∧ t.mrh.responses = s.mrh.responses ++ [⟨r.source, r.tag, r.code, acceptedWith []⟩]
              ∧ ((s.breaker (.pb b)).command = .none → (s.breaker (.pb b)).status = .closed →
                (∀ e ∈ s.mpm.alloc, e.berth ≠ b) →
                (t.session b).state = .draining ∧ (t.session b).drain = .pb ∧ (t.breaker (.pb b)).command = .open
                  ∧ (t.session b).metering = (s.session b).metering)))
    ∧ (∀ (s : State) (r : Request) (l : List Request) (a : Byte), AtHead s r l → r.code = 14 → r.args = [a] →
        ∀ b, berthOf a = some b →
          ((s.session b).state = .idle → exec .abortSession s = .next (s.quiet.answered r l (refused .state)))
            ∧ ((s.session b).state ≠ .idle → s.operating = false →
              exec .abortSession s = .next (s.quiet.answered r l (refused .mode)))
            ∧ ((s.session b).state ≠ .idle → s.operating = true → Answers (exec .abortSession s) fun t =>
              (t.session b).endReason = some .aborted ∧ ((t.session b).state = .draining ∨ (t.session b).state = .idle)
                ∧ (∀ e ∈ t.mpm.alloc, e.berth ≠ b) ∧ ((s.session b).state ≠ .draining → (t.session b).share = 0)
                ∧ ((s.session b).state = .faulted → (t.superv b).tripClass = none ∧ (t.superv b).restartDue = false
                  ∧ (t.superv b).restartTimer = 0)
                ∧ t.mrh.responses = s.mrh.responses ++ [⟨r.source, r.tag, r.code, acceptedWith []⟩]))

/-- CLEAR FAULT is judged in the order of its tests: STATE outside FAULTED, MODE for a latched class in OPERATE, STATE while a breaker of
the berth is not at rest; a request that passes ends the restart, drops the class, sets the end reason to FAULT, and with no module
STARTING or BOUND the session is IDLE in the same event (R135, R116). -/
def Obligations.ClearFault : Prop :=
  ∀ (s : State) (r : Request) (l : List Request) (a : Byte), AtHead s r l → r.code = 15 → r.args = [a] →
    (berthOf a = none → exec .clearFault s = .next (s.quiet.answered r l (refused .range)))
      ∧ ∀ b, berthOf a = some b →
        ((s.session b).state ≠ .faulted → exec .clearFault s = .next (s.quiet.answered r l (refused .state)))
          ∧ ((s.session b).state = .faulted → (s.superv b).tripClass = some .latched → s.operating = true →
            exec .clearFault s = .next (s.quiet.answered r l (refused .mode)))
          ∧ ((s.session b).state = .faulted → ¬ ((s.superv b).tripClass = some .latched ∧ s.operating = true) →
            ((breakerAtRest (s.breaker (.pb b)) && breakerAtRest (s.breaker (.sb b))) = false →
                exec .clearFault s = .next (s.quiet.answered r l (refused .state)))
              ∧ (breakerAtRest (s.breaker (.pb b)) = true → breakerAtRest (s.breaker (.sb b)) = true →
                Answers (exec .clearFault s) fun t =>
                  (t.superv b).tripClass = none ∧ (t.superv b).restartDue = false ∧ (t.superv b).restartTimer = 0
                    ∧ (t.superv b).tripKind = (s.superv b).tripKind ∧ (t.session b).endReason = some .fault
                    ∧ ((s.session b).starting = 0 → (s.session b).bound = 0 →
                      (t.session b).state = .idle ∧ (t.session b).fnom = none ∧ (t.session b).vnom = none
                        ∧ (t.superv b).armed = false ∧ t.isLatched (.berth b) 5 = true)
                    ∧ t.mrh.responses = s.mrh.responses ++ [⟨r.source, r.tag, r.code, done⟩]))

/-- PB_CLOSE_RETRY presents the plug breaker's close again: from NONE and OPEN a CLOSE is issued and the asking ends, from a record
that refuses it, an OPEN in force or status MOVING or FAULT, the asking goes on (R96, R77); that PB asked is set with the issue and
stays clear at a refusal is the model's reading (entry 26). STAGE_LIMIT_EXPIRY, first strike: one strike, the timer back at 0, the state
kept, STAGE_SLOW latched; second strike: the outcome the table gives for the state (R98). -/
def Obligations.SessionLimits : Prop :=
  (∀ (s : State) (b : Berth), DueNow s (.pbCloseRetry b) → (s.session b).state = .energising → (s.session b).pbRetry = true →
      ((s.breaker (.pb b)).command = .none → (s.breaker (.pb b)).status = .open →
          exec (.pbCloseRetry b) s = .next (((s.without (.pbCloseRetry b)).setBreaker (.pb b) { s.breaker (.pb b) with
            command := .close, issue := s.ext, withdrawn := false, limit := 4 * (s.breakerEntry (.pb b)).limit.toNat,
            measuring := true }).setSession b { s.session b with pbAsked := true, pbRetry := false }))
        ∧ ((s.breaker (.pb b)).command = .open
            ∨ (s.breaker (.pb b)).command = .none ∧ ((s.breaker (.pb b)).status = .moving ∨ (s.breaker (.pb b)).status = .fault) →
          exec (.pbCloseRetry b) s = .next ((s.without (.pbCloseRetry b)).setSession b
            { s.session b with pbAsked := false, pbRetry := true })))
    ∧ ((∀ (s : State) (b : Berth), DueNow s (.stageLimitExpiry b) → stageRunning (s.session b) = true →
          (s.session b).stageLimit ≤ (s.session b).stageTimer → (s.session b).strikes = 0 →
            Answers (exec (.stageLimitExpiry b) s) fun t =>
              (t.session b).strikes = 1 ∧ (t.session b).stageTimer = 0 ∧ (t.session b).state = (s.session b).state
                ∧ t.isLatched (.berth b) 6 = true)
        ∧ ∀ (s : State) (b : Berth), DueNow s (.stageLimitExpiry b) → stageRunning (s.session b) = true →
          (s.session b).stageLimit ≤ (s.session b).stageTimer → (s.session b).strikes = 1 →
            Answers (exec (.stageLimitExpiry b) s) fun t =>
              ((s.session b).state = .reserving → (t.session b).state = .idle ∧ (t.session b).endReason = some .noModules
                  ∧ ∀ e ∈ t.mpm.alloc, e.berth ≠ b)
                ∧ ((s.session b).state = .energising → (t.session b).endReason = some .energiseTimeout
                  ∧ ((t.session b).state = .draining ∨ (t.session b).state = .idle))
                ∧ ((s.session b).state = .syncing → (t.session b).state = .connected ∧ t.isLatched (.berth b) 7 = true)
                ∧ ((s.session b).state = .rampIn → (t.session b).state = .rampOut
                  ∧ (t.session b).share = (s.session b).share ∧ t.isLatched (.berth b) 9 = true)
                ∧ ((s.session b).state = .recall → (t.session b).state = .shore ∧ (t.session b).gensStart = false
                  ∧ t.isLatched (.berth b) 8 = true)
                ∧ ((s.session b).state = .rampOut → t.isLatched (.berth b) 9 = true
                  ∧ ((t.session b).state = .parting ∨ (t.session b).state = .connected))
                ∧ ((s.session b).state = .parting → s.classFor .sbFail = .warn →
                  (t.session b).state = .parting ∧ (t.session b).strikes = 2 ∧ (t.superv b).warnedKind = some .sbFail)
                ∧ ((s.session b).state = .parting → s.classFor .sbFail ≠ .warn → (s.session b).endReason ≠ some .fault →
                  (t.session b).state = .faulted ∧ (t.superv b).tripKind = some .sbFail ∧ t.isLatched (.berth b) 11 = true))

/-- SETTLE_END takes PARALLEL to RAMP_IN with P_sh and the step timer at 0 (R101); RAMP_STEP takes one step of at least 1 kW: in RAMP_IN
toward the cap and only when the budget holds it whole, in RAMP_OUT down to 0 without the budget, each against the cap formed
afresh (R102, R104, R106). -/
def Obligations.SettleAndRamp : Prop :=
  (∀ (s : State) (b : Berth), DueNow s (.settleEnd b) → (s.session b).state = .parallel → (s.session b).settle = 0 →
      Answers (exec (.settleEnd b) s) fun t =>
        (t.session b).state = .rampIn ∧ (t.session b).share = 0 ∧ (t.session b).stepTimer = 0 ∧ (t.session b).strikes = 0
          ∧ (t.osc b).mode = .lock ∧ t.ses.budget = s.ses.budget ∧ t.mpm = s.mpm ∧ t.bsy.sb = s.bsy.sb)
    ∧ ∀ (s : State) (b : Berth), DueNow s (.rampStep b) → 399 ≤ (s.session b).stepTimer →
      let cap := s.boundRating b * (s.berthEntry b).loading.toNat / 100
      let p := min (s.session b).share cap
      let size := max 1 ((s.berthEntry b).rampRate.toNat / 10)
      ((s.session b).state = .rampIn → Answers (exec (.rampStep b) s) fun t =>
          (t.session b).stepTimer = 0 ∧ (t.session b).cap = cap ∧ (t.session b).state = .rampIn
            ∧ (min size (cap - p) ≤ s.ses.budget →
              (t.session b).share = p + min size (cap - p) ∧ t.ses.budget = s.ses.budget - min size (cap - p))
            ∧ (s.ses.budget < min size (cap - p) → (t.session b).share = p ∧ t.ses.budget = s.ses.budget)
            ∧ (∀ i, i ≠ b → t.session i = s.session i) ∧ t.mpm = s.mpm ∧ t.bsy = s.bsy ∧ t.mbu = s.mbu)
        ∧ ((s.session b).state = .rampOut → Answers (exec (.rampStep b) s) fun t =>
          (t.session b).stepTimer = 0 ∧ (t.session b).cap = cap ∧ (t.session b).state = .rampOut
            ∧ (t.session b).share = p - size ∧ t.ses.budget = s.ses.budget
            ∧ (0 < p → (t.session b).quietSeconds = 0)
            ∧ (∀ i, i ≠ b → t.session i = s.session i) ∧ t.mpm = s.mpm ∧ t.bsy = s.bsy ∧ t.mbu = s.mbu)

/-! ## Supervision timers and restarts -/

/-- A fault presented: nothing in IDLE; a WARN-class one changes the warning record and its flag only; any other takes a session not yet
FAULTED into FAULTED, fills the trip record, opens both breakers where they are not open, leaves no module STARTING or BOUND for the
berth and no allocation entry, and sets the restart timer by the class (R129, R130, R80, R70). A later fault, in FAULTED, keeps the
trip's kind, cycle and time, is counted up to 255 with its kind, raises the class in force to its own when that is more severe, is
presented to the breakers and the pool again, and sets the restart timer by the class then in force (R131); that it gives its class
where none is in force is the model's reading (entry 28). Either way every module STARTING, BOUND or STOPPING for the berth ends STOPPING
for it with nothing queued: an open in force is kept with its age, a module whose breaker is not open or whose CLOSE is in force has a
PROTECTION_OPEN in force at age 0 and is out of the stop phase, and one that needs no open is in it (R70). -/
def Obligations.FaultTaken : Prop :=
  (∀ (s : State) (b : Berth) (k : FaultKind), (s.session b).state = .idle → s.fault b k = s)
    ∧ (∀ (s : State) (b : Berth) (k : FaultKind), (s.session b).state ≠ .idle → s.classFor k = .warn →
      s.fault b k = (s.setSuperv b { s.superv b with
        warnedKind := some k, warnCount := min 65535 ((s.superv b).warnCount + 1) }).latchBerth b .warn)
    ∧ (∀ (s : State) (b : Berth) (k : FaultKind), (s.session b).state = .faulted → (s.session b).endReason ≠ some .fault →
      s.classFor k ≠ .warn →
        let t := s.fault b k
        let c := match (s.superv b).tripClass with
          | some d => if severity d < severity (s.classFor k) then s.classFor k else d
          | none => s.classFor k
        (t.session b).state = .faulted ∧ (t.superv b).laterFaults = min 255 ((s.superv b).laterFaults + 1)
          ∧ (t.superv b).laterKind = some k ∧ (t.superv b).tripClass = some c ∧ (t.superv b).tripKind = (s.superv b).tripKind
          ∧ (t.superv b).tripCycle = (s.superv b).tripCycle ∧ (t.superv b).tripTime = (s.superv b).tripTime
          ∧ (t.superv b).restartTimer = (if c = .restart then 4 * s.cfs.tables.station.restartDelay.toNat else 0)
          ∧ (t.superv b).restartDue = false ∧ (t.superv b).attempts = (s.superv b).attempts ∧ t.isLatched (.berth b) 11 = true
          ∧ (∀ m, (t.module m).berth = some b → (t.module m).state ≠ .starting ∧ (t.module m).state ≠ .bound)
          ∧ ∀ x, x = .pb b ∨ x = .sb b →
            (((s.breaker x).command = .close ∨ (s.breaker x).status ≠ .open) → (t.breaker x).command = .open)
              ∧ ((s.breaker x).command = .open ∨ (s.breaker x).command = .none ∧ (s.breaker x).status = .open →
                t.breaker x = s.breaker x))
    ∧ (∀ (s : State) (b : Berth) (k : FaultKind), (s.session b).state ≠ .idle → (s.session b).state ≠ .faulted →
      (s.session b).endReason ≠ some .fault → s.classFor k ≠ .warn →
        let t := s.fault b k
        let c := if (s.superv b).attempts = 2 then .latched else s.classFor k
        (t.session b).state = .faulted ∧ (t.session b).phase = .none ∧ (t.session b).share = 0 ∧ (t.osc b).mode = .free
          ∧ (t.superv b).tripKind = some k ∧ (t.superv b).tripClass = some c ∧ (t.superv b).tripCycle = s.rif.cycle
          ∧ (t.superv b).tripTime = s.ctu.time ∧ (t.superv b).laterFaults = 0 ∧ (t.superv b).laterKind = none
          ∧ (t.superv b).restartTimer = (if c = .restart then 4 * s.cfs.tables.station.restartDelay.toNat else 0)
          ∧ (t.superv b).restartDue = false ∧ (t.superv b).attempts = (s.superv b).attempts ∧ t.isLatched (.berth b) 11 = true
          ∧ (∀ e ∈ t.mpm.alloc, e.berth ≠ b)
          ∧ (∀ m, (t.module m).berth = some b → (t.module m).state ≠ .starting ∧ (t.module m).state ≠ .bound)
          ∧ ∀ x, x = .pb b ∨ x = .sb b →
            (((s.breaker x).command = .close ∨ (s.breaker x).status ≠ .open) → (t.breaker x).command = .open)
              ∧ ((s.breaker x).command = .none → (s.breaker x).status = .open → t.breaker x = s.breaker x))
    ∧ ∀ (s : State) (b : Berth) (k : FaultKind) (m : ModuleId), (s.session b).state ≠ .idle → s.classFor k ≠ .warn →
      (s.module m).berth = some b →
      ((s.module m).state = .starting ∨ (s.module m).state = .bound ∨ (s.module m).state = .stopping) →
        let r := s.module m
        let t := s.fault b k
        (t.module m).state = .stopping ∧ (t.module m).berth = some b ∧ (∀ e ∈ t.mpm.switching, e.module ≠ m)
          ∧ (r.op = .open ∨ r.op = .protectionOpen →
            (t.module m).op = r.op ∧ (t.module m).opAge = r.opAge ∧ (t.module m).stopPhase = false)
          ∧ (r.op = .close ∨ r.op = .none ∧ r.breaker ≠ .open →
            (t.module m).op = .protectionOpen ∧ (t.module m).opAge = 0 ∧ (t.module m).stopPhase = false)
          ∧ (r.op = .none → r.breaker = .open →
            (t.module m).op = .none ∧ (t.module m).stopPhase = true ∧ (r.stopPhase = false → (t.module m).run = .stop))

/-- BLANK_END ends blanking (R124). RESTART_DUE sets restart due once the timer of a berth that awaits a restart is at 0 (R133).
RESTART, with restart due set and every condition met, counts an attempt, drops the class, keeps the session's identity and takes the
session out of FAULTED into RESERVING, which a grant in the same event may take on to ENERGISING; with a condition unmet nothing
happens and restart due stays (R133, R134). The four protection functions judge only within their spans: a passing judgement clears the
count and the raised mark, a failing one raises the count up to the filter, and the one that reaches it with the mark clear sets the
mark and takes the fault; a blank timer above 0 clears the overcurrent filter instead, and an absent per-mille leaves the voltage filter
as it is (R124 to R128). An entry into RESERVING or IDLE disarms the berth and clears every filter, and an entry into another state those
of the functions whose span does not hold it (R124). That the voltage span holds in drain step SB after an uncommanded PB open is the
model's reading (entry 42). -/
def Obligations.SupervisionTimers : Prop :=
  (∀ (s : State) (b : Berth), DueNow s (.blankEnd b) → (s.superv b).blank = 1 →
      exec (.blankEnd b) s = .next ((s.without (.blankEnd b)).setSuperv b { s.superv b with blank := 0 }))
    ∧ (∀ (s : State) (b : Berth), DueNow s (.restartDue b) → s.operating = true → (s.session b).state = .faulted →
      (s.superv b).tripClass = some .restart → (s.superv b).restartTimer = 0 →
        exec (.restartDue b) s = .next ((s.without (.restartDue b)).setSuperv b { s.superv b with restartDue := true }))
    ∧ (∀ (s : State) (b : Berth), DueNow s (.restart b) → (s.session b).state = .faulted →
      (s.superv b).tripClass = some .restart → (s.superv b).restartDue = true → s.restartConditions b = true →
        Answers (exec (.restart b) s) fun t =>
          (t.superv b).attempts = (s.superv b).attempts + 1 ∧ (t.superv b).restartDue = false ∧ (t.superv b).tripClass = none
            ∧ (t.session b).number = (s.session b).number ∧ (t.session b).account = (s.session b).account
            ∧ (t.session b).fnom = (s.session b).fnom ∧ (t.session b).vnom = (s.session b).vnom
            ∧ (t.session b).requested = (s.session b).requested
            ∧ ((t.session b).state = .reserving ∨ (t.session b).state = .energising)
            ∧ t.isLatched (.berth b) 12 = true)
    ∧ (∀ (s : State) (b : Berth), DueNow s (.restart b) → s.restartConditions b = false →
      exec (.restart b) s = .next (s.without (.restart b)))
    ∧ (∀ (s : State) (b : Berth),
      let v := s.superv b
      let t := s.superviseCurrent b
      (v.armed = false ∨ (s.session b).state = .idle → t = s)
        ∧ (v.armed = true → (s.session b).state ≠ .idle →
          (0 < v.blank → t = s.setSuperv b { v with overcurrent := ⟨0, false⟩ })
            ∧ (v.blank = 0 → JudgedAs s t b .overcurrent (s.berthEntry b).ocFilter.toNat
              ((s.berthEntry b).iTrip.toNat < (s.meas (.bus b)).peak) v.overcurrent fun f => { v with overcurrent := f })))
    ∧ (∀ (s : State) (b : Berth) (p : Point), p = .bus b ∨ p = .plug b ∨ p = .ship b →
      let v := s.superv b
      let e := s.berthEntry b
      let x := s.session b
      let y := (s.meas p).permille
      let t := s.superviseVoltage p
      let u := s.superviseFrequency p
      let judged := v.armed = true ∧ x.state ≠ .idle ∧ x.state ≠ .reserving ∧ x.state ≠ .faulted
        ∧ (x.state = .draining → x.drain ≠ .done) ∧ (p = .plug b → (s.breaker (.pb b)).status = .closed)
        ∧ (p = .ship b → (s.breaker (.sb b)).status = .closed)
      (¬ judged → t = s ∧ u = s)
        ∧ (judged →
          (y.l1 = none ∨ y.l2 = none ∨ y.l3 = none → t = s)
            ∧ (∀ a c d, y = ⟨some a, some c, some d⟩ → JudgedAs s t b .busVoltage e.vFilter.toNat
              (a < e.vLow.toNat ∨ c < e.vLow.toNat ∨ d < e.vLow.toNat
                ∨ e.vHigh.toNat < a ∨ e.vHigh.toNat < c ∨ e.vHigh.toNat < d)
              (watchedGet v.voltage p) fun f => { v with voltage := watchedSet v.voltage p f })
            ∧ ∀ n, x.fnom = some n → JudgedAs s u b .busFrequency 5
              ((s.meas p).freq < n - n * 15 / 1000 ∨ n + n * 15 / 1000 < (s.meas p).freq)
              (watchedGet v.frequency p) fun f => { v with frequency := watchedSet v.frequency p f }))
    ∧ (∀ (s : State) (b : Berth),
      let v := s.superv b
      let t := s.superviseReverse b
      let st := (s.session b).state
      let judged := st = .parallel ∨ st = .rampIn ∨ st = .recall ∨ st = .rampOut
      (¬ judged → t = s)
        ∧ (judged → JudgedAs s t b .reversePower 2 ((s.meas (.bus b)).lastPower < -((s.berthEntry b).reverse.toNat : Int)) v.reverse
          fun f => { v with reverse := f }))
    ∧ ∀ (v : Supervision) (st : SessionState),
      (st = .reserving ∨ st = .idle → filtersAtEntry st v = { v with
          armed := false, blank := 0, overcurrent := ⟨0, false⟩, reverse := ⟨0, false⟩,
          voltage := ⟨⟨0, false⟩, ⟨0, false⟩, ⟨0, false⟩⟩, frequency := ⟨⟨0, false⟩, ⟨0, false⟩, ⟨0, false⟩⟩ })
        ∧ (st = .faulted → filtersAtEntry st v = { v with
          reverse := ⟨0, false⟩, voltage := ⟨⟨0, false⟩, ⟨0, false⟩, ⟨0, false⟩⟩,
          frequency := ⟨⟨0, false⟩, ⟨0, false⟩, ⟨0, false⟩⟩ })
        ∧ (st = .energising ∨ st = .connected ∨ st = .syncing ∨ st = .shore ∨ st = .parting ∨ st = .draining →
          filtersAtEntry st v = { v with reverse := ⟨0, false⟩ })
        ∧ (st = .parallel ∨ st = .rampIn ∨ st = .recall ∨ st = .rampOut → filtersAtEntry st v = v)

/-! ## Clock and tariffs -/

/-- SECOND_TICK advances the station time by one second, through the day change at 86,400, with the weekday, and the phase count goes to 0
(R137); a block end that the new time reaches becomes due (R147), and so, from a clock in range, does an activation (R144); without an
activation the band is recomputed at once (R145), and with neither due a band change presents its account boundary at once (R146).
TARIFF_ACTIVATION makes the pending table active and the pending one empty, drops the activation time, latches TARIFF_ACTIVATED and
recomputes the band (R144); with no block end to come it presents TARIFF_CHANGE. DEMAND_BLOCK_END restarts the block at the current time
and presents its end and then the tick's account boundary to every meter: one that is not running is left as it is, one that has taken its
second applies the block end to the record that the boundary closes, and any other holds both over (R146, R147, R155, R156, R158).
HELD_OVER_APPLY applies what a meter holds, the block end first (R155). An event named while a check of a tick is still due comes after it
(R137). That an event of the part acts when its command names it is the model's form of these rules (entry 1). -/
def Obligations.SecondEvents : Prop :=
  (∀ s : State, DueNow s .secondTick → 3999 ≤ s.ctu.phaseCount → Answers (exec .secondTick s) fun t =>
      (s.ctu.time.second < 86399 → t.ctu.time = ⟨s.ctu.time.day, s.ctu.time.second + 1, s.ctu.time.weekday⟩)
        ∧ (s.ctu.time.second = 86399 → t.ctu.time = ⟨(s.ctu.time.day + 1) % 65536, 0, (s.ctu.time.weekday + 1) % 7⟩)
        ∧ t.ctu.phaseCount = 0 ∧ t.ctu.clockUnset = s.ctu.clockUnset ∧ t.ctu.active = s.ctu.active
        ∧ t.ctu.pendingTable = s.ctu.pendingTable ∧ t.ctu.activation = s.ctu.activation
        ∧ t.ctu.block = ⟨s.ctu.block.start, s.ctu.block.elapsed + 1⟩ ∧ t.mfe = s.mfe ∧ t.ses = s.ses ∧ t.mpm = s.mpm ∧ t.bsy = s.bsy
        ∧ (Due.demandBlockEnd ∈ t.due ↔ t.ctu.time.second % 900 = 0)
        ∧ (ClockLaw s → (Due.tariffActivation ∈ t.due ↔ ∃ x, s.ctu.activation = some x
          ∧ (timeAtOrBefore x.1 x.2 t.ctu.time = true ∨ s.ctu.time.second = 86399 ∧ s.ctu.time.day = 65535)))
        ∧ (Due.tariffActivation ∉ t.due → t.ctu.band = bandOf s.ctu.active t.ctu.time)
        ∧ (Due.tariffActivation ∈ t.due ∨ Due.demandBlockEnd ∈ t.due → t.mbu = s.mbu ∧ t.ctu.tick.isSome = true)
        ∧ (Due.tariffActivation ∉ t.due → Due.demandBlockEnd ∉ t.due →
          t.ctu.tick = none
            ∧ (bandDiffers s.ctu.band t.ctu.band = false → t.mbu = s.mbu)
            ∧ (bandDiffers s.ctu.band t.ctu.band = true → ∀ b, hasHeld (s.meter b) = false → (s.meter b).running = true →
              (s.meter b).lastTag ≠ some (s.rif.ext - 1) → t.meter b = { s.meter b with
                heldBoundary := some
                  ⟨.bandChange, t.ctu.time, t.ctu.band.band, t.ctu.band.price, t.ctu.band.tariff, s.ctu.clockUnset⟩,
                heldFor := s.rif.ext - 1 })))
    ∧ (∀ s : State, DueNow s .tariffActivation → activationDue s.ctu = true → Answers (exec .tariffActivation s) fun t =>
      t.ctu.active = s.ctu.pendingTable ∧ (∀ i, vget t.ctu.pendingTable i = none) ∧ t.ctu.activation = none
        ∧ t.isLatched .station 7 = true ∧ t.ctu.band = bandOf s.ctu.pendingTable s.ctu.time ∧ t.ctu.time = s.ctu.time
        ∧ (Due.demandBlockEnd ∈ s.due → t.mbu = s.mbu)
        ∧ (TickLaw s → Due.demandBlockEnd ∉ s.due → t.ctu.tick = none
          ∧ ∀ b, hasHeld (s.meter b) = false → (s.meter b).running = true → (s.meter b).lastTag ≠ some (s.rif.ext - 1) →
            t.meter b = { s.meter b with
              heldBoundary := some
                ⟨.tariffChange, s.ctu.time, t.ctu.band.band, t.ctu.band.price, t.ctu.band.tariff, s.ctu.clockUnset⟩,
              heldFor := s.rif.ext - 1 }))
    ∧ (∀ (s : State) (w : TickWork), TickLaw s → s.ctu.tick = some w → DueNow s .demandBlockEnd →
      Answers (exec .demandBlockEnd s) fun t =>
        t.ctu.block = ⟨s.ctu.time, 0⟩ ∧ t.ctu.time = s.ctu.time ∧ t.ctu.band = s.ctu.band ∧ t.ctu.tick = none
          ∧ (∀ d, d ≠ .demandBlockEnd → (d ∈ t.due ↔ d ∈ s.due)) ∧ Due.demandBlockEnd ∉ t.due
          ∧ let reason := if w.activated then some CloseReason.tariffChange else if w.dayChange then some .dayEnd
              else if bandDiffers w.oldBand s.ctu.band then some .bandChange else none
            ∀ b, hasHeld (s.meter b) = false →
              ((s.meter b).running = false → t.meter b = s.meter b)
                ∧ ((s.meter b).running = true → (s.meter b).lastTag ≠ some (s.rif.ext - 1) →
                  t.meter b = { s.meter b with
                    heldBlock := some ⟨s.ctu.block.start, s.ctu.block.elapsed⟩, heldFor := s.rif.ext - 1,
                    heldBoundary := reason.map fun r =>
                      ⟨r, s.ctu.time, s.ctu.band.band, s.ctu.band.price, s.ctu.band.tariff, s.ctu.clockUnset⟩ })
                ∧ ((s.meter b).running = true → (s.meter b).lastTag = some (s.rif.ext - 1) →
                  (t.meter b).blockSum = 0
                    ∧ (reason = none → (t.meter b).record.map (·.peakDemand)
                      = (s.meter b).record.map (fun o => max o.peakDemand (s.meter b).blockSum))
                    ∧ ∀ r o, reason = some r → (s.meter b).record = some o → (s.meter b).deferral = none →
                      s.mbu.ring.length ≤ 57 → s.mbu.nextRecord ≤ 4294967289 →
                        (t.meter b).record.map (·.peakDemand) = some 0
                          ∧ ∃ k ∈ t.mbu.ring, k.berth = b ∧ k.reason = r ∧ k.openedAt = o.openedAt ∧ k.closedAt = s.ctu.time
                            ∧ k.peakDemand = max o.peakDemand (s.meter b).blockSum))
    ∧ (∀ (s : State) (b : Berth), DueNow s (.heldOverApply b) → hasHeld (s.meter b) = true →
      Answers (exec (.heldOverApply b) s) fun t =>
        hasHeld (t.meter b) = false ∧ (∀ i, i ≠ b → t.meter i = s.meter i)
          ∧ ((s.meter b).running = true → (s.meter b).heldBlock.isSome = true → (t.meter b).blockSum = 0)
          ∧ ((s.meter b).heldBoundary = none → (s.meter b).running = true → (s.meter b).heldBlock.isSome = true →
            (t.meter b).record.map (·.peakDemand) = (s.meter b).record.map (fun r => max r.peakDemand (s.meter b).blockSum))
          ∧ ∀ a o, (s.meter b).heldBlock.isSome = true → (s.meter b).heldBoundary = some a → (s.meter b).running = true →
            (s.meter b).record = some o → (s.meter b).deferral = none → s.mbu.ring.length < 64 → s.mbu.nextRecord ≤ 4294967295 →
              (t.meter b).record.map (·.peakDemand) = some 0
                ∧ ∃ k, t.mbu.ring = s.mbu.ring ++ [k] ∧ k.berth = b ∧ k.reason = a.reason ∧ k.closedAt = a.time
                  ∧ k.peakDemand = max o.peakDemand (s.meter b).blockSum)
    ∧ ∀ (s : State) (c : Instr) (d : Due), TickLaw s → s.resetHeld = false → dueOf c = some d → d ∈ s.due → d ≠ .tariffActivation →
      (Due.tariffActivation ∈ s.due → ∃ t, exec .tariffActivation s = .next t ∧ exec c s = exec c t)
        ∧ (d ≠ .demandBlockEnd → Due.tariffActivation ∉ s.due → Due.demandBlockEnd ∈ s.due →
          ∃ t, exec .demandBlockEnd s = .next t ∧ exec c s = exec c t)

/-- The band in force of a station time (R145): of the entries whose mask includes the weekday and whose start is not after the minute
one with the greatest start; NO_TARIFF with band 0 and price 0 when no entry qualifies. -/
def Obligations.BandInForce : Prop :=
  ∀ (t : Vector (Option TariffEntry) 16) (time : StationTime),
    let ok : TariffEntry → Bool := fun e => e.mask.getLsbD time.weekday && e.start ≤ time.second / 60
    ((∀ i e, vget t i = some e → ok e = false) → bandOf t time = ⟨0, 0, none, false⟩)
      ∧ ((∃ i e, vget t i = some e ∧ ok e = true) →
        ∃ i e, vget t i = some e ∧ ok e = true ∧ bandOf t time = ⟨e.band, e.price, some i, true⟩
          ∧ ∀ j x, vget t j = some x → ok x = true → x.start ≤ e.start)

/-- SET CLOCK, WRITE TARIFF ENTRY, ACTIVATE TARIFF and CANCEL ACTIVATION judged in order, with what each does (R139 to R143). SET CLOCK
restarts the block at every running meter without comparing its sum and presents a CLOCK_SET boundary to it: its record is closed and the
next one opened at the new time, or the closure deferred; a stopped meter is left as it is; an activation that it makes empties the
pending table and latches TARIFF_ACTIVATED (R139, R144, R147, R156). The arguments of WRITE TARIFF ENTRY are a slot below 16, a present
byte of 0, or of 1 with an entry in range; that RANGE comes before PENDING is the model's reading (entry 48). A table is valid when every
weekday opens at minute 0 and has no two entries at one start minute; the first failure is the earliest weekday's, its gap first (R141). -/
def Obligations.ClockRequests : Prop :=
  (∀ (s : State) (r : Request) (l : List Request), AtHead s r l → r.code = 5 → r.args.length = 6 →
      let t0 : StationTime := ⟨natOf (field r.args 0 2), natOf (field r.args 2 3), natOf (field r.args 5 1)⟩
      (86399 < t0.second ∨ 6 < t0.weekday → exec .setClock s = .next (s.quiet.answered r l (refused .range)))
        ∧ (t0.second ≤ 86399 → t0.weekday ≤ 6 → Answers (exec .setClock s) fun t =>
          t.ctu.time = t0 ∧ t.ctu.clockUnset = false ∧ t.ctu.block = ⟨t0, 0⟩ ∧ t.ctu.phaseCount = s.ctu.phaseCount
            ∧ t.ctu.band = bandOf t.ctu.active t0
            ∧ ((∀ d n, s.ctu.activation = some (d, n) → timeAtOrBefore d n t0 = false) →
              t.ctu.active = s.ctu.active ∧ t.ctu.pendingTable = s.ctu.pendingTable ∧ t.ctu.activation = s.ctu.activation)
            ∧ ((∃ d n, s.ctu.activation = some (d, n) ∧ timeAtOrBefore d n t0 = true) →
              t.ctu.active = s.ctu.pendingTable ∧ t.ctu.activation = none ∧ (∀ i, vget t.ctu.pendingTable i = none)
                ∧ t.isLatched .station 7 = true)
            ∧ (∀ b, let m := s.meter b
              let e : BandEntry := ⟨t.ctu.band.band, t.ctu.band.price, 0, 0, 0, 0, t.ctu.band.tariff⟩
              hasHeld (t.meter b) = false
                ∧ (hasHeld m = false → m.running = false → t.meter b = m)
                ∧ (m.running = true → (t.meter b).blockSum = 0)
                ∧ ∀ o, hasHeld m = false → m.running = true → m.record = some o →
                  (m.deferral = none → s.mbu.ring.length ≤ 57 → s.mbu.nextRecord ≤ 4294967289 →
                    t.meter b = { m with
                        blockSum := 0, price := e.price,
                        record := some {
                          session := m.session, account := m.account, openedAt := t0, entries := [e], peakDemand := 0,
                          substituted := 0, gap := 0, mixed := false, unverified := s.cfs.invalid, clockUnset := false,
                          noTariff := !e.tariff } }
                      ∧ ∃ k ∈ t.mbu.ring, k.berth = b ∧ k.reason = .clockSet ∧ k.openedAt = o.openedAt ∧ k.closedAt = t0
                        ∧ k.peakDemand = o.peakDemand)
                  ∧ (m.deferral = none → 64 ≤ s.mbu.ring.length ∨ 4294967295 < s.mbu.nextRecord → t.meter b = { m with
                      blockSum := 0, price := e.price,
                      record := some { o with entries := o.entries ++ [e], noTariff := o.noTariff || !e.tariff },
                      deferral := some ⟨.clockSet, t0, some false, o.entries.length, none⟩ })
                  ∧ (m.deferral ≠ none → o.entries.length < 4 → t.meter b = { m with
                      blockSum := 0, price := e.price,
                      record := some { o with entries := o.entries ++ [e], noTariff := o.noTariff || !e.tariff } }))
            ∧ t.mrh.requests = l ∧ t.mrh.responses = s.mrh.responses ++ [⟨r.source, r.tag, r.code, done⟩]))
    ∧ (∀ (s : State) (r : Request) (l : List Request), AtHead s r l → r.code = 6 → r.args.length = 8 →
      (tariffArgument r.args = none → exec .writeTariffEntry s = .next (s.quiet.answered r l (refused .range)))
        ∧ ∀ i e, tariffArgument r.args = some (i, e) →
          (s.ctu.activation ≠ none → exec .writeTariffEntry s = .next (s.quiet.answered r l (refused .pending)))
            ∧ (s.ctu.activation = none → exec .writeTariffEntry s
              = .next (({ s.quiet with ctu := { s.ctu with pendingTable := vset s.ctu.pendingTable i e } } : State).answered r l done)))
    ∧ (∀ (s : State) (r : Request) (l : List Request), AtHead s r l → r.code = 7 → r.args.length = 5 →
      let day := natOf (field r.args 0 2)
      let second := natOf (field r.args 2 3)
      (86399 < second → exec .activateTariff s = .next (s.quiet.answered r l (refused .range)))
        ∧ (second ≤ 86399 → s.ctu.activation ≠ none → exec .activateTariff s = .next (s.quiet.answered r l (refused .pending)))
        ∧ (second ≤ 86399 → s.ctu.activation = none → ∀ f, tariffFault s.ctu.pendingTable = some f →
          exec .activateTariff s = .next (s.quiet.answered r l (refusedWith .inconsistent (tariffDetail f))))
        ∧ (second ≤ 86399 → s.ctu.activation = none → tariffFault s.ctu.pendingTable = none →
          exec .activateTariff s
            = .next (({ s.quiet with ctu := { s.ctu with activation := some (day, second) } } : State).answered r l (acceptedWith []))))
    ∧ (∀ (s : State) (r : Request) (l : List Request), AtHead s r l → r.code = 8 → r.args = [] →
      (s.ctu.activation = none → exec .cancelActivation s = .next (s.quiet.answered r l (refused .state)))
        ∧ (s.ctu.activation ≠ none → exec .cancelActivation s
          = .next (({ s.quiet with ctu := { s.ctu with activation := none } } : State).answered r l done)))
    ∧ (∀ (l : List Byte), l.length = 8 →
      let e : TariffEntry := ⟨natOf (field l 2 1), byteAt l 3, natOf (field l 4 2), natOf (field l 6 2)⟩
      let empties := byteAt l 1 = 0
      let enters := byteAt l 1 = 1 ∧ e.band ≤ 15 ∧ 1 ≤ e.mask.toNat ∧ e.mask.toNat ≤ 127 ∧ e.start ≤ 1439
      (16 ≤ (byteAt l 0).toNat ∨ ¬ (empties ∨ enters) → tariffArgument l = none)
        ∧ ∀ i : Slot, (byteAt l 0).toNat = i.val →
          (empties → tariffArgument l = some (i, none)) ∧ (enters → tariffArgument l = some (i, some e)))
    ∧ ∀ (t : Vector (Option TariffEntry) 16),
      (tariffFault t = none ↔ ∀ d, d < 7 → OpensDay t d ∧ StartsApart t d)
        ∧ (∀ d, d < 7 → (∀ c, c < d → OpensDay t c ∧ StartsApart t c) → ¬ OpensDay t d → tariffFault t = some (.gap d))
        ∧ ∀ d, d < 7 → (∀ c, c < d → OpensDay t c ∧ StartsApart t c) → OpensDay t d → ¬ StartsApart t d →
          ∃ i j e x, i < j ∧ vget t i = some e ∧ vget t j = some x ∧ e.mask.getLsbD d = true ∧ x.mask.getLsbD d = true
            ∧ e.start = x.start ∧ tariffFault t = some (.overlap d e.start i.val)

/-! ## Metering and billing -/

/-- Energy and charge of one second are exact: energy and remainder hold the whole numerator, and charge and carry the whole price, with
remainder and carry below their units; a second of raw sum 0 has energy 0; export makes no charge (R152, R153). -/
def Obligations.EnergyAndCharge : Prop :=
  (∀ (e price : Nat) (x : BandEntry),
      (importInto e price x).charge = x.charge + (e * price + x.carry) / 1000000
        ∧ (importInto e price x).charge * 1000000 + (importInto e price x).carry = x.charge * 1000000 + (e * price + x.carry)
        ∧ (importInto e price x).carry ≤ 999999 ∧ (importInto e price x).importE = x.importE + e
        ∧ (exportInto e x).charge = x.charge ∧ (exportInto e x).carry = x.carry)
    ∧ (∀ (raw : Int) (vfs ifs : Nat) (m : Meter), 0 < raw →
      let x := accrueSecond raw vfs ifs m
      x.2.1 * (32767 ^ 2 * 14400) + x.1.importRem = raw.natAbs * vfs * ifs + m.importRem ∧ x.1.importRem < 32767 ^ 2 * 14400
        ∧ x.2.2 = .importing ∧ x.1.exportReg = m.exportReg ∧ x.1.exportRem = m.exportRem
        ∧ (m.importReg + x.2.1 < 2 ^ 64 → x.1.importReg = m.importReg + x.2.1)
        ∧ ∀ (r : OpenRecord) (es : List BandEntry) (last : BandEntry), m.record = some r → r.entries = es ++ [last] →
          x.1.record = some { r with entries := es ++ [importInto x.2.1 m.price last] })
    ∧ (∀ (raw : Int) (vfs ifs : Nat) (m : Meter), raw < 0 →
      let x := accrueSecond raw vfs ifs m
      x.2.1 * (32767 ^ 2 * 14400) + x.1.exportRem = raw.natAbs * vfs * ifs + m.exportRem ∧ x.1.exportRem < 32767 ^ 2 * 14400
        ∧ x.2.2 = .exporting ∧ x.1.importReg = m.importReg ∧ x.1.importRem = m.importRem ∧ x.1.blockSum = m.blockSum
        ∧ (m.exportReg + x.2.1 < 2 ^ 64 → x.1.exportReg = m.exportReg + x.2.1))
    ∧ ∀ (vfs ifs : Nat) (m : Meter), accrueSecond 0 vfs ifs m = (m, 0, .none)

/-- READ BILLING answers the oldest record and changes nothing but the queues (R160). RELEASE BILLING is refused NO_RECORD on an empty
ring and SEQUENCE for any number but the oldest's; otherwise the oldest record leaves the ring, and the oldest deferred closure, where
there is one and a number is left, takes its slot under the next number (R161, R164). An account boundary applied to a running meter
closes its record into a ring with room and opens the next one, defers the closure with a new entry in a ring without, and in a
deferred record begins an entry or mixes the fourth; a stopped meter is left as it is (R157 to R159, R162, R163). A start of metering
resumes a final deferred record, and otherwise opens one, with the registers at 0 and the session's number and account unless it is a
restart (R150). An end of metering closes the record at once, or defers the closure as final, or marks a deferred record as final with
its ended closure; a held-over block end is applied first and a held-over boundary dropped (R151). -/
def Obligations.BillingRequests : Prop :=
  (∀ (s : State) (r : Request) (l : List Request), AtHead s r l → r.code = 19 → r.args = [] →
      (s.mbu.ring = [] → exec .readBilling s = .next (s.quiet.answered r l (refused .noRecord)))
        ∧ ∀ c rest, s.mbu.ring = c :: rest → exec .readBilling s = .next (s.quiet.answered r l (doneWith (closedItems c))))
    ∧ (∀ (s : State) (r : Request) (l : List Request), AtHead s r l → r.code = 20 → r.args.length = 4 →
      (s.mbu.ring = [] → exec .releaseBilling s = .next (s.quiet.answered r l (refused .noRecord)))
        ∧ ∀ c rest, s.mbu.ring = c :: rest →
          (c.number ≠ natOf r.args → exec .releaseBilling s = .next (s.quiet.answered r l (refused .sequence)))
            ∧ (c.number = natOf r.args →
              (s.mbu.queue = [] ∨ 4294967295 < s.mbu.nextRecord → exec .releaseBilling s
                  = .next (({ s.quiet with mbu := { s.mbu with ring := rest } } : State).answered r l done))
                ∧ ∀ b q o d, s.mbu.queue = b :: q → s.mbu.nextRecord ≤ 4294967295 → (s.meter b).record = some o →
                  (s.meter b).deferral = some d → Answers (exec .releaseBilling s) fun t =>
                    ∃ k, t.mbu.ring = rest ++ [k] ∧ k.number = s.mbu.nextRecord ∧ k.berth = b ∧ k.reason = d.reason
                      ∧ k.closedAt = s.ctu.time ∧ t.mbu.nextRecord = s.mbu.nextRecord + 1
                      ∧ t.mrh.requests = l ∧ t.mrh.responses = s.mrh.responses ++ [⟨r.source, r.tag, r.code, done⟩]))
    ∧ (∀ (s : State) (b : Berth) (a : AcctBoundary),
      let m := s.meter b
      let t := s.applyBoundary b a
      let e : BandEntry := ⟨a.band, a.price, 0, 0, 0, 0, a.tariff⟩
      (m.running = false → t = s)
        ∧ ∀ o, m.running = true → m.record = some o →
          (m.deferral = none → s.mbu.ring.length < 64 → s.mbu.nextRecord ≤ 4294967295 →
              t.mbu.ring = s.mbu.ring ++ [{
                  number := s.mbu.nextRecord, session := o.session, berth := b, account := o.account, openedAt := o.openedAt,
                  closedAt := a.time, reason := a.reason,
                  entries := o.entries.map fun x => ⟨x.band, x.price, x.importE, x.exportE, x.charge, x.tariff⟩,
                  peakDemand := o.peakDemand, substituted := o.substituted, gap := o.gap, mixed := o.mixed,
                  unverified := o.unverified, clockUnset := o.clockUnset, noTariff := o.noTariff }]
                ∧ t.mbu.nextRecord = s.mbu.nextRecord + 1 ∧ t.mbu.queue = s.mbu.queue ∧ t.isLatched .station 8 = true
                ∧ t.meter b = { m with
                  price := a.price,
                  record := some {
                    session := m.session, account := m.account, openedAt := a.time, entries := [e], peakDemand := 0,
                    substituted := 0, gap := 0, mixed := false, unverified := s.cfs.invalid, clockUnset := a.clockUnset,
                    noTariff := !a.tariff } })
            ∧ (m.deferral = none → 64 ≤ s.mbu.ring.length ∨ 4294967295 < s.mbu.nextRecord →
              t.mbu.ring = s.mbu.ring ∧ t.mbu.nextRecord = s.mbu.nextRecord ∧ t.mbu.queue = s.mbu.queue ++ [b]
                ∧ t.isLatched .station 9 = true
                ∧ t.meter b = { m with
                  price := a.price,
                  record := some { o with entries := o.entries ++ [e], noTariff := o.noTariff || !a.tariff },
                  deferral := some ⟨a.reason, a.time, some a.clockUnset, o.entries.length, none⟩ })
            ∧ (m.deferral ≠ none →
              t.mbu.ring = s.mbu.ring ∧ t.mbu.queue = s.mbu.queue
                ∧ (o.entries.length < 4 → t.meter b = { m with
                  price := a.price, record := some { o with entries := o.entries ++ [e], noTariff := o.noTariff || !a.tariff } })
                ∧ ∀ x y z w, o.entries = [x, y, z, w] → t.meter b = { m with
                  price := a.price,
                  record := some { o with
                    entries := [x, y, z, { w with band := 255, price := 0, tariff := w.tariff && a.tariff }],
                    mixed := true, noTariff := o.noTariff || !a.tariff } }))
    ∧ (∀ (s : State) (b : Berth) (number : Option Nat) (account : Option (BitVec 32)) (restart : Bool),
      hasHeld (s.meter b) = false →
        let m := s.meter b
        let t := s.startMetering b number account restart
        let f := s.ctu.band
        t.mbu.ring = s.mbu.ring ∧ t.mbu.queue = s.mbu.queue ∧ (∀ i, i ≠ b → t.meter i = s.meter i)
          ∧ (m.finalPending = false →
            let n := if restart then m.session else number
            let a := if restart then m.account else account
            t.meter b = { m with
              running := true, session := n, account := a, blockSum := 0, lastTag := none, price := f.price,
              importReg := if restart then m.importReg else 0, exportReg := if restart then m.exportReg else 0,
              importRem := if restart then m.importRem else 0, exportRem := if restart then m.exportRem else 0,
              record := some {
                session := n, account := a, openedAt := s.ctu.time,
                entries := [⟨f.band, f.price, 0, 0, 0, 0, f.tariff⟩], peakDemand := 0, substituted := 0, gap := 0, mixed := false,
                unverified := s.cfs.invalid, clockUnset := s.ctu.clockUnset, noTariff := !f.tariff } })
          ∧ ∀ o d, m.finalPending = true → m.record = some o → m.deferral = some d → o.entries.length < 4 →
            t.meter b = { m with
              running := true, blockSum := 0, lastTag := none, price := f.price, finalPending := false,
              deferral := some { d with ended := none },
              record := some { o with
                entries := o.entries ++ [⟨f.band, f.price, 0, 0, 0, 0, f.tariff⟩], noTariff := o.noTariff || !f.tariff } })
    ∧ ∀ (s : State) (b : Berth) (reason : CloseReason),
      let m := s.meter b
      let t := s.endMetering b reason
      let stopped : Meter := { m with running := false, blockSum := 0, heldBlock := none, heldBoundary := none }
      (m.running = false → t = s)
        ∧ ∀ o, m.running = true → m.record = some o →
          let o1 : OpenRecord := { o with
            peakDemand := if m.heldBlock.isSome then max o.peakDemand m.blockSum else o.peakDemand }
          (∀ i, i ≠ b → t.meter i = s.meter i)
            ∧ (m.deferral = none → s.mbu.ring.length < 64 → s.mbu.nextRecord ≤ 4294967295 →
              t.meter b = { stopped with record := none } ∧ t.mbu.queue = s.mbu.queue ∧ t.mbu.nextRecord = s.mbu.nextRecord + 1
                ∧ ∃ k, t.mbu.ring = s.mbu.ring ++ [k] ∧ k.number = s.mbu.nextRecord ∧ k.berth = b ∧ k.reason = reason
                  ∧ k.openedAt = o.openedAt ∧ k.closedAt = s.ctu.time ∧ k.peakDemand = o1.peakDemand)
            ∧ (m.deferral = none → 64 ≤ s.mbu.ring.length ∨ 4294967295 < s.mbu.nextRecord →
              t.mbu.ring = s.mbu.ring ∧ t.mbu.queue = s.mbu.queue ++ [b] ∧ t.isLatched .station 9 = true
                ∧ t.meter b = { stopped with
                  record := some o1, finalPending := true,
                  deferral := some ⟨reason, s.ctu.time, none, o.entries.length, none⟩ })
            ∧ ∀ d, m.deferral = some d →
              t.mbu.ring = s.mbu.ring ∧ t.mbu.queue = s.mbu.queue ∧ t.meter b = { stopped with
                record := some o1, finalPending := true,
                deferral := some (if d.split < o.entries.length then { d with ended := some (reason, s.ctu.time) } else d) }

/-! ## Configuration -/

/-- WRITE TABLE ENTRY, COMMIT and ENTER CONFIGURATION judged in order, with what each does to the store, the mode, the timer and the
walker (R170 to R176). A repair write that passes changes the entry, stops a VERIFYING walker and leaves mode, timer and signature as
they were; the health record of a node whose role, target or limit changes is reset (R13), and so are the measurement records that the
node fed or feeds when its role, target, VFS, IFS or mirrored field changes (R19); a Berth entry, or the Module entry of a BOUND module,
forms the berth's cap afresh (R104). That a COMMIT also clears the delivered marks, and that a record so reset is not counted at the
boundary of its cycle, is the model's reading (entry 9). A repair write conflicts when a Berth entry's maximum lies below the modules
STARTING or BOUND and the count waiting for the berth, or a Node entry would hold the role and target of another of role MU_BERTH, MODULE,
PLUG_BU, SIU or MU_INCOMER (R170). COMMIT's tests of each entry are those of R172, and the first failure in entry index order is named; that
entries of role NONE share nothing is the model's reading (entry 34). -/
def Obligations.ConfigurationRequests : Prop :=
  (∀ (s : State) (r : Request) (l : List Request) (table entry : Byte) (image : List Byte), AtHead s r l → r.code = 2 →
      r.args = table :: entry :: image → imageSize table = some image.length →
        (entryNamed table entry = none → exec .writeTableEntry s = .next (s.quiet.answered r l (refused .range)))
          ∧ ∀ e, entryNamed table entry = some e →
            (s.operating = true → s.cfs.invalid = false →
                exec .writeTableEntry s = .next (s.quiet.answered r l (refused .locked)))
              ∧ (s.operating = false ∨ s.cfs.invalid = true → entryInRange (setEntryImage s.cfs.tables e image) e = false →
                exec .writeTableEntry s = .next (s.quiet.answered r l (refused .range)))
              ∧ (s.operating = false → entryInRange (setEntryImage s.cfs.tables e image) e = true →
                exec .writeTableEntry s = .next (({ s.quiet with cfs := { s.cfs with
                  tables := setEntryImage s.cfs.tables e image, timer := some (s.cfs.timer.getD 480000) } } : State).answered r l done))
              ∧ (s.operating = true → s.cfs.invalid = true → entryInRange (setEntryImage s.cfs.tables e image) e = true →
                s.repairConflict (setEntryImage s.cfs.tables e image) e = true →
                  exec .writeTableEntry s = .next (s.quiet.answered r l (refused .range)))
              ∧ (s.operating = true → s.cfs.invalid = true → entryInRange (setEntryImage s.cfs.tables e image) e = true →
                s.repairConflict (setEntryImage s.cfs.tables e image) e = false → Answers (exec .writeTableEntry s) fun t =>
                  t.cfs = { s.cfs with
                      tables := setEntryImage s.cfs.tables e image,
                      walker := if s.cfs.walker.state = .verifying then { s.cfs.walker with state := .stopped } else s.cfs.walker }
                    ∧ t.mrh.responses = s.mrh.responses ++ [⟨r.source, r.tag, r.code, done⟩]
                    ∧ t.mpm = s.mpm ∧ t.bsy = s.bsy ∧ t.rob = s.rob ∧ t.sup = s.sup ∧ t.ctu = s.ctu ∧ t.mbu = s.mbu
                    ∧ ((∀ n, e ≠ .node n) → t.rif = s.rif ∧ t.mfe = s.mfe)
                    ∧ (∀ n, e = .node n → t.ses = s.ses ∧
                      let a := s.nodeEntry n
                      let c := t.nodeEntry n
                      (a.role ≠ c.role ∨ a.target ≠ c.target ∨ a.limit ≠ c.limit →
                          t.health n = ⟨0, false, false⟩ ∧ vget t.rif.fresh n = true ∧ ∀ i, i ≠ n → t.health i = s.health i)
                        ∧ (a.role = c.role → a.target = c.target → a.limit = c.limit → t.rif = s.rif)
                        ∧ (a.role ≠ c.role ∨ a.target ≠ c.target ∨ a.vfs ≠ c.vfs ∨ a.ifs ≠ c.ifs ∨ a.mirrored ≠ c.mirrored →
                          ∀ p, t.meas p = if p ∈ pointsFedBy a ++ pointsFedBy c then MeasRecord.reset else s.meas p)
                        ∧ (a.role = c.role → a.target = c.target → a.vfs = c.vfs → a.ifs = c.ifs → a.mirrored = c.mirrored →
                          t.mfe = s.mfe))
                    ∧ (∀ b, e = .berth b ∨ (∃ m, e = .module m ∧ (s.module m).state = .bound ∧ (s.module m).berth = some b) →
                      (t.session b).sigma = t.boundRating b
                        ∧ (t.session b).cap = t.boundRating b * (t.berthEntry b).loading.toNat / 100
                        ∧ (t.session b).share = min (s.session b).share (t.session b).cap
                        ∧ (t.session b).state = (s.session b).state ∧ ∀ i, i ≠ b → t.session i = s.session i)))
    ∧ (∀ (s : State) (r : Request) (l : List Request), AtHead s r l → r.code = 3 → r.args.length = 4 →
      let sig := BitVec.ofNat 32 (natOf r.args)
      (s.operating = true → s.cfs.invalid = false → exec .commit s = .next (s.quiet.answered r l (refused .mode)))
        ∧ (s.operating = false ∨ s.cfs.invalid = true →
          (∀ e, firstInconsistent s.cfs.tables = some e → exec .commit s = .next (s.quiet.answered r l
              (refusedWith .inconsistent [.code 1 (entryCodes e).1, .code 1 (entryCodes e).2])))
            ∧ (firstInconsistent s.cfs.tables = none → signatureOf s.cfs.tables ≠ sig →
              exec .commit s = .next (s.quiet.answered r l (refused .signature)))
            ∧ (firstInconsistent s.cfs.tables = none → signatureOf s.cfs.tables = sig → Answers (exec .commit s) fun t =>
              t.cfs.mode = .operate ∧ t.cfs.signature = some sig ∧ t.cfs.tables = s.cfs.tables
                ∧ t.mrh.responses = s.mrh.responses ++ [⟨r.source, r.tag, r.code, done⟩]
                ∧ (s.operating = false → t.cfs.timer = none ∧ t.cfs.invalid = false ∧ t.cfs.walker.state = .running
                  ∧ t.cfs.walker.position = 0 ∧ (∀ n, t.health n = ⟨0, false, false⟩) ∧ t.mfe = Mfe.reset ∧ t.ses.budget = 0
                  ∧ t.ses.berth = s.ses.berth ∧ t.rob = s.rob ∧ t.mbu = s.mbu ∧ t.ctu = s.ctu ∧ t.sup = s.sup)
                ∧ (s.operating = true → t.cfs.invalid = true ∧ t.cfs.walker.state = .verifying ∧ t.cfs.walker.position = 0
                  ∧ t.rif = s.rif ∧ t.mfe = s.mfe ∧ t.ses = s.ses ∧ t.bsy = s.bsy ∧ t.mpm = s.mpm))))
    ∧ (∀ (s : State) (r : Request) (l : List Request), AtHead s r l → r.code = 4 → r.args = [] →
      (s.operating = false → exec .enterConfiguration s = .next (s.quiet.answered r l done))
        ∧ (s.operating = true → (∃ b, (s.session b).state ≠ .idle ∧ (s.session b).state ≠ .faulted) →
          exec .enterConfiguration s = .next (s.quiet.answered r l (refused .state)))
        ∧ (s.operating = true → (∀ b, (s.session b).state = .idle ∨ (s.session b).state = .faulted) →
          Answers (exec .enterConfiguration s) fun t =>
            t.cfs.mode = .config ∧ t.cfs.invalid = false ∧ t.cfs.timer = none ∧ t.cfs.walker.state = .stopped
              ∧ t.cfs.tables = s.cfs.tables ∧ t.cfs.signature = s.cfs.signature ∧ (∀ n, t.health n = ⟨0, false, false⟩)
              ∧ t.mfe = Mfe.reset ∧ t.mpm.alloc = [] ∧ (∀ b, (t.session b).state = (s.session b).state)
              ∧ (∀ b, (t.meter b).running = false) ∧ (∀ k, (t.breaker k).command ≠ .close)
              ∧ t.mrh.responses = s.mrh.responses ++ [⟨r.source, r.tag, r.code, done⟩]))
    ∧ (∀ (s : State) (t : Tables),
      (∀ b, s.repairConflict t (.berth b) = true ↔ (vget t.berth b).maxModules.toNat
          < ((List.finRange 8).filter (fun m => (s.module m).berth = some b
              ∧ ((s.module m).state = .starting ∨ (s.module m).state = .bound))).length
            + ((s.mpm.alloc.find? (fun e => e.berth = b)).map (·.count)).getD 0)
        ∧ (∀ n, s.repairConflict t (.node n) = true ↔ ∃ i, i ≠ n ∧
          ∃ r ∈ [Role.muBerth, .module, .plugBu, .siu, .muIncomer], SameDuty (vget t.node n) (vget t.node i) r)
        ∧ s.repairConflict t .station = false ∧ (∀ m, s.repairConflict t (.module m) = false)
        ∧ (∀ k, s.repairConflict t (.breaker k) = false) ∧ ∀ i, s.repairConflict t (.reaction i) = false)
    ∧ (∀ (t : Tables), (firstInconsistent t = none ↔ ∀ e ∈ allEntries, entryConsistent t e = true)
      ∧ ∀ e, firstInconsistent t = some e →
        entryConsistent t e = false ∧ ∀ x ∈ allEntries.takeWhile (fun i => i ≠ e), entryConsistent t x = true)
    ∧ (allEntries.length = 65 ∧ allEntries[0]? = some .station ∧ (∀ n : NodeIx, allEntries[1 + n.val]? = some (.node n))
      ∧ (∀ b : Berth, allEntries[32 + b.val]? = some (.berth b) ∧ allEntries[44 + b.val]? = some (.breaker (.pb b))
        ∧ allEntries[48 + b.val]? = some (.breaker (.sb b)))
      ∧ (∀ m : ModuleId, allEntries[36 + m.val]? = some (.module m)) ∧ ∀ i : Fin 13, allEntries[52 + i.val]? = some (.reaction i))
    ∧ ∀ (t : Tables),
      let holds (r : Role) (target : Nat) : Prop := ∃ i, roleOf (vget t.node i).role = some r ∧ (vget t.node i).target.toNat = target
      (entryConsistent t .station = true ↔ entryInRange t .station = true
          ∧ ∃ n, nodeAddress n = t.station.controller ∧ roleOf (vget t.node n).role = some .station)
        ∧ (∀ n, let e := vget t.node n
          entryConsistent t (.node n) = true ↔ entryInRange t (.node n) = true
            ∧ (roleOf e.role = some .station → nodeAddress n = t.station.controller)
            ∧ (∀ i, i < n → ∀ r ∈ [Role.station, .muBerth, .muIncomer, .module, .plugBu, .siu], ¬ SameDuty e (vget t.node i) r)
            ∧ (roleOf e.role = some .module → ∀ m : ModuleId, m.val = e.target.toNat → flagOf (vget t.module m).enabled = true))
        ∧ (∀ b, entryConsistent t (.berth b) = true ↔ entryInRange t (.berth b) = true
          ∧ ((vget t.berth b).enabled = 1 → holds .muBerth b.val ∧ holds .plugBu b.val ∧ holds .siu b.val))
        ∧ (∀ m, entryConsistent t (.module m) = true ↔ entryInRange t (.module m) = true
          ∧ ((vget t.module m).enabled = 1 → holds .module m.val))
        ∧ (∀ k, entryConsistent t (.breaker k) = entryInRange t (.breaker k))
        ∧ ∀ i, entryConsistent t (.reaction i) = true ↔ (vget t.reaction i).toNat ≤ 3
          ∧ (i ∈ [faultNumber .overcurrent, faultNumber .phasing, faultNumber .shipEsd] → vget t.reaction i ≠ 0)

/-- CONFIG_TIMEOUT puts the tables back to their reset contents and the part stays in CONFIG (R171). SCRUB_READ reads one entry into the
CRC; after the last one the pass is compared: RUNNING and equal goes on, RUNNING and different makes the configuration invalid, with no
session left in RESERVING or ENERGISING and every open record UNVERIFIED (R166), VERIFYING and equal makes it valid again, VERIFYING and
different stops the walker (R177 to R179). That a walker stopped by a
difference stands at position 0 with the final CRC of the pass is the model's reading (entry 35). -/
def Obligations.ConfigEvents : Prop :=
  (∀ s : State, DueNow s .configTimeout → s.operating = false → s.cfs.timer = some 0 → Answers (exec .configTimeout s) fun t =>
      t.cfs.tables = Tables.reset ∧ t.cfs.timer = none ∧ t.cfs.mode = s.cfs.mode ∧ t.cfs.signature = s.cfs.signature
        ∧ t.isLatched .station 10 = true)
    ∧ (∀ (s : State) (e : EntryRef), DueNow s .scrubRead → s.operating = true → s.cfs.walker.state ≠ .stopped →
      3 ≤ s.cfs.walker.spacing → allEntries[s.cfs.walker.position]? = some e →
        let crc := crc32Fold s.cfs.walker.crc (entryImage s.cfs.tables e)
        (s.cfs.walker.position < 64 → exec .scrubRead s = .next { s.without .scrubRead with cfs := { s.cfs with walker :=
              { s.cfs.walker with crc := crc, position := s.cfs.walker.position + 1, spacing := 0 } } })
          ∧ (s.cfs.walker.position = 64 → Answers (exec .scrubRead s) fun t =>
            t.cfs.walker.passes = min 4294967295 (s.cfs.walker.passes + 1) ∧ t.cfs.walker.position = 0
              ∧ t.cfs.tables = s.cfs.tables ∧ t.cfs.mode = s.cfs.mode ∧ t.cfs.signature = s.cfs.signature
              ∧ (s.cfs.signature = some (~~~ crc) → t.cfs.walker.state = .running ∧ t.cfs.walker.result = some .matched
                ∧ t.cfs.walker.crc = 0xFFFFFFFF
                ∧ (s.cfs.walker.state = .running → t.cfs.invalid = s.cfs.invalid)
                ∧ (s.cfs.walker.state = .verifying → t.cfs.invalid = false ∧ t.isLatched .station 12 = true))
              ∧ (s.cfs.signature ≠ some (~~~ crc) → t.cfs.walker.state = .stopped ∧ t.cfs.walker.result = some .mismatched
                ∧ t.cfs.walker.crc = ~~~ crc
                ∧ (s.cfs.walker.state = .running → t.cfs.invalid = true ∧ t.isLatched .station 11 = true
                  ∧ (∀ b, (t.session b).state ≠ .reserving ∧ (t.session b).state ≠ .energising)
                  ∧ ∀ b m, (t.meter b).record = some m → m.unverified = true)
                ∧ (s.cfs.walker.state = .verifying → t.cfs.invalid = s.cfs.invalid))))

/-- An entry image is one way: the image of an entry set from bytes of the table's size is those bytes, and an entry set to its own
image is unchanged (R169, R170, R194). An entry is in range when each of its fields is, a Node entry's target fits its role and its health
limit is even, and a Breaker entry's close times stand in order (R73, R170; the fields' tables of 03 to 10). -/
def Obligations.EntryImages : Prop :=
  (∀ (t : Tables) (table entry : Byte) (e : EntryRef) (l : List Byte), entryNamed table entry = some e →
      imageSize table = some l.length → entryImage (setEntryImage t e l) e = l)
    ∧ (∀ (t : Tables) (e : EntryRef), setEntryImage t e (entryImage t e) = t)
    ∧ (∀ (t : Tables) (e i : EntryRef) (l : List Byte), i ≠ e → entryImage (setEntryImage t e l) i = entryImage t i)
    ∧ ∀ t : Tables,
      (entryInRange t .station = true ↔
          let e := t.station
          e.importLimit.toNat ≤ 100000 ∧ e.tLong.toNat ≤ 10000 ∧ e.tShort.toNat ≤ 10000 ∧ e.cooldown.toNat ≤ 600000
            ∧ 1000 ≤ e.restartDelay.toNat ∧ e.restartDelay.toNat ≤ 600000 ∧ 1 ≤ e.controller.toNat ∧ e.controller.toNat ≤ 31)
        ∧ (∀ n, let e := vget t.node n
          entryInRange t (.node n) = true ↔
            (e.role.toNat ≤ 6 ∧ ((e.role = 0 ∨ e.role = 1 ∨ e.role = 3) → e.target = 0)
              ∧ ((e.role = 2 ∨ e.role = 5 ∨ e.role = 6) → e.target.toNat ≤ 3) ∧ (e.role = 4 → e.target.toNat ≤ 7))
            ∧ e.vfs ≠ 0 ∧ e.ifs ≠ 0 ∧ e.mirrored.toNat ≤ 1 ∧ 2 ≤ e.limit.toNat ∧ e.limit.toNat ≤ 30 ∧ e.limit.toNat % 2 = 0)
        ∧ (∀ b, let e := vget t.berth b
          entryInRange t (.berth b) = true ↔
            (e.enabled.toNat ≤ 1 ∧ 1 ≤ e.maxModules.toNat ∧ e.maxModules.toNat ≤ 8 ∧ 50 ≤ e.loading.toNat ∧ e.loading.toNat ≤ 100
              ∧ 10 ≤ e.rampRate.toNat ∧ e.rampRate.toNat ≤ 5000 ∧ e.residual.toNat ≤ 10000
              ∧ 10 ≤ e.slipTarget.toNat ∧ e.slipTarget.toNat ≤ 500 ∧ 100 ≤ e.closeWindow.toNat ∧ e.closeWindow.toNat ≤ 3000
              ∧ 10 ≤ e.slipMax.toNat ∧ e.slipMax.toNat ≤ 1000 ∧ 10 ≤ e.dvMax.toNat ∧ e.dvMax.toNat ≤ 200)
            ∧ (10000 ≤ e.reserveLimit.toNat ∧ e.reserveLimit.toNat ≤ 3600000
              ∧ 10000 ≤ e.energiseLimit.toNat ∧ e.energiseLimit.toNat ≤ 600000
              ∧ 10000 ≤ e.syncLimit.toNat ∧ e.syncLimit.toNat ≤ 600000 ∧ 10000 ≤ e.rampLimit.toNat ∧ e.rampLimit.toNat ≤ 1800000
              ∧ 10000 ≤ e.recallLimit.toNat ∧ e.recallLimit.toNat ≤ 1800000
              ∧ 1000 ≤ e.partingLimit.toNat ∧ e.partingLimit.toNat ≤ 60000 ∧ e.settle.toNat ≤ 60000)
            ∧ (e.iTrip ≠ 0 ∧ 1 ≤ e.ocFilter.toNat ∧ e.ocFilter.toNat ≤ 64 ∧ e.blank.toNat ≤ 2000
              ∧ 500 ≤ e.vLow.toNat ∧ e.vLow.toNat ≤ 1000 ∧ 1000 ≤ e.vHigh.toNat ∧ e.vHigh.toNat ≤ 1500
              ∧ 1 ≤ e.vFilter.toNat ∧ e.vFilter.toNat ≤ 32 ∧ 10 ≤ e.reverse.toNat ∧ e.reverse.toNat ≤ 10000))
        ∧ (∀ m, let e := vget t.module m
          entryInRange t (.module m) = true ↔ e.enabled.toNat ≤ 1 ∧ 100 ≤ e.rating.toNat ∧ e.rating.toNat ≤ 6000
            ∧ 1000 ≤ e.startLimit.toNat ∧ e.startLimit.toNat ≤ 60000)
        ∧ (let sound (e : BreakerEntry) : Prop :=
              20000 ≤ e.configured.toNat ∧ e.configured.toNat ≤ 300000 ∧ e.minimum.toNat ≤ 400000 ∧ e.maximum.toNat ≤ 400000
                ∧ 100 ≤ e.limit.toNat ∧ e.limit.toNat ≤ 5000 ∧ e.minimum.toNat ≤ e.configured.toNat
                ∧ e.configured.toNat ≤ e.maximum.toNat
          ∀ b, (entryInRange t (.breaker (.pb b)) = true ↔ sound (vget t.pb b))
            ∧ (entryInRange t (.breaker (.sb b)) = true ↔ sound (vget t.sb b)))
        ∧ ∀ i, entryInRange t (.reaction i) = true ↔ (vget t.reaction i).toNat ≤ 3

/-! ## Management -/

/-- A request from another node addressed elsewhere is forwarded untouched; addressed to the part it is dropped and counted at a count of
16, refused SOURCE from a source that is not accepted, refused UNKNOWN with a code of no request, and queued otherwise (R6, R181, R182,
R183); taken in, it sets HOLD at a count of 12, clears it at 4 or below and keeps it between (R185). A request with another number of
argument bytes than its code requires is answered RANGE and changes nothing else; a WRITE TABLE ENTRY requires two more than the image of
the table it names (R183, R195). -/
def Obligations.RequestIntake : Prop :=
  (∀ x ∈ ([(1, .readTableEntry, 2), (3, .commit, 4), (4, .enterConfiguration, 0), (5, .setClock, 6), (6, .writeTariffEntry, 8),
      (7, .activateTariff, 5), (8, .cancelActivation, 0), (9, .openSession, 12), (10, .handoverIn, 1), (11, .abortHandover, 1),
      (12, .handoverOut, 1), (13, .closeSession, 1), (14, .abortSession, 1), (15, .clearFault, 1), (16, .blockModule, 1),
      (17, .unblockModule, 1), (18, .markBreaker, 1), (19, .readBilling, 0), (20, .releaseBilling, 4), (21, .readMeter, 1),
      (22, .ringSurvey, 0), (23, .readStatus, 2), (24, .readEvents, 1), (25, .clearEvents, 3), (26, .setEventMask, 3)] :
      List (Byte × Instr × Nat)),
    ∀ (s : State) (r : Request) (l : List Request), AtHead s r l → r.code = x.1 → r.args.length ≠ x.2.2 →
      exec x.2.1 s = .next (s.quiet.answered r l (refused .range)))
  ∧ (∀ (s : State) (r : Request) (l : List Request), AtHead s r l → r.code = 2 →
      (r.args = [] ∨ ∀ n, imageSize (byteAt r.args 0) = some n → r.args.length ≠ n + 2) →
        exec .writeTableEntry s = .next (s.quiet.answered r l (refused .range)))
  ∧ ∀ (s : State) (f : Arrival), Settled s → f.whole = true → checksGood .mrq (arrivalFrame (nibbleOf .mrq) f) = true → f.source ≠ 0 →
    let count := s.mrh.responses.length + 1
    let hold := if 12 ≤ count then true else if count ≤ 4 then false else s.mrh.hold
    let r : Request := ⟨f.source, BitVec.ofNat 16 (natOf (f.body.take 2)), byteAt f.body 2, f.body.drop 3⟩
    (f.dest ≠ 0 → Answers (exec (.requestFrame f) s) fun t =>
        t.ringOut = [arrivalFrame (nibbleOf .mrq) f] ∧ t.mrh = s.mrh ∧ SameBlocks s t)
      ∧ (f.dest = 0 → 16 ≤ s.mrh.responses.length → Answers (exec (.requestFrame f) s) fun t =>
        t.ringOut = [] ∧ t.mrh.dropped = min 65535 (s.mrh.dropped + 1) ∧ t.mrh.requests = [] ∧ t.mrh.responses = s.mrh.responses
          ∧ t.isLatched .station 13 = true ∧ SameBlocks s t)
      ∧ (f.dest = 0 → s.mrh.responses.length < 16 → s.sourceAccepted f.source = false →
        Answers (exec (.requestFrame f) s) fun t =>
          t.ringOut = [] ∧ t.mrh.requests = [] ∧ t.mrh.responses = s.mrh.responses ++ [⟨r.source, r.tag, r.code, refused .source⟩]
            ∧ t.mrh.hold = hold ∧ SameBlocks s t)
      ∧ (f.dest = 0 → s.mrh.responses.length < 16 → s.sourceAccepted f.source = true →
        Answers (exec (.requestFrame f) s) fun t =>
          t.ringOut = [] ∧ t.mrh.hold = hold ∧ SameBlocks s t
            ∧ (1 ≤ r.code.toNat ∧ r.code.toNat ≤ 26 → t.mrh.requests = [r] ∧ t.mrh.responses = s.mrh.responses)
            ∧ (¬ (1 ≤ r.code.toNat ∧ r.code.toNat ≤ 26) →
              t.mrh.requests = [] ∧ t.mrh.responses = s.mrh.responses ++ [⟨r.source, r.tag, r.code, refused .unknown⟩]))

/-- The five requests that read answer DONE with what they name, are refused RANGE for what is not there, and change nothing but the two
queues (R15, R167, R169, R187, R190). -/
def Obligations.ReadRequests : Prop :=
  ∀ (s : State) (r : Request) (l : List Request), AtHead s r l →
    (r.code = 1 → ∀ table entry, r.args = [table, entry] →
        (∀ e, entryNamed table entry = some e →
          exec .readTableEntry s = .next (s.quiet.answered r l (doneWith [.bytes (entryImage s.cfs.tables e)])))
          ∧ (entryNamed table entry = none → exec .readTableEntry s = .next (s.quiet.answered r l (refused .range))))
      ∧ (r.code = 21 → ∀ a, r.args = [a] →
        (∀ b, berthOf a = some b → exec .readMeter s = .next (s.quiet.answered r l (doneWith (s.meterItems b))))
          ∧ (berthOf a = none → exec .readMeter s = .next (s.quiet.answered r l (refused .range))))
      ∧ (r.code = 22 → r.args = [] → exec .ringSurvey s = .next (s.quiet.answered r l (doneWith (surveyItems s.rif.previous))))
      ∧ (r.code = 23 → ∀ a c, r.args = [a, c] →
        (∀ k x, scopeOf a.toNat = some k → s.statusSection k c.toNat = some x →
          exec .readStatus s = .next (s.quiet.answered r l (doneWith x)))
          ∧ (∀ k, scopeOf a.toNat = some k → s.statusSection k c.toNat = none →
            exec .readStatus s = .next (s.quiet.answered r l (refused .range)))
          ∧ (4 < a.toNat → exec .readStatus s = .next (s.quiet.answered r l (refused .range))))
      ∧ (r.code = 24 → ∀ a, r.args = [a] →
        (∀ k, scopeOf a.toNat = some k → exec .readEvents s = .next (s.quiet.answered r l (doneWith (eventItems s.mrh k))))
          ∧ (4 < a.toNat → exec .readEvents s = .next (s.quiet.answered r l (refused .range))))

/-- Latching: a clear flag is latched, no other flag changes, and it joins its scope's notice unless it is masked, at the back of the
flags of the notice queued for the scope or in a new notice at the back of the queue; a latched flag changes nothing. CLEAR EVENTS clears
the named latched marks of its scope and answers the marks as they stood; SET EVENT MASK replaces the masked marks of its scope; neither
touches the queued notices; a scope outside 0..4 is refused RANGE (R186 to R189). -/
def Obligations.EventFlags : Prop :=
  (∀ (m : Mrh) (c : Scope) (n : Nat), (m.latched.get c).getLsbD n = true → latchNumber m c n = m)
    ∧ (∀ (m : Mrh) (c : Scope) (n : Nat), n < 16 → (m.latched.get c).getLsbD n = false →
      ((latchNumber m c n).latched.get c).getLsbD n = true
        ∧ (∀ i, i ≠ n → ((latchNumber m c n).latched.get c).getLsbD i = (m.latched.get c).getLsbD i)
        ∧ (∀ d, d ≠ c → (latchNumber m c n).latched.get d = m.latched.get d)
        ∧ (latchNumber m c n).masked = m.masked ∧ (latchNumber m c n).requests = m.requests
        ∧ (latchNumber m c n).responses = m.responses
        ∧ ((m.masked.get c).getLsbD n = true → (latchNumber m c n).notices = m.notices)
        ∧ ((m.masked.get c).getLsbD n = false → (∃ x ∈ (latchNumber m c n).notices, x.scope = c ∧ n ∈ x.flags)
          ∧ ((∀ x ∈ m.notices, x.scope ≠ c) → (latchNumber m c n).notices = m.notices ++ [⟨c, [n]⟩])
          ∧ ∀ l r x, m.notices = l ++ x :: r → x.scope = c → (∀ y ∈ l ++ r, y.scope ≠ c) →
            (n ∉ x.flags → (latchNumber m c n).notices = l ++ { x with flags := x.flags ++ [n] } :: r)
              ∧ (n ∈ x.flags → (latchNumber m c n).notices = m.notices)))
    ∧ (∀ (s : State) (r : Request) (l : List Request) (a : Byte) (x y : Byte), AtHead s r l → r.code = 25 → r.args = [a, x, y] →
      (4 < a.toNat → exec .clearEvents s = .next (s.quiet.answered r l (refused .range)))
        ∧ ∀ c, scopeOf a.toNat = some c → Answers (exec .clearEvents s) fun t =>
          (∀ i, i < scopeFlagCount c →
              (t.mrh.latched.get c).getLsbD i = ((s.mrh.latched.get c).getLsbD i && !(x ++ y).getLsbD i))
            ∧ (∀ i, scopeFlagCount c ≤ i → (t.mrh.latched.get c).getLsbD i = (s.mrh.latched.get c).getLsbD i)
            ∧ (∀ d, d ≠ c → t.mrh.latched.get d = s.mrh.latched.get d) ∧ t.mrh.masked = s.mrh.masked
            ∧ t.mrh.notices = s.mrh.notices ∧ t.mrh.requests = l
            ∧ t.mrh.responses
              = s.mrh.responses ++ [⟨r.source, r.tag, r.code, doneWith [.code 2 (s.mrh.latched.get c).toNat]⟩])
    ∧ ∀ (s : State) (r : Request) (l : List Request) (a : Byte) (x y : Byte), AtHead s r l → r.code = 26 → r.args = [a, x, y] →
      (4 < a.toNat → exec .setEventMask s = .next (s.quiet.answered r l (refused .range)))
        ∧ ∀ c, scopeOf a.toNat = some c → Answers (exec .setEventMask s) fun t =>
          (∀ i, i < scopeFlagCount c → (t.mrh.masked.get c).getLsbD i = (x ++ y).getLsbD i)
            ∧ (∀ d, d ≠ c → t.mrh.masked.get d = s.mrh.masked.get d) ∧ t.mrh.latched = s.mrh.latched
            ∧ t.mrh.notices = s.mrh.notices ∧ t.mrh.requests = l
            ∧ t.mrh.responses = s.mrh.responses ++ [⟨r.source, r.tag, r.code, done⟩]

/-! ## Every step -/

/-- Settling leaves no event due and no request queued, whatever state it begins in (R183; the model's order of events, entries 1
and 4). -/
def Obligations.SettleEmpties : Prop := ∀ s : State, s.settle.due = [] ∧ s.settle.mrh.requests = []

/-- The reset state keeps every law. -/
def Obligations.ResetLawful : Prop := Lawful State.reset

/-- Every step keeps the clamp law (R37, R38). -/
def Obligations.ClampKept : Prop := ∀ s t : State, ClampLaw s → step s = .next t → ClampLaw t

/-- Every step keeps the shore share law (R104). -/
def Obligations.ShoreShareKept : Prop := ∀ s t : State, ShoreShareLaw s → step s = .next t → ShoreShareLaw t

/-- Every step keeps the queue law, the record ring law and the clock law (R181, R159, R137); and it keeps the tick law, that the events
of a second tick are due once at most and only while the tick's work is held (R137; the model's form of it, entries 1 and 24). It keeps
the notice law, under which at most 5 notices are queued (R189). -/
def Obligations.QueuesRingAndClockKept : Prop :=
  (∀ s t : State, QueueLaw s → RecordRingLaw s → ClockLaw s → step s = .next t → QueueLaw t ∧ RecordRingLaw t ∧ ClockLaw t)
    ∧ (∀ s t : State, TickLaw s → step s = .next t → TickLaw t)
    ∧ ∀ s t : State, NoticeLaw s → step s = .next t → NoticeLaw t ∧ t.mrh.notices.length ≤ 5
end

