-- ==== Sys2Proof/Laws/State.lean ====
section
/-! SUPPORT. The small lemmas of the state's records: reading a vector after writing it, and for every update of the state each field
and each record it leaves alone, so that no later proof unfolds a record update. -/

namespace Sys2Proof.Machine

set_option Elab.async false

open Sys2Proof

/-! ## Vectors of records -/

/-- A record read by its number. -/
theorem vget_getElem {α : Type} {n : Nat} (v : Vector α n) (i : Fin n) : vget v i = v[i.val] := rfl

/-- Reading a record after writing it. -/
@[simp] theorem vget_vset_self {α : Type} {n : Nat} (v : Vector α n) (i : Fin n) (x : α) : vget (vset v i x) i = x := by
  simp [vget_getElem, vset]

/-- Reading another record than the one written. -/
@[simp] theorem vget_vset_ne {α : Type} {n : Nat} (v : Vector α n) {i j : Fin n} (x : α) (h : j ≠ i) :
    vget (vset v i x) j = vget v j := by
  have hv : i.val ≠ j.val := fun e => h (Fin.ext e.symm)
  simp [vget_getElem, vset, hv]

/-- Reading any record after writing one. -/
theorem vget_vset {α : Type} {n : Nat} (v : Vector α n) (i j : Fin n) (x : α) :
    vget (vset v i x) j = if j = i then x else vget v j := by
  by_cases h : j = i
  · subst h; simp
  · simp [h]

/-- Writing a record twice leaves the second. -/
@[simp] theorem vset_vset {α : Type} {n : Nat} (v : Vector α n) (i : Fin n) (x y : α) : vset (vset v i x) i y = vset v i y := by
  simp [vset]

/-- Writing the record that stands there changes nothing. -/
@[simp] theorem vset_vget {α : Type} {n : Nat} (v : Vector α n) (i : Fin n) : vset v i (vget v i) = v := by
  apply Vector.ext
  intro k hk
  simp only [vset, vget_getElem, Vector.getElem_set]
  split <;> simp_all

/-- A record of a vector made of copies. -/
@[simp] theorem vget_replicate {α : Type} {n : Nat} (x : α) (i : Fin n) : vget (Vector.replicate n x) i = x := by
  simp [vget_getElem]

/-- A record of a mapped vector. -/
@[simp] theorem vget_vmapIx {α β : Type} {n : Nat} (f : Fin n → α → β) (v : Vector α n) (i : Fin n) :
    vget (vmapIx f v) i = f i (vget v i) := by
  simp [vget_getElem, vmapIx]

/-- Two vectors with the same records are the same. -/
theorem vget_ext {α : Type} {n : Nat} {v w : Vector α n} (h : ∀ i, vget v i = vget w i) : v = w := by
  apply Vector.ext
  intro k hk
  have := h ⟨k, hk⟩
  simpa [vget_getElem] using this

/-! ## Fields that an update leaves alone -/

/-! ### `setSession` -/

@[simp] theorem setSession_pending (s : State) (b : Berth) (r : Session) : (s.setSession b r).pending = s.pending := rfl
@[simp] theorem setSession_due (s : State) (b : Berth) (r : Session) : (s.setSession b r).due = s.due := rfl
@[simp] theorem setSession_ringOut (s : State) (b : Berth) (r : Session) : (s.setSession b r).ringOut = s.ringOut := rfl
@[simp] theorem setSession_resetHeld (s : State) (b : Berth) (r : Session) : (s.setSession b r).resetHeld = s.resetHeld := rfl
@[simp] theorem setSession_rif (s : State) (b : Berth) (r : Session) : (s.setSession b r).rif = s.rif := rfl
@[simp] theorem setSession_mfe (s : State) (b : Berth) (r : Session) : (s.setSession b r).mfe = s.mfe := rfl
@[simp] theorem setSession_rob (s : State) (b : Berth) (r : Session) : (s.setSession b r).rob = s.rob := rfl
@[simp] theorem setSession_mpm (s : State) (b : Berth) (r : Session) : (s.setSession b r).mpm = s.mpm := rfl
@[simp] theorem setSession_bsy (s : State) (b : Berth) (r : Session) : (s.setSession b r).bsy = s.bsy := rfl
@[simp] theorem setSession_sup (s : State) (b : Berth) (r : Session) : (s.setSession b r).sup = s.sup := rfl
@[simp] theorem setSession_ctu (s : State) (b : Berth) (r : Session) : (s.setSession b r).ctu = s.ctu := rfl
@[simp] theorem setSession_mbu (s : State) (b : Berth) (r : Session) : (s.setSession b r).mbu = s.mbu := rfl
@[simp] theorem setSession_cfs (s : State) (b : Berth) (r : Session) : (s.setSession b r).cfs = s.cfs := rfl
@[simp] theorem setSession_mrh (s : State) (b : Berth) (r : Session) : (s.setSession b r).mrh = s.mrh := rfl
@[simp] theorem setSession_osc (s : State) (b : Berth) (r : Session) (c : Berth) : (s.setSession b r).osc c = s.osc c := rfl
@[simp] theorem setSession_module (s : State) (b : Berth) (r : Session) (i : ModuleId) : (s.setSession b r).module i = s.module i := rfl
@[simp] theorem setSession_breaker (s : State) (b : Berth) (r : Session) (j : Breaker) : (s.setSession b r).breaker j = s.breaker j := by cases j <;> rfl
@[simp] theorem setSession_sync (s : State) (b : Berth) (r : Session) (c : Berth) : (s.setSession b r).sync c = s.sync c := rfl
@[simp] theorem setSession_superv (s : State) (b : Berth) (r : Session) (c : Berth) : (s.setSession b r).superv c = s.superv c := rfl
@[simp] theorem setSession_meter (s : State) (b : Berth) (r : Session) (c : Berth) : (s.setSession b r).meter c = s.meter c := rfl
@[simp] theorem setSession_meas (s : State) (b : Berth) (r : Session) (q : Point) : (s.setSession b r).meas q = s.meas q := by cases q <;> rfl
@[simp] theorem setSession_health (s : State) (b : Berth) (r : Session) (i : NodeIx) : (s.setSession b r).health i = s.health i := rfl
@[simp] theorem setSession_nodeEntry (s : State) (b : Berth) (r : Session) (i : NodeIx) : (s.setSession b r).nodeEntry i = s.nodeEntry i := rfl
@[simp] theorem setSession_berthEntry (s : State) (b : Berth) (r : Session) (c : Berth) : (s.setSession b r).berthEntry c = s.berthEntry c := rfl
@[simp] theorem setSession_moduleEntry (s : State) (b : Berth) (r : Session) (i : ModuleId) : (s.setSession b r).moduleEntry i = s.moduleEntry i := rfl
@[simp] theorem setSession_breakerEntry (s : State) (b : Berth) (r : Session) (j : Breaker) : (s.setSession b r).breakerEntry j = s.breakerEntry j := by cases j <;> rfl
@[simp] theorem setSession_operating (s : State) (b : Berth) (r : Session) : (s.setSession b r).operating = s.operating := rfl
@[simp] theorem setSession_ext (s : State) (b : Berth) (r : Session) : (s.setSession b r).ext = s.ext := rfl
@[simp] theorem setSession_endedExt (s : State) (b : Berth) (r : Session) : (s.setSession b r).endedExt = s.endedExt := rfl
@[simp] theorem setSession_session_self (s : State) (b : Berth) (r : Session) : (s.setSession b r).session b = r := by simp [State.session, State.setSession]
@[simp] theorem setSession_session_ne (s : State) (b : Berth) (r : Session) {x : Berth} (h : x ≠ b) : (s.setSession b r).session x = s.session x := by simp [State.session, State.setSession, h]
theorem setSession_session_eq (s : State) (b : Berth) (r : Session) (x : Berth) : (s.setSession b r).session x = if x = b then r else s.session x := by
  by_cases h : x = b
  · subst h; simp
  · simp [h]
@[simp] theorem setSession_twice (s : State) (b : Berth) (r : Session) (r2 : Session) : (s.setSession b r).setSession b r2 = s.setSession b r2 := by simp [State.setSession]

/-! ### `setOsc` -/

@[simp] theorem setOsc_pending (s : State) (b : Berth) (r : Osc) : (s.setOsc b r).pending = s.pending := rfl
@[simp] theorem setOsc_due (s : State) (b : Berth) (r : Osc) : (s.setOsc b r).due = s.due := rfl
@[simp] theorem setOsc_ringOut (s : State) (b : Berth) (r : Osc) : (s.setOsc b r).ringOut = s.ringOut := rfl
@[simp] theorem setOsc_resetHeld (s : State) (b : Berth) (r : Osc) : (s.setOsc b r).resetHeld = s.resetHeld := rfl
@[simp] theorem setOsc_rif (s : State) (b : Berth) (r : Osc) : (s.setOsc b r).rif = s.rif := rfl
@[simp] theorem setOsc_mfe (s : State) (b : Berth) (r : Osc) : (s.setOsc b r).mfe = s.mfe := rfl
@[simp] theorem setOsc_mpm (s : State) (b : Berth) (r : Osc) : (s.setOsc b r).mpm = s.mpm := rfl
@[simp] theorem setOsc_bsy (s : State) (b : Berth) (r : Osc) : (s.setOsc b r).bsy = s.bsy := rfl
@[simp] theorem setOsc_ses (s : State) (b : Berth) (r : Osc) : (s.setOsc b r).ses = s.ses := rfl
@[simp] theorem setOsc_sup (s : State) (b : Berth) (r : Osc) : (s.setOsc b r).sup = s.sup := rfl
@[simp] theorem setOsc_ctu (s : State) (b : Berth) (r : Osc) : (s.setOsc b r).ctu = s.ctu := rfl
@[simp] theorem setOsc_mbu (s : State) (b : Berth) (r : Osc) : (s.setOsc b r).mbu = s.mbu := rfl
@[simp] theorem setOsc_cfs (s : State) (b : Berth) (r : Osc) : (s.setOsc b r).cfs = s.cfs := rfl
@[simp] theorem setOsc_mrh (s : State) (b : Berth) (r : Osc) : (s.setOsc b r).mrh = s.mrh := rfl
@[simp] theorem setOsc_session (s : State) (b : Berth) (r : Osc) (c : Berth) : (s.setOsc b r).session c = s.session c := rfl
@[simp] theorem setOsc_module (s : State) (b : Berth) (r : Osc) (i : ModuleId) : (s.setOsc b r).module i = s.module i := rfl
@[simp] theorem setOsc_breaker (s : State) (b : Berth) (r : Osc) (j : Breaker) : (s.setOsc b r).breaker j = s.breaker j := by cases j <;> rfl
@[simp] theorem setOsc_sync (s : State) (b : Berth) (r : Osc) (c : Berth) : (s.setOsc b r).sync c = s.sync c := rfl
@[simp] theorem setOsc_superv (s : State) (b : Berth) (r : Osc) (c : Berth) : (s.setOsc b r).superv c = s.superv c := rfl
@[simp] theorem setOsc_meter (s : State) (b : Berth) (r : Osc) (c : Berth) : (s.setOsc b r).meter c = s.meter c := rfl
@[simp] theorem setOsc_meas (s : State) (b : Berth) (r : Osc) (q : Point) : (s.setOsc b r).meas q = s.meas q := by cases q <;> rfl
@[simp] theorem setOsc_health (s : State) (b : Berth) (r : Osc) (i : NodeIx) : (s.setOsc b r).health i = s.health i := rfl
@[simp] theorem setOsc_nodeEntry (s : State) (b : Berth) (r : Osc) (i : NodeIx) : (s.setOsc b r).nodeEntry i = s.nodeEntry i := rfl
@[simp] theorem setOsc_berthEntry (s : State) (b : Berth) (r : Osc) (c : Berth) : (s.setOsc b r).berthEntry c = s.berthEntry c := rfl
@[simp] theorem setOsc_moduleEntry (s : State) (b : Berth) (r : Osc) (i : ModuleId) : (s.setOsc b r).moduleEntry i = s.moduleEntry i := rfl
@[simp] theorem setOsc_breakerEntry (s : State) (b : Berth) (r : Osc) (j : Breaker) : (s.setOsc b r).breakerEntry j = s.breakerEntry j := by cases j <;> rfl
@[simp] theorem setOsc_operating (s : State) (b : Berth) (r : Osc) : (s.setOsc b r).operating = s.operating := rfl
@[simp] theorem setOsc_ext (s : State) (b : Berth) (r : Osc) : (s.setOsc b r).ext = s.ext := rfl
@[simp] theorem setOsc_endedExt (s : State) (b : Berth) (r : Osc) : (s.setOsc b r).endedExt = s.endedExt := rfl
@[simp] theorem setOsc_osc_self (s : State) (b : Berth) (r : Osc) : (s.setOsc b r).osc b = r := by simp [State.osc, State.setOsc]
@[simp] theorem setOsc_osc_ne (s : State) (b : Berth) (r : Osc) {x : Berth} (h : x ≠ b) : (s.setOsc b r).osc x = s.osc x := by simp [State.osc, State.setOsc, h]
theorem setOsc_osc_eq (s : State) (b : Berth) (r : Osc) (x : Berth) : (s.setOsc b r).osc x = if x = b then r else s.osc x := by
  by_cases h : x = b
  · subst h; simp
  · simp [h]
@[simp] theorem setOsc_twice (s : State) (b : Berth) (r : Osc) (r2 : Osc) : (s.setOsc b r).setOsc b r2 = s.setOsc b r2 := by simp [State.setOsc]

/-! ### `setModule` -/

@[simp] theorem setModule_pending (s : State) (m : ModuleId) (r : ModuleRecord) : (s.setModule m r).pending = s.pending := rfl
@[simp] theorem setModule_due (s : State) (m : ModuleId) (r : ModuleRecord) : (s.setModule m r).due = s.due := rfl
@[simp] theorem setModule_ringOut (s : State) (m : ModuleId) (r : ModuleRecord) : (s.setModule m r).ringOut = s.ringOut := rfl
@[simp] theorem setModule_resetHeld (s : State) (m : ModuleId) (r : ModuleRecord) : (s.setModule m r).resetHeld = s.resetHeld := rfl
@[simp] theorem setModule_rif (s : State) (m : ModuleId) (r : ModuleRecord) : (s.setModule m r).rif = s.rif := rfl
@[simp] theorem setModule_mfe (s : State) (m : ModuleId) (r : ModuleRecord) : (s.setModule m r).mfe = s.mfe := rfl
@[simp] theorem setModule_rob (s : State) (m : ModuleId) (r : ModuleRecord) : (s.setModule m r).rob = s.rob := rfl
@[simp] theorem setModule_bsy (s : State) (m : ModuleId) (r : ModuleRecord) : (s.setModule m r).bsy = s.bsy := rfl
@[simp] theorem setModule_ses (s : State) (m : ModuleId) (r : ModuleRecord) : (s.setModule m r).ses = s.ses := rfl
@[simp] theorem setModule_sup (s : State) (m : ModuleId) (r : ModuleRecord) : (s.setModule m r).sup = s.sup := rfl
@[simp] theorem setModule_ctu (s : State) (m : ModuleId) (r : ModuleRecord) : (s.setModule m r).ctu = s.ctu := rfl
@[simp] theorem setModule_mbu (s : State) (m : ModuleId) (r : ModuleRecord) : (s.setModule m r).mbu = s.mbu := rfl
@[simp] theorem setModule_cfs (s : State) (m : ModuleId) (r : ModuleRecord) : (s.setModule m r).cfs = s.cfs := rfl
@[simp] theorem setModule_mrh (s : State) (m : ModuleId) (r : ModuleRecord) : (s.setModule m r).mrh = s.mrh := rfl
@[simp] theorem setModule_session (s : State) (m : ModuleId) (r : ModuleRecord) (c : Berth) : (s.setModule m r).session c = s.session c := rfl
@[simp] theorem setModule_osc (s : State) (m : ModuleId) (r : ModuleRecord) (c : Berth) : (s.setModule m r).osc c = s.osc c := rfl
@[simp] theorem setModule_breaker (s : State) (m : ModuleId) (r : ModuleRecord) (j : Breaker) : (s.setModule m r).breaker j = s.breaker j := by cases j <;> rfl
@[simp] theorem setModule_sync (s : State) (m : ModuleId) (r : ModuleRecord) (c : Berth) : (s.setModule m r).sync c = s.sync c := rfl
@[simp] theorem setModule_superv (s : State) (m : ModuleId) (r : ModuleRecord) (c : Berth) : (s.setModule m r).superv c = s.superv c := rfl
@[simp] theorem setModule_meter (s : State) (m : ModuleId) (r : ModuleRecord) (c : Berth) : (s.setModule m r).meter c = s.meter c := rfl
@[simp] theorem setModule_meas (s : State) (m : ModuleId) (r : ModuleRecord) (q : Point) : (s.setModule m r).meas q = s.meas q := by cases q <;> rfl
@[simp] theorem setModule_health (s : State) (m : ModuleId) (r : ModuleRecord) (i : NodeIx) : (s.setModule m r).health i = s.health i := rfl
@[simp] theorem setModule_nodeEntry (s : State) (m : ModuleId) (r : ModuleRecord) (i : NodeIx) : (s.setModule m r).nodeEntry i = s.nodeEntry i := rfl
@[simp] theorem setModule_berthEntry (s : State) (m : ModuleId) (r : ModuleRecord) (c : Berth) : (s.setModule m r).berthEntry c = s.berthEntry c := rfl
@[simp] theorem setModule_moduleEntry (s : State) (m : ModuleId) (r : ModuleRecord) (i : ModuleId) : (s.setModule m r).moduleEntry i = s.moduleEntry i := rfl
@[simp] theorem setModule_breakerEntry (s : State) (m : ModuleId) (r : ModuleRecord) (j : Breaker) : (s.setModule m r).breakerEntry j = s.breakerEntry j := by cases j <;> rfl
@[simp] theorem setModule_operating (s : State) (m : ModuleId) (r : ModuleRecord) : (s.setModule m r).operating = s.operating := rfl
@[simp] theorem setModule_ext (s : State) (m : ModuleId) (r : ModuleRecord) : (s.setModule m r).ext = s.ext := rfl
@[simp] theorem setModule_endedExt (s : State) (m : ModuleId) (r : ModuleRecord) : (s.setModule m r).endedExt = s.endedExt := rfl
@[simp] theorem setModule_module_self (s : State) (m : ModuleId) (r : ModuleRecord) : (s.setModule m r).module m = r := by simp [State.module, State.setModule]
@[simp] theorem setModule_module_ne (s : State) (m : ModuleId) (r : ModuleRecord) {x : ModuleId} (h : x ≠ m) : (s.setModule m r).module x = s.module x := by simp [State.module, State.setModule, h]
theorem setModule_module_eq (s : State) (m : ModuleId) (r : ModuleRecord) (x : ModuleId) : (s.setModule m r).module x = if x = m then r else s.module x := by
  by_cases h : x = m
  · subst h; simp
  · simp [h]
@[simp] theorem setModule_twice (s : State) (m : ModuleId) (r : ModuleRecord) (r2 : ModuleRecord) : (s.setModule m r).setModule m r2 = s.setModule m r2 := by simp [State.setModule]

/-! ### `setBreaker` -/

@[simp] theorem setBreaker_pending (s : State) (k : Breaker) (r : BreakerRecord) : (s.setBreaker k r).pending = s.pending := by cases k <;> rfl
@[simp] theorem setBreaker_due (s : State) (k : Breaker) (r : BreakerRecord) : (s.setBreaker k r).due = s.due := by cases k <;> rfl
@[simp] theorem setBreaker_ringOut (s : State) (k : Breaker) (r : BreakerRecord) : (s.setBreaker k r).ringOut = s.ringOut := by cases k <;> rfl
@[simp] theorem setBreaker_resetHeld (s : State) (k : Breaker) (r : BreakerRecord) : (s.setBreaker k r).resetHeld = s.resetHeld := by cases k <;> rfl
@[simp] theorem setBreaker_rif (s : State) (k : Breaker) (r : BreakerRecord) : (s.setBreaker k r).rif = s.rif := by cases k <;> rfl
@[simp] theorem setBreaker_mfe (s : State) (k : Breaker) (r : BreakerRecord) : (s.setBreaker k r).mfe = s.mfe := by cases k <;> rfl
@[simp] theorem setBreaker_rob (s : State) (k : Breaker) (r : BreakerRecord) : (s.setBreaker k r).rob = s.rob := by cases k <;> rfl
@[simp] theorem setBreaker_mpm (s : State) (k : Breaker) (r : BreakerRecord) : (s.setBreaker k r).mpm = s.mpm := by cases k <;> rfl
@[simp] theorem setBreaker_ses (s : State) (k : Breaker) (r : BreakerRecord) : (s.setBreaker k r).ses = s.ses := by cases k <;> rfl
@[simp] theorem setBreaker_sup (s : State) (k : Breaker) (r : BreakerRecord) : (s.setBreaker k r).sup = s.sup := by cases k <;> rfl
@[simp] theorem setBreaker_ctu (s : State) (k : Breaker) (r : BreakerRecord) : (s.setBreaker k r).ctu = s.ctu := by cases k <;> rfl
@[simp] theorem setBreaker_mbu (s : State) (k : Breaker) (r : BreakerRecord) : (s.setBreaker k r).mbu = s.mbu := by cases k <;> rfl
@[simp] theorem setBreaker_cfs (s : State) (k : Breaker) (r : BreakerRecord) : (s.setBreaker k r).cfs = s.cfs := by cases k <;> rfl
@[simp] theorem setBreaker_mrh (s : State) (k : Breaker) (r : BreakerRecord) : (s.setBreaker k r).mrh = s.mrh := by cases k <;> rfl
@[simp] theorem setBreaker_session (s : State) (k : Breaker) (r : BreakerRecord) (c : Berth) : (s.setBreaker k r).session c = s.session c := by cases k <;> rfl
@[simp] theorem setBreaker_osc (s : State) (k : Breaker) (r : BreakerRecord) (c : Berth) : (s.setBreaker k r).osc c = s.osc c := by cases k <;> rfl
@[simp] theorem setBreaker_module (s : State) (k : Breaker) (r : BreakerRecord) (i : ModuleId) : (s.setBreaker k r).module i = s.module i := by cases k <;> rfl
@[simp] theorem setBreaker_sync (s : State) (k : Breaker) (r : BreakerRecord) (c : Berth) : (s.setBreaker k r).sync c = s.sync c := by cases k <;> rfl
@[simp] theorem setBreaker_superv (s : State) (k : Breaker) (r : BreakerRecord) (c : Berth) : (s.setBreaker k r).superv c = s.superv c := by cases k <;> rfl
@[simp] theorem setBreaker_meter (s : State) (k : Breaker) (r : BreakerRecord) (c : Berth) : (s.setBreaker k r).meter c = s.meter c := by cases k <;> rfl
@[simp] theorem setBreaker_meas (s : State) (k : Breaker) (r : BreakerRecord) (q : Point) : (s.setBreaker k r).meas q = s.meas q := by cases k <;> cases q <;> rfl
@[simp] theorem setBreaker_health (s : State) (k : Breaker) (r : BreakerRecord) (i : NodeIx) : (s.setBreaker k r).health i = s.health i := by cases k <;> rfl
@[simp] theorem setBreaker_nodeEntry (s : State) (k : Breaker) (r : BreakerRecord) (i : NodeIx) : (s.setBreaker k r).nodeEntry i = s.nodeEntry i := by cases k <;> rfl
@[simp] theorem setBreaker_berthEntry (s : State) (k : Breaker) (r : BreakerRecord) (c : Berth) : (s.setBreaker k r).berthEntry c = s.berthEntry c := by cases k <;> rfl
@[simp] theorem setBreaker_moduleEntry (s : State) (k : Breaker) (r : BreakerRecord) (i : ModuleId) : (s.setBreaker k r).moduleEntry i = s.moduleEntry i := by cases k <;> rfl
@[simp] theorem setBreaker_breakerEntry (s : State) (k : Breaker) (r : BreakerRecord) (j : Breaker) : (s.setBreaker k r).breakerEntry j = s.breakerEntry j := by cases k <;> cases j <;> rfl
@[simp] theorem setBreaker_operating (s : State) (k : Breaker) (r : BreakerRecord) : (s.setBreaker k r).operating = s.operating := by cases k <;> rfl
@[simp] theorem setBreaker_ext (s : State) (k : Breaker) (r : BreakerRecord) : (s.setBreaker k r).ext = s.ext := by cases k <;> rfl
@[simp] theorem setBreaker_endedExt (s : State) (k : Breaker) (r : BreakerRecord) : (s.setBreaker k r).endedExt = s.endedExt := by cases k <;> rfl
@[simp] theorem setBreaker_breaker_self (s : State) (k : Breaker) (r : BreakerRecord) : (s.setBreaker k r).breaker k = r := by cases k <;> simp [State.breaker, State.setBreaker]
@[simp] theorem setBreaker_breaker_ne (s : State) (k : Breaker) (r : BreakerRecord) {x : Breaker} (h : x ≠ k) : (s.setBreaker k r).breaker x = s.breaker x := by
  cases k <;> cases x <;> simp_all [State.breaker, State.setBreaker]
theorem setBreaker_breaker_eq (s : State) (k : Breaker) (r : BreakerRecord) (x : Breaker) : (s.setBreaker k r).breaker x = if x = k then r else s.breaker x := by
  by_cases h : x = k
  · subst h; simp
  · simp [h]
@[simp] theorem setBreaker_twice (s : State) (k : Breaker) (r : BreakerRecord) (r2 : BreakerRecord) : (s.setBreaker k r).setBreaker k r2 = s.setBreaker k r2 := by cases k <;> simp [State.setBreaker]

/-! ### `setSync` -/

@[simp] theorem setSync_pending (s : State) (b : Berth) (r : SyncRecord) : (s.setSync b r).pending = s.pending := rfl
@[simp] theorem setSync_due (s : State) (b : Berth) (r : SyncRecord) : (s.setSync b r).due = s.due := rfl
@[simp] theorem setSync_ringOut (s : State) (b : Berth) (r : SyncRecord) : (s.setSync b r).ringOut = s.ringOut := rfl
@[simp] theorem setSync_resetHeld (s : State) (b : Berth) (r : SyncRecord) : (s.setSync b r).resetHeld = s.resetHeld := rfl
@[simp] theorem setSync_rif (s : State) (b : Berth) (r : SyncRecord) : (s.setSync b r).rif = s.rif := rfl
@[simp] theorem setSync_mfe (s : State) (b : Berth) (r : SyncRecord) : (s.setSync b r).mfe = s.mfe := rfl
@[simp] theorem setSync_rob (s : State) (b : Berth) (r : SyncRecord) : (s.setSync b r).rob = s.rob := rfl
@[simp] theorem setSync_mpm (s : State) (b : Berth) (r : SyncRecord) : (s.setSync b r).mpm = s.mpm := rfl
@[simp] theorem setSync_ses (s : State) (b : Berth) (r : SyncRecord) : (s.setSync b r).ses = s.ses := rfl
@[simp] theorem setSync_sup (s : State) (b : Berth) (r : SyncRecord) : (s.setSync b r).sup = s.sup := rfl
@[simp] theorem setSync_ctu (s : State) (b : Berth) (r : SyncRecord) : (s.setSync b r).ctu = s.ctu := rfl
@[simp] theorem setSync_mbu (s : State) (b : Berth) (r : SyncRecord) : (s.setSync b r).mbu = s.mbu := rfl
@[simp] theorem setSync_cfs (s : State) (b : Berth) (r : SyncRecord) : (s.setSync b r).cfs = s.cfs := rfl
@[simp] theorem setSync_mrh (s : State) (b : Berth) (r : SyncRecord) : (s.setSync b r).mrh = s.mrh := rfl
@[simp] theorem setSync_session (s : State) (b : Berth) (r : SyncRecord) (c : Berth) : (s.setSync b r).session c = s.session c := rfl
@[simp] theorem setSync_osc (s : State) (b : Berth) (r : SyncRecord) (c : Berth) : (s.setSync b r).osc c = s.osc c := rfl
@[simp] theorem setSync_module (s : State) (b : Berth) (r : SyncRecord) (i : ModuleId) : (s.setSync b r).module i = s.module i := rfl
@[simp] theorem setSync_breaker (s : State) (b : Berth) (r : SyncRecord) (j : Breaker) : (s.setSync b r).breaker j = s.breaker j := by cases j <;> rfl
@[simp] theorem setSync_superv (s : State) (b : Berth) (r : SyncRecord) (c : Berth) : (s.setSync b r).superv c = s.superv c := rfl
@[simp] theorem setSync_meter (s : State) (b : Berth) (r : SyncRecord) (c : Berth) : (s.setSync b r).meter c = s.meter c := rfl
@[simp] theorem setSync_meas (s : State) (b : Berth) (r : SyncRecord) (q : Point) : (s.setSync b r).meas q = s.meas q := by cases q <;> rfl
@[simp] theorem setSync_health (s : State) (b : Berth) (r : SyncRecord) (i : NodeIx) : (s.setSync b r).health i = s.health i := rfl
@[simp] theorem setSync_nodeEntry (s : State) (b : Berth) (r : SyncRecord) (i : NodeIx) : (s.setSync b r).nodeEntry i = s.nodeEntry i := rfl
@[simp] theorem setSync_berthEntry (s : State) (b : Berth) (r : SyncRecord) (c : Berth) : (s.setSync b r).berthEntry c = s.berthEntry c := rfl
@[simp] theorem setSync_moduleEntry (s : State) (b : Berth) (r : SyncRecord) (i : ModuleId) : (s.setSync b r).moduleEntry i = s.moduleEntry i := rfl
@[simp] theorem setSync_breakerEntry (s : State) (b : Berth) (r : SyncRecord) (j : Breaker) : (s.setSync b r).breakerEntry j = s.breakerEntry j := by cases j <;> rfl
@[simp] theorem setSync_operating (s : State) (b : Berth) (r : SyncRecord) : (s.setSync b r).operating = s.operating := rfl
@[simp] theorem setSync_ext (s : State) (b : Berth) (r : SyncRecord) : (s.setSync b r).ext = s.ext := rfl
@[simp] theorem setSync_endedExt (s : State) (b : Berth) (r : SyncRecord) : (s.setSync b r).endedExt = s.endedExt := rfl
@[simp] theorem setSync_sync_self (s : State) (b : Berth) (r : SyncRecord) : (s.setSync b r).sync b = r := by simp [State.sync, State.setSync]
@[simp] theorem setSync_sync_ne (s : State) (b : Berth) (r : SyncRecord) {x : Berth} (h : x ≠ b) : (s.setSync b r).sync x = s.sync x := by simp [State.sync, State.setSync, h]
theorem setSync_sync_eq (s : State) (b : Berth) (r : SyncRecord) (x : Berth) : (s.setSync b r).sync x = if x = b then r else s.sync x := by
  by_cases h : x = b
  · subst h; simp
  · simp [h]
@[simp] theorem setSync_twice (s : State) (b : Berth) (r : SyncRecord) (r2 : SyncRecord) : (s.setSync b r).setSync b r2 = s.setSync b r2 := by simp [State.setSync]

/-! ### `setSuperv` -/

@[simp] theorem setSuperv_pending (s : State) (b : Berth) (r : Supervision) : (s.setSuperv b r).pending = s.pending := rfl
@[simp] theorem setSuperv_due (s : State) (b : Berth) (r : Supervision) : (s.setSuperv b r).due = s.due := rfl
@[simp] theorem setSuperv_ringOut (s : State) (b : Berth) (r : Supervision) : (s.setSuperv b r).ringOut = s.ringOut := rfl
@[simp] theorem setSuperv_resetHeld (s : State) (b : Berth) (r : Supervision) : (s.setSuperv b r).resetHeld = s.resetHeld := rfl
@[simp] theorem setSuperv_rif (s : State) (b : Berth) (r : Supervision) : (s.setSuperv b r).rif = s.rif := rfl
@[simp] theorem setSuperv_mfe (s : State) (b : Berth) (r : Supervision) : (s.setSuperv b r).mfe = s.mfe := rfl
@[simp] theorem setSuperv_rob (s : State) (b : Berth) (r : Supervision) : (s.setSuperv b r).rob = s.rob := rfl
@[simp] theorem setSuperv_mpm (s : State) (b : Berth) (r : Supervision) : (s.setSuperv b r).mpm = s.mpm := rfl
@[simp] theorem setSuperv_bsy (s : State) (b : Berth) (r : Supervision) : (s.setSuperv b r).bsy = s.bsy := rfl
@[simp] theorem setSuperv_ses (s : State) (b : Berth) (r : Supervision) : (s.setSuperv b r).ses = s.ses := rfl
@[simp] theorem setSuperv_ctu (s : State) (b : Berth) (r : Supervision) : (s.setSuperv b r).ctu = s.ctu := rfl
@[simp] theorem setSuperv_mbu (s : State) (b : Berth) (r : Supervision) : (s.setSuperv b r).mbu = s.mbu := rfl
@[simp] theorem setSuperv_cfs (s : State) (b : Berth) (r : Supervision) : (s.setSuperv b r).cfs = s.cfs := rfl
@[simp] theorem setSuperv_mrh (s : State) (b : Berth) (r : Supervision) : (s.setSuperv b r).mrh = s.mrh := rfl
@[simp] theorem setSuperv_session (s : State) (b : Berth) (r : Supervision) (c : Berth) : (s.setSuperv b r).session c = s.session c := rfl
@[simp] theorem setSuperv_osc (s : State) (b : Berth) (r : Supervision) (c : Berth) : (s.setSuperv b r).osc c = s.osc c := rfl
@[simp] theorem setSuperv_module (s : State) (b : Berth) (r : Supervision) (i : ModuleId) : (s.setSuperv b r).module i = s.module i := rfl
@[simp] theorem setSuperv_breaker (s : State) (b : Berth) (r : Supervision) (j : Breaker) : (s.setSuperv b r).breaker j = s.breaker j := by cases j <;> rfl
@[simp] theorem setSuperv_sync (s : State) (b : Berth) (r : Supervision) (c : Berth) : (s.setSuperv b r).sync c = s.sync c := rfl
@[simp] theorem setSuperv_meter (s : State) (b : Berth) (r : Supervision) (c : Berth) : (s.setSuperv b r).meter c = s.meter c := rfl
@[simp] theorem setSuperv_meas (s : State) (b : Berth) (r : Supervision) (q : Point) : (s.setSuperv b r).meas q = s.meas q := by cases q <;> rfl
@[simp] theorem setSuperv_health (s : State) (b : Berth) (r : Supervision) (i : NodeIx) : (s.setSuperv b r).health i = s.health i := rfl
@[simp] theorem setSuperv_nodeEntry (s : State) (b : Berth) (r : Supervision) (i : NodeIx) : (s.setSuperv b r).nodeEntry i = s.nodeEntry i := rfl
@[simp] theorem setSuperv_berthEntry (s : State) (b : Berth) (r : Supervision) (c : Berth) : (s.setSuperv b r).berthEntry c = s.berthEntry c := rfl
@[simp] theorem setSuperv_moduleEntry (s : State) (b : Berth) (r : Supervision) (i : ModuleId) : (s.setSuperv b r).moduleEntry i = s.moduleEntry i := rfl
@[simp] theorem setSuperv_breakerEntry (s : State) (b : Berth) (r : Supervision) (j : Breaker) : (s.setSuperv b r).breakerEntry j = s.breakerEntry j := by cases j <;> rfl
@[simp] theorem setSuperv_operating (s : State) (b : Berth) (r : Supervision) : (s.setSuperv b r).operating = s.operating := rfl
@[simp] theorem setSuperv_ext (s : State) (b : Berth) (r : Supervision) : (s.setSuperv b r).ext = s.ext := rfl
@[simp] theorem setSuperv_endedExt (s : State) (b : Berth) (r : Supervision) : (s.setSuperv b r).endedExt = s.endedExt := rfl
@[simp] theorem setSuperv_superv_self (s : State) (b : Berth) (r : Supervision) : (s.setSuperv b r).superv b = r := by simp [State.superv, State.setSuperv]
@[simp] theorem setSuperv_superv_ne (s : State) (b : Berth) (r : Supervision) {x : Berth} (h : x ≠ b) : (s.setSuperv b r).superv x = s.superv x := by simp [State.superv, State.setSuperv, h]
theorem setSuperv_superv_eq (s : State) (b : Berth) (r : Supervision) (x : Berth) : (s.setSuperv b r).superv x = if x = b then r else s.superv x := by
  by_cases h : x = b
  · subst h; simp
  · simp [h]
@[simp] theorem setSuperv_twice (s : State) (b : Berth) (r : Supervision) (r2 : Supervision) : (s.setSuperv b r).setSuperv b r2 = s.setSuperv b r2 := by simp [State.setSuperv]

/-! ### `setMeter` -/

@[simp] theorem setMeter_pending (s : State) (b : Berth) (r : Meter) : (s.setMeter b r).pending = s.pending := rfl
@[simp] theorem setMeter_due (s : State) (b : Berth) (r : Meter) : (s.setMeter b r).due = s.due := rfl
@[simp] theorem setMeter_ringOut (s : State) (b : Berth) (r : Meter) : (s.setMeter b r).ringOut = s.ringOut := rfl
@[simp] theorem setMeter_resetHeld (s : State) (b : Berth) (r : Meter) : (s.setMeter b r).resetHeld = s.resetHeld := rfl
@[simp] theorem setMeter_rif (s : State) (b : Berth) (r : Meter) : (s.setMeter b r).rif = s.rif := rfl
@[simp] theorem setMeter_mfe (s : State) (b : Berth) (r : Meter) : (s.setMeter b r).mfe = s.mfe := rfl
@[simp] theorem setMeter_rob (s : State) (b : Berth) (r : Meter) : (s.setMeter b r).rob = s.rob := rfl
@[simp] theorem setMeter_mpm (s : State) (b : Berth) (r : Meter) : (s.setMeter b r).mpm = s.mpm := rfl
@[simp] theorem setMeter_bsy (s : State) (b : Berth) (r : Meter) : (s.setMeter b r).bsy = s.bsy := rfl
@[simp] theorem setMeter_ses (s : State) (b : Berth) (r : Meter) : (s.setMeter b r).ses = s.ses := rfl
@[simp] theorem setMeter_sup (s : State) (b : Berth) (r : Meter) : (s.setMeter b r).sup = s.sup := rfl
@[simp] theorem setMeter_ctu (s : State) (b : Berth) (r : Meter) : (s.setMeter b r).ctu = s.ctu := rfl
@[simp] theorem setMeter_cfs (s : State) (b : Berth) (r : Meter) : (s.setMeter b r).cfs = s.cfs := rfl
@[simp] theorem setMeter_mrh (s : State) (b : Berth) (r : Meter) : (s.setMeter b r).mrh = s.mrh := rfl
@[simp] theorem setMeter_session (s : State) (b : Berth) (r : Meter) (c : Berth) : (s.setMeter b r).session c = s.session c := rfl
@[simp] theorem setMeter_osc (s : State) (b : Berth) (r : Meter) (c : Berth) : (s.setMeter b r).osc c = s.osc c := rfl
@[simp] theorem setMeter_module (s : State) (b : Berth) (r : Meter) (i : ModuleId) : (s.setMeter b r).module i = s.module i := rfl
@[simp] theorem setMeter_breaker (s : State) (b : Berth) (r : Meter) (j : Breaker) : (s.setMeter b r).breaker j = s.breaker j := by cases j <;> rfl
@[simp] theorem setMeter_sync (s : State) (b : Berth) (r : Meter) (c : Berth) : (s.setMeter b r).sync c = s.sync c := rfl
@[simp] theorem setMeter_superv (s : State) (b : Berth) (r : Meter) (c : Berth) : (s.setMeter b r).superv c = s.superv c := rfl
@[simp] theorem setMeter_meas (s : State) (b : Berth) (r : Meter) (q : Point) : (s.setMeter b r).meas q = s.meas q := by cases q <;> rfl
@[simp] theorem setMeter_health (s : State) (b : Berth) (r : Meter) (i : NodeIx) : (s.setMeter b r).health i = s.health i := rfl
@[simp] theorem setMeter_nodeEntry (s : State) (b : Berth) (r : Meter) (i : NodeIx) : (s.setMeter b r).nodeEntry i = s.nodeEntry i := rfl
@[simp] theorem setMeter_berthEntry (s : State) (b : Berth) (r : Meter) (c : Berth) : (s.setMeter b r).berthEntry c = s.berthEntry c := rfl
@[simp] theorem setMeter_moduleEntry (s : State) (b : Berth) (r : Meter) (i : ModuleId) : (s.setMeter b r).moduleEntry i = s.moduleEntry i := rfl
@[simp] theorem setMeter_breakerEntry (s : State) (b : Berth) (r : Meter) (j : Breaker) : (s.setMeter b r).breakerEntry j = s.breakerEntry j := by cases j <;> rfl
@[simp] theorem setMeter_operating (s : State) (b : Berth) (r : Meter) : (s.setMeter b r).operating = s.operating := rfl
@[simp] theorem setMeter_ext (s : State) (b : Berth) (r : Meter) : (s.setMeter b r).ext = s.ext := rfl
@[simp] theorem setMeter_endedExt (s : State) (b : Berth) (r : Meter) : (s.setMeter b r).endedExt = s.endedExt := rfl
@[simp] theorem setMeter_meter_self (s : State) (b : Berth) (r : Meter) : (s.setMeter b r).meter b = r := by simp [State.meter, State.setMeter]
@[simp] theorem setMeter_meter_ne (s : State) (b : Berth) (r : Meter) {x : Berth} (h : x ≠ b) : (s.setMeter b r).meter x = s.meter x := by simp [State.meter, State.setMeter, h]
theorem setMeter_meter_eq (s : State) (b : Berth) (r : Meter) (x : Berth) : (s.setMeter b r).meter x = if x = b then r else s.meter x := by
  by_cases h : x = b
  · subst h; simp
  · simp [h]
@[simp] theorem setMeter_twice (s : State) (b : Berth) (r : Meter) (r2 : Meter) : (s.setMeter b r).setMeter b r2 = s.setMeter b r2 := by simp [State.setMeter]

/-! ### `setMeas` -/

@[simp] theorem setMeas_pending (s : State) (p : Point) (r : MeasRecord) : (s.setMeas p r).pending = s.pending := by cases p <;> rfl
@[simp] theorem setMeas_due (s : State) (p : Point) (r : MeasRecord) : (s.setMeas p r).due = s.due := by cases p <;> rfl
@[simp] theorem setMeas_ringOut (s : State) (p : Point) (r : MeasRecord) : (s.setMeas p r).ringOut = s.ringOut := by cases p <;> rfl
@[simp] theorem setMeas_resetHeld (s : State) (p : Point) (r : MeasRecord) : (s.setMeas p r).resetHeld = s.resetHeld := by cases p <;> rfl
@[simp] theorem setMeas_rif (s : State) (p : Point) (r : MeasRecord) : (s.setMeas p r).rif = s.rif := by cases p <;> rfl
@[simp] theorem setMeas_rob (s : State) (p : Point) (r : MeasRecord) : (s.setMeas p r).rob = s.rob := by cases p <;> rfl
@[simp] theorem setMeas_mpm (s : State) (p : Point) (r : MeasRecord) : (s.setMeas p r).mpm = s.mpm := by cases p <;> rfl
@[simp] theorem setMeas_bsy (s : State) (p : Point) (r : MeasRecord) : (s.setMeas p r).bsy = s.bsy := by cases p <;> rfl
@[simp] theorem setMeas_ses (s : State) (p : Point) (r : MeasRecord) : (s.setMeas p r).ses = s.ses := by cases p <;> rfl
@[simp] theorem setMeas_sup (s : State) (p : Point) (r : MeasRecord) : (s.setMeas p r).sup = s.sup := by cases p <;> rfl
@[simp] theorem setMeas_ctu (s : State) (p : Point) (r : MeasRecord) : (s.setMeas p r).ctu = s.ctu := by cases p <;> rfl
@[simp] theorem setMeas_mbu (s : State) (p : Point) (r : MeasRecord) : (s.setMeas p r).mbu = s.mbu := by cases p <;> rfl
@[simp] theorem setMeas_cfs (s : State) (p : Point) (r : MeasRecord) : (s.setMeas p r).cfs = s.cfs := by cases p <;> rfl
@[simp] theorem setMeas_mrh (s : State) (p : Point) (r : MeasRecord) : (s.setMeas p r).mrh = s.mrh := by cases p <;> rfl
@[simp] theorem setMeas_session (s : State) (p : Point) (r : MeasRecord) (c : Berth) : (s.setMeas p r).session c = s.session c := by cases p <;> rfl
@[simp] theorem setMeas_osc (s : State) (p : Point) (r : MeasRecord) (c : Berth) : (s.setMeas p r).osc c = s.osc c := by cases p <;> rfl
@[simp] theorem setMeas_module (s : State) (p : Point) (r : MeasRecord) (i : ModuleId) : (s.setMeas p r).module i = s.module i := by cases p <;> rfl
@[simp] theorem setMeas_breaker (s : State) (p : Point) (r : MeasRecord) (j : Breaker) : (s.setMeas p r).breaker j = s.breaker j := by cases p <;> cases j <;> rfl
@[simp] theorem setMeas_sync (s : State) (p : Point) (r : MeasRecord) (c : Berth) : (s.setMeas p r).sync c = s.sync c := by cases p <;> rfl
@[simp] theorem setMeas_superv (s : State) (p : Point) (r : MeasRecord) (c : Berth) : (s.setMeas p r).superv c = s.superv c := by cases p <;> rfl
@[simp] theorem setMeas_meter (s : State) (p : Point) (r : MeasRecord) (c : Berth) : (s.setMeas p r).meter c = s.meter c := by cases p <;> rfl
@[simp] theorem setMeas_health (s : State) (p : Point) (r : MeasRecord) (i : NodeIx) : (s.setMeas p r).health i = s.health i := by cases p <;> rfl
@[simp] theorem setMeas_nodeEntry (s : State) (p : Point) (r : MeasRecord) (i : NodeIx) : (s.setMeas p r).nodeEntry i = s.nodeEntry i := by cases p <;> rfl
@[simp] theorem setMeas_berthEntry (s : State) (p : Point) (r : MeasRecord) (c : Berth) : (s.setMeas p r).berthEntry c = s.berthEntry c := by cases p <;> rfl
@[simp] theorem setMeas_moduleEntry (s : State) (p : Point) (r : MeasRecord) (i : ModuleId) : (s.setMeas p r).moduleEntry i = s.moduleEntry i := by cases p <;> rfl
@[simp] theorem setMeas_breakerEntry (s : State) (p : Point) (r : MeasRecord) (j : Breaker) : (s.setMeas p r).breakerEntry j = s.breakerEntry j := by cases p <;> cases j <;> rfl
@[simp] theorem setMeas_operating (s : State) (p : Point) (r : MeasRecord) : (s.setMeas p r).operating = s.operating := by cases p <;> rfl
@[simp] theorem setMeas_ext (s : State) (p : Point) (r : MeasRecord) : (s.setMeas p r).ext = s.ext := by cases p <;> rfl
@[simp] theorem setMeas_endedExt (s : State) (p : Point) (r : MeasRecord) : (s.setMeas p r).endedExt = s.endedExt := by cases p <;> rfl
@[simp] theorem setMeas_meas_self (s : State) (p : Point) (r : MeasRecord) : (s.setMeas p r).meas p = r := by cases p <;> simp [State.meas, State.setMeas]
@[simp] theorem setMeas_meas_ne (s : State) (p : Point) (r : MeasRecord) {x : Point} (h : x ≠ p) : (s.setMeas p r).meas x = s.meas x := by
  cases p <;> cases x <;> simp_all [State.meas, State.setMeas]
theorem setMeas_meas_eq (s : State) (p : Point) (r : MeasRecord) (x : Point) : (s.setMeas p r).meas x = if x = p then r else s.meas x := by
  by_cases h : x = p
  · subst h; simp
  · simp [h]
@[simp] theorem setMeas_twice (s : State) (p : Point) (r : MeasRecord) (r2 : MeasRecord) : (s.setMeas p r).setMeas p r2 = s.setMeas p r2 := by cases p <;> simp [State.setMeas]

/-! ### `setHealth` -/

@[simp] theorem setHealth_pending (s : State) (n : NodeIx) (r : Health) : (s.setHealth n r).pending = s.pending := rfl
@[simp] theorem setHealth_due (s : State) (n : NodeIx) (r : Health) : (s.setHealth n r).due = s.due := rfl
@[simp] theorem setHealth_ringOut (s : State) (n : NodeIx) (r : Health) : (s.setHealth n r).ringOut = s.ringOut := rfl
@[simp] theorem setHealth_resetHeld (s : State) (n : NodeIx) (r : Health) : (s.setHealth n r).resetHeld = s.resetHeld := rfl
@[simp] theorem setHealth_mfe (s : State) (n : NodeIx) (r : Health) : (s.setHealth n r).mfe = s.mfe := rfl
@[simp] theorem setHealth_rob (s : State) (n : NodeIx) (r : Health) : (s.setHealth n r).rob = s.rob := rfl
@[simp] theorem setHealth_mpm (s : State) (n : NodeIx) (r : Health) : (s.setHealth n r).mpm = s.mpm := rfl
@[simp] theorem setHealth_bsy (s : State) (n : NodeIx) (r : Health) : (s.setHealth n r).bsy = s.bsy := rfl
@[simp] theorem setHealth_ses (s : State) (n : NodeIx) (r : Health) : (s.setHealth n r).ses = s.ses := rfl
@[simp] theorem setHealth_sup (s : State) (n : NodeIx) (r : Health) : (s.setHealth n r).sup = s.sup := rfl
@[simp] theorem setHealth_ctu (s : State) (n : NodeIx) (r : Health) : (s.setHealth n r).ctu = s.ctu := rfl
@[simp] theorem setHealth_mbu (s : State) (n : NodeIx) (r : Health) : (s.setHealth n r).mbu = s.mbu := rfl
@[simp] theorem setHealth_cfs (s : State) (n : NodeIx) (r : Health) : (s.setHealth n r).cfs = s.cfs := rfl
@[simp] theorem setHealth_mrh (s : State) (n : NodeIx) (r : Health) : (s.setHealth n r).mrh = s.mrh := rfl
@[simp] theorem setHealth_session (s : State) (n : NodeIx) (r : Health) (c : Berth) : (s.setHealth n r).session c = s.session c := rfl
@[simp] theorem setHealth_osc (s : State) (n : NodeIx) (r : Health) (c : Berth) : (s.setHealth n r).osc c = s.osc c := rfl
@[simp] theorem setHealth_module (s : State) (n : NodeIx) (r : Health) (i : ModuleId) : (s.setHealth n r).module i = s.module i := rfl
@[simp] theorem setHealth_breaker (s : State) (n : NodeIx) (r : Health) (j : Breaker) : (s.setHealth n r).breaker j = s.breaker j := by cases j <;> rfl
@[simp] theorem setHealth_sync (s : State) (n : NodeIx) (r : Health) (c : Berth) : (s.setHealth n r).sync c = s.sync c := rfl
@[simp] theorem setHealth_superv (s : State) (n : NodeIx) (r : Health) (c : Berth) : (s.setHealth n r).superv c = s.superv c := rfl
@[simp] theorem setHealth_meter (s : State) (n : NodeIx) (r : Health) (c : Berth) : (s.setHealth n r).meter c = s.meter c := rfl
@[simp] theorem setHealth_meas (s : State) (n : NodeIx) (r : Health) (q : Point) : (s.setHealth n r).meas q = s.meas q := by cases q <;> rfl
@[simp] theorem setHealth_nodeEntry (s : State) (n : NodeIx) (r : Health) (i : NodeIx) : (s.setHealth n r).nodeEntry i = s.nodeEntry i := rfl
@[simp] theorem setHealth_berthEntry (s : State) (n : NodeIx) (r : Health) (c : Berth) : (s.setHealth n r).berthEntry c = s.berthEntry c := rfl
@[simp] theorem setHealth_moduleEntry (s : State) (n : NodeIx) (r : Health) (i : ModuleId) : (s.setHealth n r).moduleEntry i = s.moduleEntry i := rfl
@[simp] theorem setHealth_breakerEntry (s : State) (n : NodeIx) (r : Health) (j : Breaker) : (s.setHealth n r).breakerEntry j = s.breakerEntry j := by cases j <;> rfl
@[simp] theorem setHealth_operating (s : State) (n : NodeIx) (r : Health) : (s.setHealth n r).operating = s.operating := rfl
@[simp] theorem setHealth_ext (s : State) (n : NodeIx) (r : Health) : (s.setHealth n r).ext = s.ext := rfl
@[simp] theorem setHealth_endedExt (s : State) (n : NodeIx) (r : Health) : (s.setHealth n r).endedExt = s.endedExt := rfl
@[simp] theorem setHealth_health_self (s : State) (n : NodeIx) (r : Health) : (s.setHealth n r).health n = r := by simp [State.health, State.setHealth]
@[simp] theorem setHealth_health_ne (s : State) (n : NodeIx) (r : Health) {x : NodeIx} (h : x ≠ n) : (s.setHealth n r).health x = s.health x := by simp [State.health, State.setHealth, h]
theorem setHealth_health_eq (s : State) (n : NodeIx) (r : Health) (x : NodeIx) : (s.setHealth n r).health x = if x = n then r else s.health x := by
  by_cases h : x = n
  · subst h; simp
  · simp [h]
@[simp] theorem setHealth_twice (s : State) (n : NodeIx) (r : Health) (r2 : Health) : (s.setHealth n r).setHealth n r2 = s.setHealth n r2 := by simp [State.setHealth]

/-! ### `quiet` -/

@[simp] theorem quiet_pending (s : State) : s.quiet.pending = s.pending := rfl
@[simp] theorem quiet_due (s : State) : s.quiet.due = s.due := rfl
@[simp] theorem quiet_resetHeld (s : State) : s.quiet.resetHeld = s.resetHeld := rfl
@[simp] theorem quiet_rif (s : State) : s.quiet.rif = s.rif := rfl
@[simp] theorem quiet_mfe (s : State) : s.quiet.mfe = s.mfe := rfl
@[simp] theorem quiet_rob (s : State) : s.quiet.rob = s.rob := rfl
@[simp] theorem quiet_mpm (s : State) : s.quiet.mpm = s.mpm := rfl
@[simp] theorem quiet_bsy (s : State) : s.quiet.bsy = s.bsy := rfl
@[simp] theorem quiet_ses (s : State) : s.quiet.ses = s.ses := rfl
@[simp] theorem quiet_sup (s : State) : s.quiet.sup = s.sup := rfl
@[simp] theorem quiet_ctu (s : State) : s.quiet.ctu = s.ctu := rfl
@[simp] theorem quiet_mbu (s : State) : s.quiet.mbu = s.mbu := rfl
@[simp] theorem quiet_cfs (s : State) : s.quiet.cfs = s.cfs := rfl
@[simp] theorem quiet_mrh (s : State) : s.quiet.mrh = s.mrh := rfl
@[simp] theorem quiet_session (s : State) (c : Berth) : s.quiet.session c = s.session c := rfl
@[simp] theorem quiet_osc (s : State) (c : Berth) : s.quiet.osc c = s.osc c := rfl
@[simp] theorem quiet_module (s : State) (i : ModuleId) : s.quiet.module i = s.module i := rfl
@[simp] theorem quiet_breaker (s : State) (j : Breaker) : s.quiet.breaker j = s.breaker j := by cases j <;> rfl
@[simp] theorem quiet_sync (s : State) (c : Berth) : s.quiet.sync c = s.sync c := rfl
@[simp] theorem quiet_superv (s : State) (c : Berth) : s.quiet.superv c = s.superv c := rfl
@[simp] theorem quiet_meter (s : State) (c : Berth) : s.quiet.meter c = s.meter c := rfl
@[simp] theorem quiet_meas (s : State) (q : Point) : s.quiet.meas q = s.meas q := by cases q <;> rfl
@[simp] theorem quiet_health (s : State) (i : NodeIx) : s.quiet.health i = s.health i := rfl
@[simp] theorem quiet_nodeEntry (s : State) (i : NodeIx) : s.quiet.nodeEntry i = s.nodeEntry i := rfl
@[simp] theorem quiet_berthEntry (s : State) (c : Berth) : s.quiet.berthEntry c = s.berthEntry c := rfl
@[simp] theorem quiet_moduleEntry (s : State) (i : ModuleId) : s.quiet.moduleEntry i = s.moduleEntry i := rfl
@[simp] theorem quiet_breakerEntry (s : State) (j : Breaker) : s.quiet.breakerEntry j = s.breakerEntry j := by cases j <;> rfl
@[simp] theorem quiet_operating (s : State)  : s.quiet.operating = s.operating := rfl
@[simp] theorem quiet_ext (s : State)  : s.quiet.ext = s.ext := rfl
@[simp] theorem quiet_endedExt (s : State)  : s.quiet.endedExt = s.endedExt := rfl

/-! ### `send` -/

@[simp] theorem send_pending (s : State) (l : List RingFrame) : (s.send l).pending = s.pending := rfl
@[simp] theorem send_due (s : State) (l : List RingFrame) : (s.send l).due = s.due := rfl
@[simp] theorem send_resetHeld (s : State) (l : List RingFrame) : (s.send l).resetHeld = s.resetHeld := rfl
@[simp] theorem send_rif (s : State) (l : List RingFrame) : (s.send l).rif = s.rif := rfl
@[simp] theorem send_mfe (s : State) (l : List RingFrame) : (s.send l).mfe = s.mfe := rfl
@[simp] theorem send_rob (s : State) (l : List RingFrame) : (s.send l).rob = s.rob := rfl
@[simp] theorem send_mpm (s : State) (l : List RingFrame) : (s.send l).mpm = s.mpm := rfl
@[simp] theorem send_bsy (s : State) (l : List RingFrame) : (s.send l).bsy = s.bsy := rfl
@[simp] theorem send_ses (s : State) (l : List RingFrame) : (s.send l).ses = s.ses := rfl
@[simp] theorem send_sup (s : State) (l : List RingFrame) : (s.send l).sup = s.sup := rfl
@[simp] theorem send_ctu (s : State) (l : List RingFrame) : (s.send l).ctu = s.ctu := rfl
@[simp] theorem send_mbu (s : State) (l : List RingFrame) : (s.send l).mbu = s.mbu := rfl
@[simp] theorem send_cfs (s : State) (l : List RingFrame) : (s.send l).cfs = s.cfs := rfl
@[simp] theorem send_mrh (s : State) (l : List RingFrame) : (s.send l).mrh = s.mrh := rfl
@[simp] theorem send_session (s : State) (l : List RingFrame) (c : Berth) : (s.send l).session c = s.session c := rfl
@[simp] theorem send_osc (s : State) (l : List RingFrame) (c : Berth) : (s.send l).osc c = s.osc c := rfl
@[simp] theorem send_module (s : State) (l : List RingFrame) (i : ModuleId) : (s.send l).module i = s.module i := rfl
@[simp] theorem send_breaker (s : State) (l : List RingFrame) (j : Breaker) : (s.send l).breaker j = s.breaker j := by cases j <;> rfl
@[simp] theorem send_sync (s : State) (l : List RingFrame) (c : Berth) : (s.send l).sync c = s.sync c := rfl
@[simp] theorem send_superv (s : State) (l : List RingFrame) (c : Berth) : (s.send l).superv c = s.superv c := rfl
@[simp] theorem send_meter (s : State) (l : List RingFrame) (c : Berth) : (s.send l).meter c = s.meter c := rfl
@[simp] theorem send_meas (s : State) (l : List RingFrame) (q : Point) : (s.send l).meas q = s.meas q := by cases q <;> rfl
@[simp] theorem send_health (s : State) (l : List RingFrame) (i : NodeIx) : (s.send l).health i = s.health i := rfl
@[simp] theorem send_nodeEntry (s : State) (l : List RingFrame) (i : NodeIx) : (s.send l).nodeEntry i = s.nodeEntry i := rfl
@[simp] theorem send_berthEntry (s : State) (l : List RingFrame) (c : Berth) : (s.send l).berthEntry c = s.berthEntry c := rfl
@[simp] theorem send_moduleEntry (s : State) (l : List RingFrame) (i : ModuleId) : (s.send l).moduleEntry i = s.moduleEntry i := rfl
@[simp] theorem send_breakerEntry (s : State) (l : List RingFrame) (j : Breaker) : (s.send l).breakerEntry j = s.breakerEntry j := by cases j <;> rfl
@[simp] theorem send_operating (s : State) (l : List RingFrame) : (s.send l).operating = s.operating := rfl
@[simp] theorem send_ext (s : State) (l : List RingFrame) : (s.send l).ext = s.ext := rfl
@[simp] theorem send_endedExt (s : State) (l : List RingFrame) : (s.send l).endedExt = s.endedExt := rfl

/-! ### `addDue` -/

@[simp] theorem addDue_pending (s : State) (l : List Due) : (s.addDue l).pending = s.pending := rfl
@[simp] theorem addDue_ringOut (s : State) (l : List Due) : (s.addDue l).ringOut = s.ringOut := rfl
@[simp] theorem addDue_resetHeld (s : State) (l : List Due) : (s.addDue l).resetHeld = s.resetHeld := rfl
@[simp] theorem addDue_rif (s : State) (l : List Due) : (s.addDue l).rif = s.rif := rfl
@[simp] theorem addDue_mfe (s : State) (l : List Due) : (s.addDue l).mfe = s.mfe := rfl
@[simp] theorem addDue_rob (s : State) (l : List Due) : (s.addDue l).rob = s.rob := rfl
@[simp] theorem addDue_mpm (s : State) (l : List Due) : (s.addDue l).mpm = s.mpm := rfl
@[simp] theorem addDue_bsy (s : State) (l : List Due) : (s.addDue l).bsy = s.bsy := rfl
@[simp] theorem addDue_ses (s : State) (l : List Due) : (s.addDue l).ses = s.ses := rfl
@[simp] theorem addDue_sup (s : State) (l : List Due) : (s.addDue l).sup = s.sup := rfl
@[simp] theorem addDue_ctu (s : State) (l : List Due) : (s.addDue l).ctu = s.ctu := rfl
@[simp] theorem addDue_mbu (s : State) (l : List Due) : (s.addDue l).mbu = s.mbu := rfl
@[simp] theorem addDue_cfs (s : State) (l : List Due) : (s.addDue l).cfs = s.cfs := rfl
@[simp] theorem addDue_mrh (s : State) (l : List Due) : (s.addDue l).mrh = s.mrh := rfl
@[simp] theorem addDue_session (s : State) (l : List Due) (c : Berth) : (s.addDue l).session c = s.session c := rfl
@[simp] theorem addDue_osc (s : State) (l : List Due) (c : Berth) : (s.addDue l).osc c = s.osc c := rfl
@[simp] theorem addDue_module (s : State) (l : List Due) (i : ModuleId) : (s.addDue l).module i = s.module i := rfl
@[simp] theorem addDue_breaker (s : State) (l : List Due) (j : Breaker) : (s.addDue l).breaker j = s.breaker j := by cases j <;> rfl
@[simp] theorem addDue_sync (s : State) (l : List Due) (c : Berth) : (s.addDue l).sync c = s.sync c := rfl
@[simp] theorem addDue_superv (s : State) (l : List Due) (c : Berth) : (s.addDue l).superv c = s.superv c := rfl
@[simp] theorem addDue_meter (s : State) (l : List Due) (c : Berth) : (s.addDue l).meter c = s.meter c := rfl
@[simp] theorem addDue_meas (s : State) (l : List Due) (q : Point) : (s.addDue l).meas q = s.meas q := by cases q <;> rfl
@[simp] theorem addDue_health (s : State) (l : List Due) (i : NodeIx) : (s.addDue l).health i = s.health i := rfl
@[simp] theorem addDue_nodeEntry (s : State) (l : List Due) (i : NodeIx) : (s.addDue l).nodeEntry i = s.nodeEntry i := rfl
@[simp] theorem addDue_berthEntry (s : State) (l : List Due) (c : Berth) : (s.addDue l).berthEntry c = s.berthEntry c := rfl
@[simp] theorem addDue_moduleEntry (s : State) (l : List Due) (i : ModuleId) : (s.addDue l).moduleEntry i = s.moduleEntry i := rfl
@[simp] theorem addDue_breakerEntry (s : State) (l : List Due) (j : Breaker) : (s.addDue l).breakerEntry j = s.breakerEntry j := by cases j <;> rfl
@[simp] theorem addDue_operating (s : State) (l : List Due) : (s.addDue l).operating = s.operating := rfl
@[simp] theorem addDue_ext (s : State) (l : List Due) : (s.addDue l).ext = s.ext := rfl
@[simp] theorem addDue_endedExt (s : State) (l : List Due) : (s.addDue l).endedExt = s.endedExt := rfl

/-! ### `latchStation` -/

@[simp] theorem latchStation_pending (s : State) (f : StationFlag) : (s.latchStation f).pending = s.pending := rfl
@[simp] theorem latchStation_due (s : State) (f : StationFlag) : (s.latchStation f).due = s.due := rfl
@[simp] theorem latchStation_ringOut (s : State) (f : StationFlag) : (s.latchStation f).ringOut = s.ringOut := rfl
@[simp] theorem latchStation_resetHeld (s : State) (f : StationFlag) : (s.latchStation f).resetHeld = s.resetHeld := rfl
@[simp] theorem latchStation_rif (s : State) (f : StationFlag) : (s.latchStation f).rif = s.rif := rfl
@[simp] theorem latchStation_mfe (s : State) (f : StationFlag) : (s.latchStation f).mfe = s.mfe := rfl
@[simp] theorem latchStation_rob (s : State) (f : StationFlag) : (s.latchStation f).rob = s.rob := rfl
@[simp] theorem latchStation_mpm (s : State) (f : StationFlag) : (s.latchStation f).mpm = s.mpm := rfl
@[simp] theorem latchStation_bsy (s : State) (f : StationFlag) : (s.latchStation f).bsy = s.bsy := rfl
@[simp] theorem latchStation_ses (s : State) (f : StationFlag) : (s.latchStation f).ses = s.ses := rfl
@[simp] theorem latchStation_sup (s : State) (f : StationFlag) : (s.latchStation f).sup = s.sup := rfl
@[simp] theorem latchStation_ctu (s : State) (f : StationFlag) : (s.latchStation f).ctu = s.ctu := rfl
@[simp] theorem latchStation_mbu (s : State) (f : StationFlag) : (s.latchStation f).mbu = s.mbu := rfl
@[simp] theorem latchStation_cfs (s : State) (f : StationFlag) : (s.latchStation f).cfs = s.cfs := rfl
@[simp] theorem latchStation_session (s : State) (f : StationFlag) (c : Berth) : (s.latchStation f).session c = s.session c := rfl
@[simp] theorem latchStation_osc (s : State) (f : StationFlag) (c : Berth) : (s.latchStation f).osc c = s.osc c := rfl
@[simp] theorem latchStation_module (s : State) (f : StationFlag) (i : ModuleId) : (s.latchStation f).module i = s.module i := rfl
@[simp] theorem latchStation_breaker (s : State) (f : StationFlag) (j : Breaker) : (s.latchStation f).breaker j = s.breaker j := by cases j <;> rfl
@[simp] theorem latchStation_sync (s : State) (f : StationFlag) (c : Berth) : (s.latchStation f).sync c = s.sync c := rfl
@[simp] theorem latchStation_superv (s : State) (f : StationFlag) (c : Berth) : (s.latchStation f).superv c = s.superv c := rfl
@[simp] theorem latchStation_meter (s : State) (f : StationFlag) (c : Berth) : (s.latchStation f).meter c = s.meter c := rfl
@[simp] theorem latchStation_meas (s : State) (f : StationFlag) (q : Point) : (s.latchStation f).meas q = s.meas q := by cases q <;> rfl
@[simp] theorem latchStation_health (s : State) (f : StationFlag) (i : NodeIx) : (s.latchStation f).health i = s.health i := rfl
@[simp] theorem latchStation_nodeEntry (s : State) (f : StationFlag) (i : NodeIx) : (s.latchStation f).nodeEntry i = s.nodeEntry i := rfl
@[simp] theorem latchStation_berthEntry (s : State) (f : StationFlag) (c : Berth) : (s.latchStation f).berthEntry c = s.berthEntry c := rfl
@[simp] theorem latchStation_moduleEntry (s : State) (f : StationFlag) (i : ModuleId) : (s.latchStation f).moduleEntry i = s.moduleEntry i := rfl
@[simp] theorem latchStation_breakerEntry (s : State) (f : StationFlag) (j : Breaker) : (s.latchStation f).breakerEntry j = s.breakerEntry j := by cases j <;> rfl
@[simp] theorem latchStation_operating (s : State) (f : StationFlag) : (s.latchStation f).operating = s.operating := rfl
@[simp] theorem latchStation_ext (s : State) (f : StationFlag) : (s.latchStation f).ext = s.ext := rfl
@[simp] theorem latchStation_endedExt (s : State) (f : StationFlag) : (s.latchStation f).endedExt = s.endedExt := rfl

/-! ### `latchBerth` -/

@[simp] theorem latchBerth_pending (s : State) (b : Berth) (f : BerthFlag) : (s.latchBerth b f).pending = s.pending := rfl
@[simp] theorem latchBerth_due (s : State) (b : Berth) (f : BerthFlag) : (s.latchBerth b f).due = s.due := rfl
@[simp] theorem latchBerth_ringOut (s : State) (b : Berth) (f : BerthFlag) : (s.latchBerth b f).ringOut = s.ringOut := rfl
@[simp] theorem latchBerth_resetHeld (s : State) (b : Berth) (f : BerthFlag) : (s.latchBerth b f).resetHeld = s.resetHeld := rfl
@[simp] theorem latchBerth_rif (s : State) (b : Berth) (f : BerthFlag) : (s.latchBerth b f).rif = s.rif := rfl
@[simp] theorem latchBerth_mfe (s : State) (b : Berth) (f : BerthFlag) : (s.latchBerth b f).mfe = s.mfe := rfl
@[simp] theorem latchBerth_rob (s : State) (b : Berth) (f : BerthFlag) : (s.latchBerth b f).rob = s.rob := rfl
@[simp] theorem latchBerth_mpm (s : State) (b : Berth) (f : BerthFlag) : (s.latchBerth b f).mpm = s.mpm := rfl
@[simp] theorem latchBerth_bsy (s : State) (b : Berth) (f : BerthFlag) : (s.latchBerth b f).bsy = s.bsy := rfl
@[simp] theorem latchBerth_ses (s : State) (b : Berth) (f : BerthFlag) : (s.latchBerth b f).ses = s.ses := rfl
@[simp] theorem latchBerth_sup (s : State) (b : Berth) (f : BerthFlag) : (s.latchBerth b f).sup = s.sup := rfl
@[simp] theorem latchBerth_ctu (s : State) (b : Berth) (f : BerthFlag) : (s.latchBerth b f).ctu = s.ctu := rfl
@[simp] theorem latchBerth_mbu (s : State) (b : Berth) (f : BerthFlag) : (s.latchBerth b f).mbu = s.mbu := rfl
@[simp] theorem latchBerth_cfs (s : State) (b : Berth) (f : BerthFlag) : (s.latchBerth b f).cfs = s.cfs := rfl
@[simp] theorem latchBerth_session (s : State) (b : Berth) (f : BerthFlag) (c : Berth) : (s.latchBerth b f).session c = s.session c := rfl
@[simp] theorem latchBerth_osc (s : State) (b : Berth) (f : BerthFlag) (c : Berth) : (s.latchBerth b f).osc c = s.osc c := rfl
@[simp] theorem latchBerth_module (s : State) (b : Berth) (f : BerthFlag) (i : ModuleId) : (s.latchBerth b f).module i = s.module i := rfl
@[simp] theorem latchBerth_breaker (s : State) (b : Berth) (f : BerthFlag) (j : Breaker) : (s.latchBerth b f).breaker j = s.breaker j := by cases j <;> rfl
@[simp] theorem latchBerth_sync (s : State) (b : Berth) (f : BerthFlag) (c : Berth) : (s.latchBerth b f).sync c = s.sync c := rfl
@[simp] theorem latchBerth_superv (s : State) (b : Berth) (f : BerthFlag) (c : Berth) : (s.latchBerth b f).superv c = s.superv c := rfl
@[simp] theorem latchBerth_meter (s : State) (b : Berth) (f : BerthFlag) (c : Berth) : (s.latchBerth b f).meter c = s.meter c := rfl
@[simp] theorem latchBerth_meas (s : State) (b : Berth) (f : BerthFlag) (q : Point) : (s.latchBerth b f).meas q = s.meas q := by cases q <;> rfl
@[simp] theorem latchBerth_health (s : State) (b : Berth) (f : BerthFlag) (i : NodeIx) : (s.latchBerth b f).health i = s.health i := rfl
@[simp] theorem latchBerth_nodeEntry (s : State) (b : Berth) (f : BerthFlag) (i : NodeIx) : (s.latchBerth b f).nodeEntry i = s.nodeEntry i := rfl
@[simp] theorem latchBerth_berthEntry (s : State) (b : Berth) (f : BerthFlag) (c : Berth) : (s.latchBerth b f).berthEntry c = s.berthEntry c := rfl
@[simp] theorem latchBerth_moduleEntry (s : State) (b : Berth) (f : BerthFlag) (i : ModuleId) : (s.latchBerth b f).moduleEntry i = s.moduleEntry i := rfl
@[simp] theorem latchBerth_breakerEntry (s : State) (b : Berth) (f : BerthFlag) (j : Breaker) : (s.latchBerth b f).breakerEntry j = s.breakerEntry j := by cases j <;> rfl
@[simp] theorem latchBerth_operating (s : State) (b : Berth) (f : BerthFlag) : (s.latchBerth b f).operating = s.operating := rfl
@[simp] theorem latchBerth_ext (s : State) (b : Berth) (f : BerthFlag) : (s.latchBerth b f).ext = s.ext := rfl
@[simp] theorem latchBerth_endedExt (s : State) (b : Berth) (f : BerthFlag) : (s.latchBerth b f).endedExt = s.endedExt := rfl

/-! ## Latched marks -/

/-- Reading a scope's marks after writing them. -/
@[simp] theorem marks_get_set_self (m : Marks) (c : Scope) (v : BitVec 16) : (m.set c v).get c = v := by
  cases c <;> simp [Marks.get, Marks.set]

/-- Reading another scope's marks than those written. -/
@[simp] theorem marks_get_set_ne (m : Marks) {c d : Scope} (v : BitVec 16) (h : d ≠ c) : (m.set c v).get d = m.get d := by
  cases c <;> cases d <;> simp_all [Marks.get, Marks.set]

@[simp] theorem latchNumber_requests (m : Mrh) (c : Scope) (n : Nat) : (latchNumber m c n).requests = m.requests := by
  unfold latchNumber; split <;> rfl
@[simp] theorem latchNumber_responses (m : Mrh) (c : Scope) (n : Nat) : (latchNumber m c n).responses = m.responses := by
  unfold latchNumber; split <;> rfl
@[simp] theorem latchNumber_hold (m : Mrh) (c : Scope) (n : Nat) : (latchNumber m c n).hold = m.hold := by
  unfold latchNumber; split <;> rfl
@[simp] theorem latchNumber_dropped (m : Mrh) (c : Scope) (n : Nat) : (latchNumber m c n).dropped = m.dropped := by
  unfold latchNumber; split <;> rfl
@[simp] theorem latchNumber_masked (m : Mrh) (c : Scope) (n : Nat) : (latchNumber m c n).masked = m.masked := by
  unfold latchNumber; split <;> rfl

/-- A latched event stands, and every mark that stood still stands. -/
theorem latchNumber_latched (m : Mrh) (c d : Scope) (n i : Nat) (hn : n < 16) :
    ((latchNumber m c n).latched.get d).getLsbD i = ((m.latched.get d).getLsbD i || (decide (d = c) && decide (i = n))) := by
  unfold latchNumber
  by_cases hd : d = c
  · subst hd
    split
    · by_cases hi : i = n
      · subst hi; simp_all
      · simp [hi]
    · simp only [marks_get_set_self, BitVec.getLsbD_or, BitVec.getLsbD_shiftLeft, decide_true, Bool.true_and]
      by_cases hi : i = n
      · subst hi; simp [hn]
      · have : (i < 16 && !decide (i < n) && (1#16).getLsbD (i - n)) = false := by
          rcases Nat.lt_or_ge i n with h | h
          · simp [h]
          · have : i - n ≠ 0 := by omega
            simp [BitVec.getLsbD_one, this]
        simp_all
  · split <;> simp [hd]

@[simp] theorem latchStation_requests (s : State) (f : StationFlag) : (s.latchStation f).mrh.requests = s.mrh.requests := by
  simp [State.latchStation]
@[simp] theorem latchStation_responses (s : State) (f : StationFlag) : (s.latchStation f).mrh.responses = s.mrh.responses := by
  simp [State.latchStation]
@[simp] theorem latchBerth_requests (s : State) (b : Berth) (f : BerthFlag) : (s.latchBerth b f).mrh.requests = s.mrh.requests := by
  simp [State.latchBerth]
@[simp] theorem latchBerth_responses (s : State) (b : Berth) (f : BerthFlag) : (s.latchBerth b f).mrh.responses = s.mrh.responses := by
  simp [State.latchBerth]

end Sys2Proof.Machine
end

