-- ==== Sys2Proof/Laws/Frames.lean ====
section
/-! SUPPORT. What no operation of the berths' blocks touches. `outer` is the state with everything that those operations may change put
to its reset value: the oscillators, the pool, the breakers, the sessions, the supervision, the meters, the latched marks and the
queued notices. One lemma per operation says that it keeps `outer`; the field lemmas that follow from it stand at the end. -/

namespace Sys2Proof.Machine

set_option Elab.async false

open Sys2Proof

/-- The part of the state that no operation of the berths' blocks touches. -/
def outer (s : State) : State :=
  { s with
    rob := State.reset.rob, mpm := State.reset.mpm, bsy := State.reset.bsy, ses := State.reset.ses, sup := State.reset.sup
    mbu := State.reset.mbu, mrh := { s.mrh with latched := Marks.clear, notices := [] } }

theorem outer_rob (s : State) (x : Vector Osc 4) : outer { s with rob := x } = outer s := rfl
theorem outer_mpm (s : State) (x : Mpm) : outer { s with mpm := x } = outer s := rfl
theorem outer_bsy (s : State) (x : Bsy) : outer { s with bsy := x } = outer s := rfl
theorem outer_ses (s : State) (x : Ses) : outer { s with ses := x } = outer s := rfl
theorem outer_sup (s : State) (x : Vector Supervision 4) : outer { s with sup := x } = outer s := rfl
theorem outer_mbu (s : State) (x : Mbu) : outer { s with mbu := x } = outer s := rfl

/-- Any change made for each member of a list keeps what each single change keeps. -/
theorem outer_foldl {ι : Type} (f : State → ι → State) (h : ∀ s i, outer (f s i) = outer s) (l : List ι) (s : State) :
    outer (l.foldl f s) = outer s := by
  induction l generalizing s with
  | nil => rfl
  | cons i l ih => exact (ih _).trans (h s i)

/-- A change made for each number keeps what each single change keeps. -/
theorem outer_forEach {n : Nat} (f : Fin n → State → State) (h : ∀ i s, outer (f i s) = outer s) (s : State) :
    outer (forEach f s) = outer s := outer_foldl _ (fun s i => h i s) _ s

theorem setSession_outer (s : State) (b : Berth) (r : Session) : outer (s.setSession b r) = outer s := rfl
theorem setOsc_outer (s : State) (b : Berth) (r : Osc) : outer (s.setOsc b r) = outer s := rfl
theorem setModule_outer (s : State) (m : ModuleId) (r : ModuleRecord) : outer (s.setModule m r) = outer s := rfl
theorem setBreaker_outer (s : State) (k : Breaker) (r : BreakerRecord) : outer (s.setBreaker k r) = outer s := by cases k <;> rfl
theorem setSync_outer (s : State) (b : Berth) (r : SyncRecord) : outer (s.setSync b r) = outer s := rfl
theorem setSuperv_outer (s : State) (b : Berth) (r : Supervision) : outer (s.setSuperv b r) = outer s := rfl
theorem setMeter_outer (s : State) (b : Berth) (r : Meter) : outer (s.setMeter b r) = outer s := rfl
theorem latchStation_outer (s : State) (f : StationFlag) : outer (s.latchStation f) = outer s := by
  unfold State.latchStation latchNumber; split <;> rfl
theorem latchBerth_outer (s : State) (b : Berth) (f : BerthFlag) : outer (s.latchBerth b f) = outer s := by
  unfold State.latchBerth latchNumber; split <;> rfl

theorem placeRecord_outer (s : State) (b : Berth) (r : OpenRecord) (closedAt : StationTime) (reason : CloseReason) : outer (State.placeRecord s b r closedAt reason) = outer s := by
  unfold State.placeRecord
  try dsimp only
  all_goals first | with_reducible rfl | simp only [outer_mbu, latchStation_outer]
theorem deferClosure_outer (s : State) (b : Berth) (d : Deferral) : outer (State.deferClosure s b d) = outer s := by
  unfold State.deferClosure
  try dsimp only
  all_goals first | with_reducible rfl | simp only [outer_mbu, setMeter_outer, latchStation_outer]
theorem applyBoundary_outer (s : State) (b : Berth) (a : AcctBoundary) : outer (State.applyBoundary s b a) = outer s := by
  unfold State.applyBoundary
  try dsimp only
  repeat' split
  all_goals first | with_reducible rfl | simp only [placeRecord_outer, setMeter_outer, deferClosure_outer]
theorem flushHeld_outer (s : State) (b : Berth) : outer (State.flushHeld s b) = outer s := by
  unfold State.flushHeld
  try dsimp only
  repeat' split
  all_goals first | with_reducible rfl | simp only [setMeter_outer, applyBoundary_outer]
theorem flushStale_outer (s : State) (b : Berth) : outer (State.flushStale s b) = outer s := by
  unfold State.flushStale
  try dsimp only
  repeat' split
  all_goals first | with_reducible rfl | simp only [flushHeld_outer]
theorem tickBlockEnd_outer (s : State) (e : BlockEnd) (b : Berth) : outer (State.tickBlockEnd s e b) = outer s := by
  unfold State.tickBlockEnd
  try dsimp only
  repeat' split
  all_goals first | with_reducible rfl | simp only [flushStale_outer, setMeter_outer]
theorem tickBoundary_outer (s : State) (a : AcctBoundary) (b : Berth) : outer (State.tickBoundary s a b) = outer s := by
  unfold State.tickBoundary
  try dsimp only
  repeat' split
  all_goals first | with_reducible rfl | simp only [flushStale_outer, setMeter_outer, applyBoundary_outer]
theorem clockSetRestart_outer (s : State) (b : Berth) : outer (State.clockSetRestart s b) = outer s := by
  simp only [State.clockSetRestart, flushHeld_outer, setMeter_outer]
theorem startMetering_outer (s : State) (b : Berth) (session : Option Nat) (account : Option (BitVec 32)) (restart : Bool) : outer (State.startMetering s b session account restart) = outer s := by
  unfold State.startMetering
  try dsimp only
  repeat' split
  all_goals first | with_reducible rfl | simp only [flushHeld_outer, setMeter_outer]
theorem endMetering_outer (s : State) (b : Berth) (reason : CloseReason) : outer (State.endMetering s b reason) = outer s := by
  unfold State.endMetering
  try dsimp only
  repeat' split
  all_goals first | with_reducible rfl | simp only [setMeter_outer, placeRecord_outer, deferClosure_outer]
theorem secondEndMeter_outer (s : State) (b : Berth) (e : NodeEntry) : outer (State.secondEndMeter s b e) = outer s := by
  unfold State.secondEndMeter
  try dsimp only
  repeat' split
  all_goals first | with_reducible rfl | simp only [flushStale_outer, setMeter_outer, flushHeld_outer]
theorem substitutedCycle_outer (s : State) (b : Berth) (n : Ext) : outer (State.substitutedCycle s b n) = outer s := by
  unfold State.substitutedCycle
  try dsimp only
  repeat' split
  all_goals first | with_reducible rfl | simp only [flushHeld_outer, setMeter_outer]
theorem placeDeferred_outer (s : State) (b : Berth) : outer (State.placeDeferred s b) = outer s := by
  unfold State.placeDeferred
  try dsimp only
  repeat' split
  all_goals first | with_reducible rfl | simp only [outer_mbu, flushHeld_outer, placeRecord_outer, setMeter_outer, deferClosure_outer]
theorem releaseOldest_outer (s : State) : outer (State.releaseOldest s) = outer s := by
  unfold State.releaseOldest
  try dsimp only
  repeat' split
  all_goals first | with_reducible rfl | simp only [outer_mbu, placeDeferred_outer]
theorem markUnverified_outer (s : State) : outer (State.markUnverified s) = outer s :=
  outer_forEach _ (fun b s => (setMeter_outer _ _ _).trans (flushHeld_outer s b)) s
theorem mbuConfigEntry_outer (s : State) : outer (State.mbuConfigEntry s) = outer s :=
  outer_forEach _ (fun b s => endMetering_outer s b _) s
theorem supEntry_outer (s : State) (b : Berth) (st : SessionState) : outer (State.supEntry s b st) = outer s := by
  unfold State.supEntry
  try dsimp only
  all_goals first | with_reducible rfl | simp only [setSuperv_outer]
theorem startBlanking_outer (s : State) (b : Berth) : outer (State.startBlanking s b) = outer s := by
  unfold State.startBlanking
  try dsimp only
  all_goals first | with_reducible rfl | simp only [setSuperv_outer]
theorem moduleClosedReport_outer (s : State) (b : Berth) : outer (State.moduleClosedReport s b) = outer s := by
  unfold State.moduleClosedReport
  try dsimp only
  repeat' split
  all_goals first | with_reducible rfl | simp only [startBlanking_outer, setSuperv_outer]
theorem concludeMeasurement_outer (s : State) (k : Breaker) (result : Option Nat) : outer (State.concludeMeasurement s k result) = outer s := by
  unfold State.concludeMeasurement
  try dsimp only
  repeat' split
  all_goals first | with_reducible rfl | simp only [setBreaker_outer, latchBerth_outer]
theorem issueOpen_outer (s : State) (k : Breaker) : outer (State.issueOpen s k) = outer s := by
  unfold State.issueOpen
  try dsimp only
  all_goals first | with_reducible rfl | simp only [setBreaker_outer]
theorem issueClose_outer (s : State) (k : Breaker) : outer (State.issueClose s k) = outer s := by
  unfold State.issueClose
  try dsimp only
  all_goals first | with_reducible rfl | simp only [setBreaker_outer]
theorem closeRequest_outer (s : State) (k : Breaker) : outer (State.closeRequest s k).1 = outer s := by
  unfold State.closeRequest
  try dsimp only
  repeat' split
  all_goals first | with_reducible rfl | simp only [issueClose_outer]
theorem openRequest_outer (s : State) (k : Breaker) : outer (State.openRequest s k).1 = outer s := by
  unfold State.openRequest
  try dsimp only
  repeat' split
  all_goals first | with_reducible rfl | simp only [issueOpen_outer, setBreaker_outer]
theorem tripBreaker_outer (s : State) (k : Breaker) : outer (State.tripBreaker s k) = outer s := by
  unfold State.tripBreaker
  try dsimp only
  repeat' split
  all_goals first | with_reducible rfl | simp only [concludeMeasurement_outer, issueOpen_outer]
theorem breakerConfigEntry_outer (k : Breaker) (s : State) : outer (State.breakerConfigEntry k s) = outer s := by
  unfold State.breakerConfigEntry
  try dsimp only
  repeat' split
  all_goals first | with_reducible rfl | simp only [setBreaker_outer, latchBerth_outer]
theorem bsyConfigEntry_outer (s : State) : outer (State.bsyConfigEntry s) = outer s :=
  (outer_forEach _ (fun _ _ => setSync_outer _ _ _) _).trans
    ((outer_forEach _ (fun _ s => breakerConfigEntry_outer _ s) _).trans (outer_forEach _ (fun _ s => breakerConfigEntry_outer _ s) s))
theorem bsyOperateEntry_outer (s : State) : outer (State.bsyOperateEntry s) = outer s := by
  unfold State.bsyOperateEntry
  try dsimp only
  all_goals first | with_reducible rfl | simp only [outer_bsy]
theorem oscEntry_outer (s : State) (b : Berth) (st : SessionState) : outer (State.oscEntry s b st) = outer s := by
  unfold State.oscEntry
  try dsimp only
  repeat' split
  all_goals first | with_reducible rfl | simp only [setOsc_outer]
theorem enterState_outer (s : State) (b : Berth) (st : SessionState) : outer (State.enterState s b st) = outer s := by
  unfold State.enterState
  try dsimp only
  all_goals first | with_reducible rfl | simp only [setSession_outer, setSync_outer, oscEntry_outer, supEntry_outer]
theorem formCap_outer (s : State) (b : Berth) : outer (State.formCap s b) = outer s := by
  unfold State.formCap
  try dsimp only
  all_goals first | with_reducible rfl | simp only [setSession_outer]
theorem pbCloseComplete_outer (s : State) (b : Berth) : outer (State.pbCloseComplete s b) = outer s := by
  unfold State.pbCloseComplete
  try dsimp only
  repeat' split
  all_goals first | with_reducible rfl | simp only [setSession_outer, startMetering_outer, setSync_outer]
theorem presentPbClose_outer (s : State) (b : Berth) : outer (State.presentPbClose s b) = outer s := by
  unfold State.presentPbClose
  try dsimp only
  repeat' split
  all_goals first | with_reducible rfl | simp only [closeRequest_outer, setSession_outer, pbCloseComplete_outer]
theorem idleEntry_outer (s : State) (b : Berth) : outer (State.idleEntry s b) = outer s := by
  unfold State.idleEntry
  try dsimp only
  all_goals first | with_reducible rfl | simp only [enterState_outer, setSession_outer, latchBerth_outer]
theorem tryIdle_outer (s : State) (b : Berth) : outer (State.tryIdle s b) = outer s := by
  unfold State.tryIdle
  try dsimp only
  repeat' split
  all_goals first | with_reducible rfl | simp only [idleEntry_outer]
theorem changeOfHoldings_outer (s : State) (b : Berth) : outer (State.changeOfHoldings s b) = outer s := by
  unfold State.changeOfHoldings
  try dsimp only
  repeat' split
  all_goals first | with_reducible rfl | simp only [setSession_outer, formCap_outer, presentPbClose_outer, tryIdle_outer]
theorem zeroAges_outer (s : State) (m : ModuleId) : outer (State.zeroAges s m) = outer s := by
  unfold State.zeroAges
  try dsimp only
  repeat' split
  all_goals first | with_reducible rfl | simp only [outer_mpm]
theorem queueOp_outer (s : State) (m : ModuleId) (op : QueuedOp) : outer (State.queueOp s m op) = outer s := by
  unfold State.queueOp
  try dsimp only
  all_goals first | with_reducible rfl | simp only [outer_mpm]
theorem removeOps_outer (s : State) (m : ModuleId) : outer (State.removeOps s m) = outer s := by
  unfold State.removeOps
  try dsimp only
  all_goals first | with_reducible rfl | simp only [outer_mpm]
theorem issueProtection_outer (s : State) (m : ModuleId) : outer (State.issueProtection s m) = outer s := by
  unfold State.issueProtection
  try dsimp only
  all_goals first | with_reducible rfl | simp only [setModule_outer, zeroAges_outer]
theorem protect_outer (s : State) (m : ModuleId) : outer (State.protect s m) = outer s := by
  unfold State.protect
  try dsimp only
  repeat' split
  all_goals first | with_reducible rfl | simp only [issueProtection_outer]
theorem beginStopPhase_outer (s : State) (m : ModuleId) : outer (State.beginStopPhase s m) = outer s := by
  unfold State.beginStopPhase
  try dsimp only
  all_goals first | with_reducible rfl | simp only [setModule_outer]
theorem releaseOne_outer (s : State) (m : ModuleId) : outer (State.releaseOne s m) = outer s := by
  unfold State.releaseOne
  try dsimp only
  repeat' split
  all_goals first | with_reducible rfl | simp only [removeOps_outer, setModule_outer, queueOp_outer, beginStopPhase_outer]
theorem releaseModules_outer (s : State) (b : Berth) (l : List ModuleId) : outer (State.releaseModules s b l) = outer s := by
  unfold State.releaseModules
  dsimp only
  split
  · exact (changeOfHoldings_outer _ _).trans (outer_foldl _ (fun s m => releaseOne_outer s m) _ _)
  · exact outer_foldl _ (fun s m => releaseOne_outer s m) _ _
theorem releaseBerth_outer (s : State) (b : Berth) : outer (State.releaseBerth s b) = outer s := by
  unfold State.releaseBerth
  try dsimp only
  all_goals first | with_reducible rfl | simp only [releaseModules_outer]
theorem startModule_outer (s : State) (m : ModuleId) (b : Berth) : outer (State.startModule s m b) = outer s := by
  unfold State.startModule
  try dsimp only
  all_goals first | with_reducible rfl | simp only [setModule_outer]
theorem grantPresented_outer (s : State) (b : Berth) (l : List ModuleId) : outer (State.grantPresented s b l) = outer s := by
  unfold State.grantPresented
  try dsimp only
  repeat' split
  all_goals first | with_reducible rfl | simp only [enterState_outer, releaseModules_outer]
theorem pickAll_outer (s : State) (b : Berth) (n : Nat) : outer (s.pickAll b n).1 = outer s := by
  induction n generalizing s with
  | zero => rfl
  | succ n ih =>
    unfold State.pickAll
    split
    · exact (ih _).trans (startModule_outer _ _ _)
    · rfl
theorem grantHead_outer (s : State) (e : AllocEntry) : outer (State.grantHead s e) = outer s := by
  unfold State.grantHead
  try dsimp only
  all_goals first | with_reducible rfl | simp only [outer_mpm, pickAll_outer, grantPresented_outer, changeOfHoldings_outer]
theorem grantLoop_outer (s : State) (n : Nat) : outer (s.grantLoop n) = outer s := by
  induction n generalizing s with
  | zero => rfl
  | succ n ih =>
    unfold State.grantLoop
    split
    · split
      · rw [ih, grantHead_outer]
      · rfl
    · rfl
theorem grantEvaluation_outer (s : State) : outer s.grantEvaluation = outer s := by
  unfold State.grantEvaluation
  split
  · exact grantLoop_outer _ _
  · rfl
theorem allocRequest_outer (s : State) (b : Berth) (count : Nat) (u : Urgency) : outer (State.allocRequest s b count u) = outer s := by
  unfold State.allocRequest
  try dsimp only
  repeat' split
  all_goals first | with_reducible rfl | simp only [outer_mpm, grantEvaluation_outer]
theorem cancelAlloc_outer (s : State) (b : Berth) : outer (State.cancelAlloc s b) = outer s := by
  unfold State.cancelAlloc
  try dsimp only
  repeat' split
  all_goals first | with_reducible rfl | simp only [outer_mpm, grantEvaluation_outer]
theorem cooldownEntry_outer (s : State) (m : ModuleId) : outer (State.cooldownEntry s m) = outer s := by
  unfold State.cooldownEntry
  try dsimp only
  repeat' split
  all_goals first | with_reducible rfl | simp only [setModule_outer, changeOfHoldings_outer]
theorem failureHoldings_outer (s : State) (b : Berth) (old : ModuleState) : outer (State.failureHoldings s b old) = outer s := by
  unfold State.failureHoldings
  try dsimp only
  repeat' split
  all_goals first | with_reducible rfl | simp only [latchBerth_outer, allocRequest_outer, changeOfHoldings_outer]
theorem failModule_outer (s : State) (m : ModuleId) (c : FailureCause) : outer (State.failModule s m c) = outer s := by
  unfold State.failModule
  try dsimp only
  repeat' split
  all_goals first | with_reducible rfl | simp only [removeOps_outer, protect_outer, setModule_outer, latchStation_outer, failureHoldings_outer]
theorem failedToCooldown_outer (s : State) (m : ModuleId) : outer (State.failedToCooldown s m) = outer s := by
  unfold State.failedToCooldown
  try dsimp only
  repeat' split
  all_goals first | with_reducible rfl | simp only [cooldownEntry_outer]
theorem moduleNodeLost_outer (s : State) (m : ModuleId) : outer (State.moduleNodeLost s m) = outer s := by
  unfold State.moduleNodeLost
  try dsimp only
  repeat' split
  all_goals first | with_reducible rfl | simp only [failModule_outer]
theorem tripModule_outer (s : State) (m : ModuleId) : outer (State.tripModule s m) = outer s := by
  unfold State.tripModule
  try dsimp only
  repeat' split
  all_goals first | with_reducible rfl | simp only [removeOps_outer, protect_outer, setModule_outer, beginStopPhase_outer]
theorem tripModules_outer (s : State) (b : Berth) : outer (State.tripModules s b) = outer s :=
  (changeOfHoldings_outer _ _).trans (outer_foldl _ (fun s m => tripModule_outer s m) _ _)
theorem moduleDelivered_outer (s : State) (m : ModuleId) (op : ModuleOp) (inStopPhase : Bool) : outer (State.moduleDelivered s m op inStopPhase) = outer s := by
  unfold State.moduleDelivered
  try dsimp only
  repeat' split
  all_goals first | with_reducible rfl | simp only [setModule_outer, changeOfHoldings_outer, moduleClosedReport_outer, queueOp_outer, cooldownEntry_outer, beginStopPhase_outer, failedToCooldown_outer]
theorem moduleDelivery_outer (s : State) (m : ModuleId) (d : ModuleReport) : outer (State.moduleDelivery s m d) = outer s := by
  unfold State.moduleDelivery
  try dsimp only
  repeat' split
  all_goals first | with_reducible rfl | simp only [setModule_outer, failModule_outer, moduleDelivered_outer]
theorem switchingIssue_outer (s : State) : outer (State.switchingIssue s) = outer s := by
  unfold State.switchingIssue
  try dsimp only
  repeat' split
  all_goals first | with_reducible rfl | simp only [outer_mpm, setModule_outer, zeroAges_outer]
theorem moduleStartLimit_outer (s : State) (m : ModuleId) : outer (State.moduleStartLimit s m) = outer s := by
  unfold State.moduleStartLimit
  try dsimp only
  repeat' split
  all_goals first | with_reducible rfl | simp only [failModule_outer]
theorem moduleOperateLimit_outer (s : State) (m : ModuleId) : outer (State.moduleOperateLimit s m) = outer s := by
  unfold State.moduleOperateLimit
  try dsimp only
  repeat' split
  all_goals first | with_reducible rfl | simp only [failModule_outer, setModule_outer]
theorem cooldownEnd_outer (s : State) (m : ModuleId) : outer (State.cooldownEnd s m) = outer s := by
  unfold State.cooldownEnd
  try dsimp only
  repeat' split
  all_goals first | with_reducible rfl | simp only [setModule_outer, grantEvaluation_outer]
theorem mpmConfigEntry_outer (s : State) : outer (State.mpmConfigEntry s) = outer s := by
  unfold State.mpmConfigEntry
  try dsimp only
  all_goals first | with_reducible rfl | simp only [outer_mpm]
theorem drainReturn_outer (s : State) (b : Berth) : outer (State.drainReturn s b) = outer s := by
  unfold State.drainReturn
  try dsimp only
  repeat' split
  all_goals first | with_reducible rfl | simp only [endMetering_outer, setSession_outer, releaseBerth_outer]
theorem pbDrained_outer (s : State) (b : Berth) : outer (State.pbDrained s b) = outer s := by
  unfold State.pbDrained
  try dsimp only
  all_goals first | with_reducible rfl | simp only [setSession_outer, drainReturn_outer, tryIdle_outer]
theorem drainPb_outer (s : State) (b : Berth) : outer (State.drainPb s b) = outer s := by
  unfold State.drainPb
  try dsimp only
  repeat' split
  all_goals first | with_reducible rfl | simp only [setSession_outer, openRequest_outer, pbDrained_outer]
theorem sbDrained_outer (s : State) (b : Berth) : outer (State.sbDrained s b) = outer s := by
  unfold State.sbDrained
  try dsimp only
  repeat' split
  all_goals first | with_reducible rfl | simp only [setSession_outer, tryIdle_outer, drainPb_outer]
theorem enterDraining_outer (s : State) (b : Berth) (reason : EndReason) (sbFirst : Bool) : outer (State.enterDraining s b reason sbFirst) = outer s := by
  unfold State.enterDraining
  try dsimp only
  repeat' split
  all_goals first | with_reducible rfl | simp only [cancelAlloc_outer, setSession_outer, enterState_outer, openRequest_outer, sbDrained_outer, drainPb_outer]
theorem abortSession_outer (s : State) (b : Berth) (reason : EndReason) : outer (State.abortSession s b reason) = outer s := by
  unfold State.abortSession
  try dsimp only
  repeat' split
  all_goals first | with_reducible rfl | simp only [cancelAlloc_outer, setSession_outer, enterDraining_outer]
theorem shipReturned_outer (s : State) (b : Berth) : outer (State.shipReturned s b) = outer s := by
  unfold State.shipReturned
  try dsimp only
  all_goals first | with_reducible rfl | simp only [enterState_outer, latchBerth_outer]
theorem partShip_outer (s : State) (b : Berth) : outer (State.partShip s b) = outer s := by
  unfold State.partShip
  try dsimp only
  repeat' split
  all_goals first | with_reducible rfl | simp only [enterState_outer, openRequest_outer, shipReturned_outer]
theorem sbCloseComplete_outer (s : State) (b : Berth) : outer (State.sbCloseComplete s b) = outer s := by
  unfold State.sbCloseComplete
  try dsimp only
  repeat' split
  all_goals first | with_reducible rfl | simp only [enterState_outer]
theorem sbOpenComplete_outer (s : State) (b : Berth) : outer (State.sbOpenComplete s b) = outer s := by
  unfold State.sbOpenComplete
  try dsimp only
  repeat' split
  all_goals first | with_reducible rfl | simp only [enterState_outer, shipReturned_outer, sbDrained_outer]
theorem pbOpenComplete_outer (s : State) (b : Berth) : outer (State.pbOpenComplete s b) = outer s := by
  unfold State.pbOpenComplete
  try dsimp only
  repeat' split
  all_goals first | with_reducible rfl | simp only [pbDrained_outer, endMetering_outer, setSession_outer]
theorem closeComplete_outer (s : State) (k : Breaker) : outer (State.closeComplete s k) = outer s := by
  unfold State.closeComplete
  try dsimp only
  repeat' split
  all_goals first | with_reducible rfl | simp only [pbCloseComplete_outer, sbCloseComplete_outer]
theorem openComplete_outer (s : State) (k : Breaker) : outer (State.openComplete s k) = outer s := by
  unfold State.openComplete
  try dsimp only
  repeat' split
  all_goals first | with_reducible rfl | simp only [pbOpenComplete_outer, sbOpenComplete_outer]
theorem sbUncommandedOpen_outer (s : State) (b : Berth) : outer (State.sbUncommandedOpen s b) = outer s := by
  unfold State.sbUncommandedOpen
  try dsimp only
  repeat' split
  all_goals first | with_reducible rfl | simp only [enterState_outer]
theorem pbUncommandedOpen_outer (s : State) (b : Berth) : outer (State.pbUncommandedOpen s b) = outer s := by
  unfold State.pbUncommandedOpen
  try dsimp only
  repeat' split
  all_goals first | with_reducible rfl | simp only [enterDraining_outer, setSession_outer, drainReturn_outer]
theorem uncommandedOpen_outer (s : State) (k : Breaker) : outer (State.uncommandedOpen s k) = outer s := by
  unfold State.uncommandedOpen
  try dsimp only
  repeat' split
  all_goals first | with_reducible rfl | simp only [pbUncommandedOpen_outer, sbUncommandedOpen_outer]
theorem syncCloseIssued_outer (s : State) (b : Berth) : outer (State.syncCloseIssued s b) = outer s := by
  unfold State.syncCloseIssued
  try dsimp only
  all_goals first | with_reducible rfl | simp only [setSession_outer]
theorem alignmentSuccess_outer (s : State) (b : Berth) : outer (State.alignmentSuccess s b) = outer s := by
  unfold State.alignmentSuccess
  try dsimp only
  repeat' split
  all_goals first | with_reducible rfl | simp only [enterState_outer, latchBerth_outer]
theorem enterFaulted_outer (s : State) (b : Berth) : outer (State.enterFaulted s b) = outer s := by
  unfold State.enterFaulted
  try dsimp only
  repeat' split
  all_goals first | with_reducible rfl | simp only [cancelAlloc_outer, enterState_outer, setSession_outer]
theorem cancelAborted_outer (s : State) : outer (State.cancelAborted s) = outer s := by
  unfold State.cancelAborted
  try dsimp only
  repeat' split
  all_goals first | with_reducible rfl | simp only [outer_mpm, grantEvaluation_outer]
theorem invalidAbort_outer (b : Berth) (s : State) : outer (State.invalidAbort b s) = outer s := by
  unfold State.invalidAbort
  try dsimp only
  repeat' split
  all_goals first | with_reducible rfl | simp only [abortSession_outer]
theorem invalidAborts_outer (s : State) : outer (State.invalidAborts s) = outer s :=
  (outer_forEach _ (fun b s => invalidAbort_outer b s) _).trans (cancelAborted_outer s)
theorem rampInStep_outer (s : State) (b : Berth) : outer (State.rampInStep s b) = outer s := by
  unfold State.rampInStep
  try dsimp only
  repeat' split
  all_goals first | with_reducible rfl | simp only [outer_ses, setSession_outer]
theorem rampOutStep_outer (s : State) (b : Berth) : outer (State.rampOutStep s b) = outer s := by
  unfold State.rampOutStep
  try dsimp only
  repeat' split
  all_goals first | with_reducible rfl | simp only [setSession_outer]
theorem rampStep_outer (s : State) (b : Berth) : outer (State.rampStep s b) = outer s := by
  unfold State.rampStep
  try dsimp only
  repeat' split
  all_goals first | with_reducible rfl | simp only [setSession_outer, formCap_outer, rampInStep_outer, rampOutStep_outer]
theorem settleEnd_outer (s : State) (b : Berth) : outer (State.settleEnd s b) = outer s := by
  unfold State.settleEnd
  try dsimp only
  repeat' split
  all_goals first | with_reducible rfl | simp only [enterState_outer, setSession_outer]
theorem refresh_outer (s : State) : outer (State.refresh s) = outer s := by
  unfold State.refresh
  try dsimp only
  repeat' split
  all_goals first | with_reducible rfl | simp only [outer_ses, latchStation_outer]
theorem incomerLoss_outer (s : State) : outer (State.incomerLoss s) = outer s := by
  unfold State.incomerLoss
  try dsimp only
  all_goals first | with_reducible rfl | simp only [outer_ses]
theorem incomerRecovery_outer (s : State) : outer (State.incomerRecovery s) = outer s := by
  unfold State.incomerRecovery
  try dsimp only
  all_goals first | with_reducible rfl | simp only [outer_ses]
theorem headroomReset_outer (s : State) : outer (State.headroomReset s) = outer s := by
  unfold State.headroomReset
  try dsimp only
  all_goals first | with_reducible rfl | simp only [outer_ses]
theorem recallEnd_outer (s : State) (b : Berth) : outer (State.recallEnd s b) = outer s := by
  unfold State.recallEnd
  try dsimp only
  all_goals first | with_reducible rfl | simp only [enterState_outer, setSession_outer]
theorem shipReport_outer (s : State) (b : Berth) (ship : ShipState) (output : Int) : outer (State.shipReport s b ship output) = outer s := by
  unfold State.shipReport
  try dsimp only
  repeat' split
  all_goals first | with_reducible rfl | simp only [setSession_outer, enterState_outer, latchBerth_outer, recallEnd_outer]
theorem secondEndSession_outer (s : State) (b : Berth) : outer (State.secondEndSession s b) = outer s := by
  unfold State.secondEndSession
  try dsimp only
  repeat' split
  all_goals first | with_reducible rfl | simp only [setSession_outer, partShip_outer]
theorem warnFault_outer (s : State) (b : Berth) (k : FaultKind) : outer (State.warnFault s b k) = outer s := by
  unfold State.warnFault
  try dsimp only
  all_goals first | with_reducible rfl | simp only [setSuperv_outer, latchBerth_outer]
theorem setRestartTimer_outer (s : State) (b : Berth) : outer (State.setRestartTimer s b) = outer s := by
  unfold State.setRestartTimer
  try dsimp only
  repeat' split
  all_goals first | with_reducible rfl | simp only [setSuperv_outer]
theorem tripBreakers_outer (s : State) (b : Berth) : outer (State.tripBreakers s b) = outer s := by
  unfold State.tripBreakers
  try dsimp only
  all_goals first | with_reducible rfl | simp only [tripBreaker_outer, setSync_outer]
theorem tripPbComplete_outer (s : State) (b : Berth) : outer (State.tripPbComplete s b) = outer s := by
  unfold State.tripPbComplete
  try dsimp only
  repeat' split
  all_goals first | with_reducible rfl | simp only [pbOpenComplete_outer]
theorem trip_outer (s : State) (b : Berth) (k : FaultKind) (c : FaultClass) : outer (State.trip s b k c) = outer s := by
  unfold State.trip
  try dsimp only
  all_goals first | with_reducible rfl | simp only [setSuperv_outer, tripBreakers_outer, enterFaulted_outer, tripModules_outer, tripPbComplete_outer, latchBerth_outer, setRestartTimer_outer]
theorem laterFault_outer (s : State) (b : Berth) (k : FaultKind) (c : FaultClass) : outer (State.laterFault s b k c) = outer s := by
  unfold State.laterFault
  try dsimp only
  all_goals first | with_reducible rfl | simp only [setSuperv_outer, tripBreakers_outer, tripModules_outer, tripPbComplete_outer, setRestartTimer_outer, latchBerth_outer]
theorem fault_outer (s : State) (b : Berth) (k : FaultKind) : outer (State.fault s b k) = outer s := by
  unfold State.fault
  try dsimp only
  repeat' split
  all_goals first | with_reducible rfl | simp only [warnFault_outer, laterFault_outer, trip_outer]
theorem faultIf_outer (s : State) (raised : Bool) (b : Berth) (k : FaultKind) : outer (State.faultIf s raised b k) = outer s := by
  unfold State.faultIf
  try dsimp only
  repeat' split
  all_goals first | with_reducible rfl | simp only [fault_outer]
theorem superviseCurrent_outer (s : State) (b : Berth) : outer (State.superviseCurrent s b) = outer s := by
  unfold State.superviseCurrent
  try dsimp only
  repeat' split
  all_goals first | with_reducible rfl | simp only [setSuperv_outer, faultIf_outer]
theorem superviseVoltage_outer (s : State) (p : Point) : outer (State.superviseVoltage s p) = outer s := by
  unfold State.superviseVoltage
  try dsimp only
  repeat' split
  all_goals first | with_reducible rfl | simp only [setSuperv_outer, faultIf_outer]
theorem superviseFrequency_outer (s : State) (p : Point) : outer (State.superviseFrequency s p) = outer s := by
  unfold State.superviseFrequency
  try dsimp only
  repeat' split
  all_goals first | with_reducible rfl | simp only [setSuperv_outer, faultIf_outer]
theorem superviseReverse_outer (s : State) (b : Berth) : outer (State.superviseReverse s b) = outer s := by
  unfold State.superviseReverse
  try dsimp only
  repeat' split
  all_goals first | with_reducible rfl | simp only [setSuperv_outer, faultIf_outer]
theorem uncommandedOpenFault_outer (s : State) (k : Breaker) (was : SessionState) : outer (State.uncommandedOpenFault s k was) = outer s := by
  unfold State.uncommandedOpenFault
  try dsimp only
  repeat' split
  all_goals first | with_reducible rfl | simp only [fault_outer]
theorem presentUncommandedOpen_outer (s : State) (supervisionFirst : Bool) (k : Breaker) : outer (State.presentUncommandedOpen s supervisionFirst k) = outer s := by
  unfold State.presentUncommandedOpen
  try dsimp only
  repeat' split
  all_goals first | with_reducible rfl | simp only [uncommandedOpenFault_outer, uncommandedOpen_outer]
theorem breakerReport_outer (s : State) (supervisionFirst : Bool) (k : Breaker) (old : BreakerRecord) (status : BreakerStatus) : outer (State.breakerReport s supervisionFirst k old status) = outer s := by
  unfold State.breakerReport
  try dsimp only
  repeat' split
  all_goals first | with_reducible rfl | simp only [startBlanking_outer, fault_outer, presentUncommandedOpen_outer]
theorem clearClose_outer (s : State) (k : Breaker) : outer (State.clearClose s k) = outer s := by
  unfold State.clearClose
  try dsimp only
  all_goals first | with_reducible rfl | simp only [setBreaker_outer]
theorem clearOpen_outer (s : State) (k : Breaker) : outer (State.clearOpen s k) = outer s := by
  unfold State.clearOpen
  try dsimp only
  all_goals first | with_reducible rfl | simp only [setBreaker_outer]
theorem closeCompletes_outer (s : State) (k : Breaker) : outer (State.closeCompletes s k) = outer s := by
  unfold State.closeCompletes
  try dsimp only
  repeat' split
  all_goals first | with_reducible rfl | simp only [concludeMeasurement_outer, clearClose_outer, issueOpen_outer, closeComplete_outer]
theorem commandEnd_outer (s : State) (k : Breaker) : outer (State.commandEnd s k) = outer s := by
  unfold State.commandEnd
  try dsimp only
  repeat' split
  all_goals first | with_reducible rfl | simp only [closeCompletes_outer, concludeMeasurement_outer, clearClose_outer, openComplete_outer, clearOpen_outer]
theorem breakerDelivery_outer (s : State) (supervisionFirst : Bool) (k : Breaker) (d : BreakerReport) : outer (State.breakerDelivery s supervisionFirst k d) = outer s := by
  unfold State.breakerDelivery
  try dsimp only
  all_goals first | with_reducible rfl | simp only [setBreaker_outer, breakerReport_outer, commandEnd_outer]
theorem breakerLimit_outer (s : State) (k : Breaker) : outer (State.breakerLimit s k) = outer s := by
  unfold State.breakerLimit
  try dsimp only
  repeat' split
  all_goals first | with_reducible rfl | simp only [concludeMeasurement_outer, clearClose_outer, issueOpen_outer, fault_outer, setBreaker_outer]
theorem pbCloseRetry_outer (s : State) (b : Berth) : outer (State.pbCloseRetry s b) = outer s := by
  unfold State.pbCloseRetry
  try dsimp only
  repeat' split
  all_goals first | with_reducible rfl | simp only [presentPbClose_outer]
theorem holdoverEntry_outer (s : State) (b : Berth) : outer (State.holdoverEntry s b) = outer s := by
  unfold State.holdoverEntry
  try dsimp only
  repeat' split
  all_goals first | with_reducible rfl | simp only [setOsc_outer, fault_outer]
theorem presentLoss_outer (s : State) (e : NodeEntry) : outer (State.presentLoss s e) = outer s := by
  unfold State.presentLoss
  try dsimp only
  repeat' split
  all_goals first | with_reducible rfl | simp only [moduleNodeLost_outer, fault_outer, incomerLoss_outer]
theorem presentRecovery_outer (s : State) (e : NodeEntry) : outer (State.presentRecovery s e) = outer s := by
  unfold State.presentRecovery
  try dsimp only
  repeat' split
  all_goals first | with_reducible rfl | simp only [failedToCooldown_outer, incomerRecovery_outer]
theorem firstStrike_outer (s : State) (b : Berth) : outer (State.firstStrike s b) = outer s := by
  unfold State.firstStrike
  try dsimp only
  repeat' split
  all_goals first | with_reducible rfl | simp only [setSession_outer, latchBerth_outer, allocRequest_outer]
theorem secondStrike_outer (s : State) (b : Berth) : outer (State.secondStrike s b) = outer s := by
  unfold State.secondStrike
  try dsimp only
  repeat' split
  all_goals first | with_reducible rfl | simp only [setSession_outer, cancelAlloc_outer, idleEntry_outer, enterDraining_outer, enterState_outer, latchBerth_outer, partShip_outer, fault_outer]
theorem stageExpiry_outer (s : State) (b : Berth) : outer (State.stageExpiry s b) = outer s := by
  unfold State.stageExpiry
  try dsimp only
  repeat' split
  all_goals first | with_reducible rfl | simp only [firstStrike_outer, secondStrike_outer]
theorem blankEnd_outer (s : State) (b : Berth) : outer (State.blankEnd s b) = outer s := by
  unfold State.blankEnd
  try dsimp only
  repeat' split
  all_goals first | with_reducible rfl | simp only [setSuperv_outer]
theorem restartDue_outer (s : State) (b : Berth) : outer (State.restartDue s b) = outer s := by
  unfold State.restartDue
  try dsimp only
  repeat' split
  all_goals first | with_reducible rfl | simp only [setSuperv_outer]
theorem restart_outer (s : State) (b : Berth) : outer (State.restart s b) = outer s := by
  unfold State.restart
  try dsimp only
  repeat' split
  all_goals first | with_reducible rfl | simp only [setSuperv_outer, enterState_outer, allocRequest_outer, latchBerth_outer]
theorem openingFaults_outer (s : State) (b : Berth) : outer (State.openingFaults s b) = outer s := by
  unfold State.openingFaults
  try dsimp only
  all_goals first | with_reducible rfl | simp only [faultIf_outer]
theorem siuReport_outer (s : State) (b : Berth) (ship : ShipState) (output : Int) : outer (State.siuReport s b ship output) = outer s := by
  unfold State.siuReport
  try dsimp only
  all_goals first | with_reducible rfl | simp only [shipReport_outer, faultIf_outer]
theorem lockCrossing_outer (s : State) (b : Berth) (n : Ext) (t : Ticks) : outer (State.lockCrossing s b n t) = outer s := by
  unfold State.lockCrossing
  try dsimp only
  all_goals first | with_reducible rfl | simp only [setOsc_outer]
theorem plugCrossing_outer (s : State) (b : Berth) (t : Ticks) : outer (State.plugCrossing s b t) = outer s := by
  unfold State.plugCrossing
  try dsimp only
  repeat' split
  all_goals first | with_reducible rfl | simp only [setSync_outer, alignmentSuccess_outer, fault_outer]
theorem issueSyncClose_outer (s : State) (b : Berth) : outer (State.issueSyncClose s b) = outer s := by
  unfold State.issueSyncClose
  try dsimp only
  all_goals first | with_reducible rfl | simp only [closeRequest_outer, setSync_outer, syncCloseIssued_outer]
theorem shipCrossing_outer (s : State) (b : Berth) (t : Ticks) : outer (State.shipCrossing s b t) = outer s := by
  unfold State.shipCrossing
  try dsimp only
  repeat' split
  all_goals first | with_reducible rfl | simp only [setSync_outer, issueSyncClose_outer]
theorem trackCrossing_outer (s : State) (b : Berth) : outer (State.trackCrossing s b) = outer s := by
  unfold State.trackCrossing
  try dsimp only
  all_goals first | with_reducible rfl | simp only [setOsc_outer]
theorem presentCrossing_outer (s : State) (p : Point) (n : Ext) (t : Ticks) : outer (State.presentCrossing s p n t) = outer s := by
  unfold State.presentCrossing
  try dsimp only
  repeat' split
  all_goals first | with_reducible rfl | simp only [lockCrossing_outer, superviseVoltage_outer, superviseFrequency_outer, plugCrossing_outer, trackCrossing_outer, shipCrossing_outer]
theorem presentEveryCycle_outer (s : State) (p : Point) (n : Ext) (substituted : Bool) : outer (State.presentEveryCycle s p n substituted) = outer s := by
  unfold State.presentEveryCycle
  try dsimp only
  repeat' split
  all_goals first | with_reducible rfl | simp only [substitutedCycle_outer, superviseCurrent_outer]

/-! ## The fields that follow -/

theorem requests_of_outer {s t : State} (h : outer t = outer s) : t.mrh.requests = s.mrh.requests := congrArg (fun x => x.mrh.requests) h
theorem responses_of_outer {s t : State} (h : outer t = outer s) : t.mrh.responses = s.mrh.responses := congrArg (fun x => x.mrh.responses) h
theorem hold_of_outer {s t : State} (h : outer t = outer s) : t.mrh.hold = s.mrh.hold := congrArg (fun x => x.mrh.hold) h
theorem masked_of_outer {s t : State} (h : outer t = outer s) : t.mrh.masked = s.mrh.masked := congrArg (fun x => x.mrh.masked) h
theorem pending_of_outer {s t : State} (h : outer t = outer s) : t.pending = s.pending := congrArg (fun x => x.pending) h
theorem due_of_outer {s t : State} (h : outer t = outer s) : t.due = s.due := congrArg (fun x => x.due) h
theorem ringOut_of_outer {s t : State} (h : outer t = outer s) : t.ringOut = s.ringOut := congrArg (fun x => x.ringOut) h
theorem resetHeld_of_outer {s t : State} (h : outer t = outer s) : t.resetHeld = s.resetHeld := congrArg (fun x => x.resetHeld) h
theorem rif_of_outer {s t : State} (h : outer t = outer s) : t.rif = s.rif := congrArg (fun x => x.rif) h
theorem mfe_of_outer {s t : State} (h : outer t = outer s) : t.mfe = s.mfe := congrArg (fun x => x.mfe) h
theorem ctu_of_outer {s t : State} (h : outer t = outer s) : t.ctu = s.ctu := congrArg (fun x => x.ctu) h
theorem cfs_of_outer {s t : State} (h : outer t = outer s) : t.cfs = s.cfs := congrArg (fun x => x.cfs) h
@[simp] theorem enterState_pending (s : State) (b : Berth) (st : SessionState) : (State.enterState s b st).pending = s.pending := pending_of_outer (enterState_outer s b st)
@[simp] theorem enterState_due (s : State) (b : Berth) (st : SessionState) : (State.enterState s b st).due = s.due := due_of_outer (enterState_outer s b st)
@[simp] theorem enterState_ringOut (s : State) (b : Berth) (st : SessionState) : (State.enterState s b st).ringOut = s.ringOut := ringOut_of_outer (enterState_outer s b st)
@[simp] theorem enterState_resetHeld (s : State) (b : Berth) (st : SessionState) : (State.enterState s b st).resetHeld = s.resetHeld := resetHeld_of_outer (enterState_outer s b st)
@[simp] theorem enterState_rif (s : State) (b : Berth) (st : SessionState) : (State.enterState s b st).rif = s.rif := rif_of_outer (enterState_outer s b st)
@[simp] theorem enterState_mfe (s : State) (b : Berth) (st : SessionState) : (State.enterState s b st).mfe = s.mfe := mfe_of_outer (enterState_outer s b st)
@[simp] theorem enterState_ctu (s : State) (b : Berth) (st : SessionState) : (State.enterState s b st).ctu = s.ctu := ctu_of_outer (enterState_outer s b st)
@[simp] theorem enterState_cfs (s : State) (b : Berth) (st : SessionState) : (State.enterState s b st).cfs = s.cfs := cfs_of_outer (enterState_outer s b st)
@[simp] theorem enterState_requests (s : State) (b : Berth) (st : SessionState) : (State.enterState s b st).mrh.requests = s.mrh.requests := requests_of_outer (enterState_outer s b st)
@[simp] theorem enterState_responses (s : State) (b : Berth) (st : SessionState) : (State.enterState s b st).mrh.responses = s.mrh.responses := responses_of_outer (enterState_outer s b st)
@[simp] theorem changeOfHoldings_pending (s : State) (b : Berth) : (State.changeOfHoldings s b).pending = s.pending := pending_of_outer (changeOfHoldings_outer s b)
@[simp] theorem changeOfHoldings_due (s : State) (b : Berth) : (State.changeOfHoldings s b).due = s.due := due_of_outer (changeOfHoldings_outer s b)
@[simp] theorem changeOfHoldings_ringOut (s : State) (b : Berth) : (State.changeOfHoldings s b).ringOut = s.ringOut := ringOut_of_outer (changeOfHoldings_outer s b)
@[simp] theorem changeOfHoldings_resetHeld (s : State) (b : Berth) : (State.changeOfHoldings s b).resetHeld = s.resetHeld := resetHeld_of_outer (changeOfHoldings_outer s b)
@[simp] theorem changeOfHoldings_rif (s : State) (b : Berth) : (State.changeOfHoldings s b).rif = s.rif := rif_of_outer (changeOfHoldings_outer s b)
@[simp] theorem changeOfHoldings_mfe (s : State) (b : Berth) : (State.changeOfHoldings s b).mfe = s.mfe := mfe_of_outer (changeOfHoldings_outer s b)
@[simp] theorem changeOfHoldings_ctu (s : State) (b : Berth) : (State.changeOfHoldings s b).ctu = s.ctu := ctu_of_outer (changeOfHoldings_outer s b)
@[simp] theorem changeOfHoldings_cfs (s : State) (b : Berth) : (State.changeOfHoldings s b).cfs = s.cfs := cfs_of_outer (changeOfHoldings_outer s b)
@[simp] theorem changeOfHoldings_requests (s : State) (b : Berth) : (State.changeOfHoldings s b).mrh.requests = s.mrh.requests := requests_of_outer (changeOfHoldings_outer s b)
@[simp] theorem changeOfHoldings_responses (s : State) (b : Berth) : (State.changeOfHoldings s b).mrh.responses = s.mrh.responses := responses_of_outer (changeOfHoldings_outer s b)
@[simp] theorem grantEvaluation_pending (s : State) : (State.grantEvaluation s).pending = s.pending := pending_of_outer (grantEvaluation_outer s)
@[simp] theorem grantEvaluation_due (s : State) : (State.grantEvaluation s).due = s.due := due_of_outer (grantEvaluation_outer s)
@[simp] theorem grantEvaluation_ringOut (s : State) : (State.grantEvaluation s).ringOut = s.ringOut := ringOut_of_outer (grantEvaluation_outer s)
@[simp] theorem grantEvaluation_resetHeld (s : State) : (State.grantEvaluation s).resetHeld = s.resetHeld := resetHeld_of_outer (grantEvaluation_outer s)
@[simp] theorem grantEvaluation_rif (s : State) : (State.grantEvaluation s).rif = s.rif := rif_of_outer (grantEvaluation_outer s)
@[simp] theorem grantEvaluation_mfe (s : State) : (State.grantEvaluation s).mfe = s.mfe := mfe_of_outer (grantEvaluation_outer s)
@[simp] theorem grantEvaluation_ctu (s : State) : (State.grantEvaluation s).ctu = s.ctu := ctu_of_outer (grantEvaluation_outer s)
@[simp] theorem grantEvaluation_cfs (s : State) : (State.grantEvaluation s).cfs = s.cfs := cfs_of_outer (grantEvaluation_outer s)
@[simp] theorem grantEvaluation_requests (s : State) : (State.grantEvaluation s).mrh.requests = s.mrh.requests := requests_of_outer (grantEvaluation_outer s)
@[simp] theorem grantEvaluation_responses (s : State) : (State.grantEvaluation s).mrh.responses = s.mrh.responses := responses_of_outer (grantEvaluation_outer s)
@[simp] theorem allocRequest_pending (s : State) (b : Berth) (count : Nat) (u : Urgency) : (State.allocRequest s b count u).pending = s.pending := pending_of_outer (allocRequest_outer s b count u)
@[simp] theorem allocRequest_due (s : State) (b : Berth) (count : Nat) (u : Urgency) : (State.allocRequest s b count u).due = s.due := due_of_outer (allocRequest_outer s b count u)
@[simp] theorem allocRequest_ringOut (s : State) (b : Berth) (count : Nat) (u : Urgency) : (State.allocRequest s b count u).ringOut = s.ringOut := ringOut_of_outer (allocRequest_outer s b count u)
@[simp] theorem allocRequest_resetHeld (s : State) (b : Berth) (count : Nat) (u : Urgency) : (State.allocRequest s b count u).resetHeld = s.resetHeld := resetHeld_of_outer (allocRequest_outer s b count u)
@[simp] theorem allocRequest_rif (s : State) (b : Berth) (count : Nat) (u : Urgency) : (State.allocRequest s b count u).rif = s.rif := rif_of_outer (allocRequest_outer s b count u)
@[simp] theorem allocRequest_mfe (s : State) (b : Berth) (count : Nat) (u : Urgency) : (State.allocRequest s b count u).mfe = s.mfe := mfe_of_outer (allocRequest_outer s b count u)
@[simp] theorem allocRequest_ctu (s : State) (b : Berth) (count : Nat) (u : Urgency) : (State.allocRequest s b count u).ctu = s.ctu := ctu_of_outer (allocRequest_outer s b count u)
@[simp] theorem allocRequest_cfs (s : State) (b : Berth) (count : Nat) (u : Urgency) : (State.allocRequest s b count u).cfs = s.cfs := cfs_of_outer (allocRequest_outer s b count u)
@[simp] theorem allocRequest_requests (s : State) (b : Berth) (count : Nat) (u : Urgency) : (State.allocRequest s b count u).mrh.requests = s.mrh.requests := requests_of_outer (allocRequest_outer s b count u)
@[simp] theorem allocRequest_responses (s : State) (b : Berth) (count : Nat) (u : Urgency) : (State.allocRequest s b count u).mrh.responses = s.mrh.responses := responses_of_outer (allocRequest_outer s b count u)
@[simp] theorem cancelAlloc_pending (s : State) (b : Berth) : (State.cancelAlloc s b).pending = s.pending := pending_of_outer (cancelAlloc_outer s b)
@[simp] theorem cancelAlloc_due (s : State) (b : Berth) : (State.cancelAlloc s b).due = s.due := due_of_outer (cancelAlloc_outer s b)
@[simp] theorem cancelAlloc_ringOut (s : State) (b : Berth) : (State.cancelAlloc s b).ringOut = s.ringOut := ringOut_of_outer (cancelAlloc_outer s b)
@[simp] theorem cancelAlloc_resetHeld (s : State) (b : Berth) : (State.cancelAlloc s b).resetHeld = s.resetHeld := resetHeld_of_outer (cancelAlloc_outer s b)
@[simp] theorem cancelAlloc_rif (s : State) (b : Berth) : (State.cancelAlloc s b).rif = s.rif := rif_of_outer (cancelAlloc_outer s b)
@[simp] theorem cancelAlloc_mfe (s : State) (b : Berth) : (State.cancelAlloc s b).mfe = s.mfe := mfe_of_outer (cancelAlloc_outer s b)
@[simp] theorem cancelAlloc_ctu (s : State) (b : Berth) : (State.cancelAlloc s b).ctu = s.ctu := ctu_of_outer (cancelAlloc_outer s b)
@[simp] theorem cancelAlloc_cfs (s : State) (b : Berth) : (State.cancelAlloc s b).cfs = s.cfs := cfs_of_outer (cancelAlloc_outer s b)
@[simp] theorem cancelAlloc_requests (s : State) (b : Berth) : (State.cancelAlloc s b).mrh.requests = s.mrh.requests := requests_of_outer (cancelAlloc_outer s b)
@[simp] theorem cancelAlloc_responses (s : State) (b : Berth) : (State.cancelAlloc s b).mrh.responses = s.mrh.responses := responses_of_outer (cancelAlloc_outer s b)
@[simp] theorem releaseBerth_pending (s : State) (b : Berth) : (State.releaseBerth s b).pending = s.pending := pending_of_outer (releaseBerth_outer s b)
@[simp] theorem releaseBerth_due (s : State) (b : Berth) : (State.releaseBerth s b).due = s.due := due_of_outer (releaseBerth_outer s b)
@[simp] theorem releaseBerth_ringOut (s : State) (b : Berth) : (State.releaseBerth s b).ringOut = s.ringOut := ringOut_of_outer (releaseBerth_outer s b)
@[simp] theorem releaseBerth_resetHeld (s : State) (b : Berth) : (State.releaseBerth s b).resetHeld = s.resetHeld := resetHeld_of_outer (releaseBerth_outer s b)
@[simp] theorem releaseBerth_rif (s : State) (b : Berth) : (State.releaseBerth s b).rif = s.rif := rif_of_outer (releaseBerth_outer s b)
@[simp] theorem releaseBerth_mfe (s : State) (b : Berth) : (State.releaseBerth s b).mfe = s.mfe := mfe_of_outer (releaseBerth_outer s b)
@[simp] theorem releaseBerth_ctu (s : State) (b : Berth) : (State.releaseBerth s b).ctu = s.ctu := ctu_of_outer (releaseBerth_outer s b)
@[simp] theorem releaseBerth_cfs (s : State) (b : Berth) : (State.releaseBerth s b).cfs = s.cfs := cfs_of_outer (releaseBerth_outer s b)
@[simp] theorem releaseBerth_requests (s : State) (b : Berth) : (State.releaseBerth s b).mrh.requests = s.mrh.requests := requests_of_outer (releaseBerth_outer s b)
@[simp] theorem releaseBerth_responses (s : State) (b : Berth) : (State.releaseBerth s b).mrh.responses = s.mrh.responses := responses_of_outer (releaseBerth_outer s b)
@[simp] theorem failModule_pending (s : State) (m : ModuleId) (c : FailureCause) : (State.failModule s m c).pending = s.pending := pending_of_outer (failModule_outer s m c)
@[simp] theorem failModule_due (s : State) (m : ModuleId) (c : FailureCause) : (State.failModule s m c).due = s.due := due_of_outer (failModule_outer s m c)
@[simp] theorem failModule_ringOut (s : State) (m : ModuleId) (c : FailureCause) : (State.failModule s m c).ringOut = s.ringOut := ringOut_of_outer (failModule_outer s m c)
@[simp] theorem failModule_resetHeld (s : State) (m : ModuleId) (c : FailureCause) : (State.failModule s m c).resetHeld = s.resetHeld := resetHeld_of_outer (failModule_outer s m c)
@[simp] theorem failModule_rif (s : State) (m : ModuleId) (c : FailureCause) : (State.failModule s m c).rif = s.rif := rif_of_outer (failModule_outer s m c)
@[simp] theorem failModule_mfe (s : State) (m : ModuleId) (c : FailureCause) : (State.failModule s m c).mfe = s.mfe := mfe_of_outer (failModule_outer s m c)
@[simp] theorem failModule_ctu (s : State) (m : ModuleId) (c : FailureCause) : (State.failModule s m c).ctu = s.ctu := ctu_of_outer (failModule_outer s m c)
@[simp] theorem failModule_cfs (s : State) (m : ModuleId) (c : FailureCause) : (State.failModule s m c).cfs = s.cfs := cfs_of_outer (failModule_outer s m c)
@[simp] theorem failModule_requests (s : State) (m : ModuleId) (c : FailureCause) : (State.failModule s m c).mrh.requests = s.mrh.requests := requests_of_outer (failModule_outer s m c)
@[simp] theorem failModule_responses (s : State) (m : ModuleId) (c : FailureCause) : (State.failModule s m c).mrh.responses = s.mrh.responses := responses_of_outer (failModule_outer s m c)
@[simp] theorem cooldownEntry_pending (s : State) (m : ModuleId) : (State.cooldownEntry s m).pending = s.pending := pending_of_outer (cooldownEntry_outer s m)
@[simp] theorem cooldownEntry_due (s : State) (m : ModuleId) : (State.cooldownEntry s m).due = s.due := due_of_outer (cooldownEntry_outer s m)
@[simp] theorem cooldownEntry_ringOut (s : State) (m : ModuleId) : (State.cooldownEntry s m).ringOut = s.ringOut := ringOut_of_outer (cooldownEntry_outer s m)
@[simp] theorem cooldownEntry_resetHeld (s : State) (m : ModuleId) : (State.cooldownEntry s m).resetHeld = s.resetHeld := resetHeld_of_outer (cooldownEntry_outer s m)
@[simp] theorem cooldownEntry_rif (s : State) (m : ModuleId) : (State.cooldownEntry s m).rif = s.rif := rif_of_outer (cooldownEntry_outer s m)
@[simp] theorem cooldownEntry_mfe (s : State) (m : ModuleId) : (State.cooldownEntry s m).mfe = s.mfe := mfe_of_outer (cooldownEntry_outer s m)
@[simp] theorem cooldownEntry_ctu (s : State) (m : ModuleId) : (State.cooldownEntry s m).ctu = s.ctu := ctu_of_outer (cooldownEntry_outer s m)
@[simp] theorem cooldownEntry_cfs (s : State) (m : ModuleId) : (State.cooldownEntry s m).cfs = s.cfs := cfs_of_outer (cooldownEntry_outer s m)
@[simp] theorem cooldownEntry_requests (s : State) (m : ModuleId) : (State.cooldownEntry s m).mrh.requests = s.mrh.requests := requests_of_outer (cooldownEntry_outer s m)
@[simp] theorem cooldownEntry_responses (s : State) (m : ModuleId) : (State.cooldownEntry s m).mrh.responses = s.mrh.responses := responses_of_outer (cooldownEntry_outer s m)
@[simp] theorem failedToCooldown_pending (s : State) (m : ModuleId) : (State.failedToCooldown s m).pending = s.pending := pending_of_outer (failedToCooldown_outer s m)
@[simp] theorem failedToCooldown_due (s : State) (m : ModuleId) : (State.failedToCooldown s m).due = s.due := due_of_outer (failedToCooldown_outer s m)
@[simp] theorem failedToCooldown_ringOut (s : State) (m : ModuleId) : (State.failedToCooldown s m).ringOut = s.ringOut := ringOut_of_outer (failedToCooldown_outer s m)
@[simp] theorem failedToCooldown_resetHeld (s : State) (m : ModuleId) : (State.failedToCooldown s m).resetHeld = s.resetHeld := resetHeld_of_outer (failedToCooldown_outer s m)
@[simp] theorem failedToCooldown_rif (s : State) (m : ModuleId) : (State.failedToCooldown s m).rif = s.rif := rif_of_outer (failedToCooldown_outer s m)
@[simp] theorem failedToCooldown_mfe (s : State) (m : ModuleId) : (State.failedToCooldown s m).mfe = s.mfe := mfe_of_outer (failedToCooldown_outer s m)
@[simp] theorem failedToCooldown_ctu (s : State) (m : ModuleId) : (State.failedToCooldown s m).ctu = s.ctu := ctu_of_outer (failedToCooldown_outer s m)
@[simp] theorem failedToCooldown_cfs (s : State) (m : ModuleId) : (State.failedToCooldown s m).cfs = s.cfs := cfs_of_outer (failedToCooldown_outer s m)
@[simp] theorem failedToCooldown_requests (s : State) (m : ModuleId) : (State.failedToCooldown s m).mrh.requests = s.mrh.requests := requests_of_outer (failedToCooldown_outer s m)
@[simp] theorem failedToCooldown_responses (s : State) (m : ModuleId) : (State.failedToCooldown s m).mrh.responses = s.mrh.responses := responses_of_outer (failedToCooldown_outer s m)
@[simp] theorem tripModules_pending (s : State) (b : Berth) : (State.tripModules s b).pending = s.pending := pending_of_outer (tripModules_outer s b)
@[simp] theorem tripModules_due (s : State) (b : Berth) : (State.tripModules s b).due = s.due := due_of_outer (tripModules_outer s b)
@[simp] theorem tripModules_ringOut (s : State) (b : Berth) : (State.tripModules s b).ringOut = s.ringOut := ringOut_of_outer (tripModules_outer s b)
@[simp] theorem tripModules_resetHeld (s : State) (b : Berth) : (State.tripModules s b).resetHeld = s.resetHeld := resetHeld_of_outer (tripModules_outer s b)
@[simp] theorem tripModules_rif (s : State) (b : Berth) : (State.tripModules s b).rif = s.rif := rif_of_outer (tripModules_outer s b)
@[simp] theorem tripModules_mfe (s : State) (b : Berth) : (State.tripModules s b).mfe = s.mfe := mfe_of_outer (tripModules_outer s b)
@[simp] theorem tripModules_ctu (s : State) (b : Berth) : (State.tripModules s b).ctu = s.ctu := ctu_of_outer (tripModules_outer s b)
@[simp] theorem tripModules_cfs (s : State) (b : Berth) : (State.tripModules s b).cfs = s.cfs := cfs_of_outer (tripModules_outer s b)
@[simp] theorem tripModules_requests (s : State) (b : Berth) : (State.tripModules s b).mrh.requests = s.mrh.requests := requests_of_outer (tripModules_outer s b)
@[simp] theorem tripModules_responses (s : State) (b : Berth) : (State.tripModules s b).mrh.responses = s.mrh.responses := responses_of_outer (tripModules_outer s b)
@[simp] theorem moduleDelivery_pending (s : State) (m : ModuleId) (d : ModuleReport) : (State.moduleDelivery s m d).pending = s.pending := pending_of_outer (moduleDelivery_outer s m d)
@[simp] theorem moduleDelivery_due (s : State) (m : ModuleId) (d : ModuleReport) : (State.moduleDelivery s m d).due = s.due := due_of_outer (moduleDelivery_outer s m d)
@[simp] theorem moduleDelivery_ringOut (s : State) (m : ModuleId) (d : ModuleReport) : (State.moduleDelivery s m d).ringOut = s.ringOut := ringOut_of_outer (moduleDelivery_outer s m d)
@[simp] theorem moduleDelivery_resetHeld (s : State) (m : ModuleId) (d : ModuleReport) : (State.moduleDelivery s m d).resetHeld = s.resetHeld := resetHeld_of_outer (moduleDelivery_outer s m d)
@[simp] theorem moduleDelivery_rif (s : State) (m : ModuleId) (d : ModuleReport) : (State.moduleDelivery s m d).rif = s.rif := rif_of_outer (moduleDelivery_outer s m d)
@[simp] theorem moduleDelivery_mfe (s : State) (m : ModuleId) (d : ModuleReport) : (State.moduleDelivery s m d).mfe = s.mfe := mfe_of_outer (moduleDelivery_outer s m d)
@[simp] theorem moduleDelivery_ctu (s : State) (m : ModuleId) (d : ModuleReport) : (State.moduleDelivery s m d).ctu = s.ctu := ctu_of_outer (moduleDelivery_outer s m d)
@[simp] theorem moduleDelivery_cfs (s : State) (m : ModuleId) (d : ModuleReport) : (State.moduleDelivery s m d).cfs = s.cfs := cfs_of_outer (moduleDelivery_outer s m d)
@[simp] theorem moduleDelivery_requests (s : State) (m : ModuleId) (d : ModuleReport) : (State.moduleDelivery s m d).mrh.requests = s.mrh.requests := requests_of_outer (moduleDelivery_outer s m d)
@[simp] theorem moduleDelivery_responses (s : State) (m : ModuleId) (d : ModuleReport) : (State.moduleDelivery s m d).mrh.responses = s.mrh.responses := responses_of_outer (moduleDelivery_outer s m d)
@[simp] theorem switchingIssue_pending (s : State) : (State.switchingIssue s).pending = s.pending := pending_of_outer (switchingIssue_outer s)
@[simp] theorem switchingIssue_due (s : State) : (State.switchingIssue s).due = s.due := due_of_outer (switchingIssue_outer s)
@[simp] theorem switchingIssue_ringOut (s : State) : (State.switchingIssue s).ringOut = s.ringOut := ringOut_of_outer (switchingIssue_outer s)
@[simp] theorem switchingIssue_resetHeld (s : State) : (State.switchingIssue s).resetHeld = s.resetHeld := resetHeld_of_outer (switchingIssue_outer s)
@[simp] theorem switchingIssue_rif (s : State) : (State.switchingIssue s).rif = s.rif := rif_of_outer (switchingIssue_outer s)
@[simp] theorem switchingIssue_mfe (s : State) : (State.switchingIssue s).mfe = s.mfe := mfe_of_outer (switchingIssue_outer s)
@[simp] theorem switchingIssue_ctu (s : State) : (State.switchingIssue s).ctu = s.ctu := ctu_of_outer (switchingIssue_outer s)
@[simp] theorem switchingIssue_cfs (s : State) : (State.switchingIssue s).cfs = s.cfs := cfs_of_outer (switchingIssue_outer s)
@[simp] theorem switchingIssue_requests (s : State) : (State.switchingIssue s).mrh.requests = s.mrh.requests := requests_of_outer (switchingIssue_outer s)
@[simp] theorem switchingIssue_responses (s : State) : (State.switchingIssue s).mrh.responses = s.mrh.responses := responses_of_outer (switchingIssue_outer s)
@[simp] theorem moduleStartLimit_pending (s : State) (m : ModuleId) : (State.moduleStartLimit s m).pending = s.pending := pending_of_outer (moduleStartLimit_outer s m)
@[simp] theorem moduleStartLimit_due (s : State) (m : ModuleId) : (State.moduleStartLimit s m).due = s.due := due_of_outer (moduleStartLimit_outer s m)
@[simp] theorem moduleStartLimit_ringOut (s : State) (m : ModuleId) : (State.moduleStartLimit s m).ringOut = s.ringOut := ringOut_of_outer (moduleStartLimit_outer s m)
@[simp] theorem moduleStartLimit_resetHeld (s : State) (m : ModuleId) : (State.moduleStartLimit s m).resetHeld = s.resetHeld := resetHeld_of_outer (moduleStartLimit_outer s m)
@[simp] theorem moduleStartLimit_rif (s : State) (m : ModuleId) : (State.moduleStartLimit s m).rif = s.rif := rif_of_outer (moduleStartLimit_outer s m)
@[simp] theorem moduleStartLimit_mfe (s : State) (m : ModuleId) : (State.moduleStartLimit s m).mfe = s.mfe := mfe_of_outer (moduleStartLimit_outer s m)
@[simp] theorem moduleStartLimit_ctu (s : State) (m : ModuleId) : (State.moduleStartLimit s m).ctu = s.ctu := ctu_of_outer (moduleStartLimit_outer s m)
@[simp] theorem moduleStartLimit_cfs (s : State) (m : ModuleId) : (State.moduleStartLimit s m).cfs = s.cfs := cfs_of_outer (moduleStartLimit_outer s m)
@[simp] theorem moduleStartLimit_requests (s : State) (m : ModuleId) : (State.moduleStartLimit s m).mrh.requests = s.mrh.requests := requests_of_outer (moduleStartLimit_outer s m)
@[simp] theorem moduleStartLimit_responses (s : State) (m : ModuleId) : (State.moduleStartLimit s m).mrh.responses = s.mrh.responses := responses_of_outer (moduleStartLimit_outer s m)
@[simp] theorem moduleOperateLimit_pending (s : State) (m : ModuleId) : (State.moduleOperateLimit s m).pending = s.pending := pending_of_outer (moduleOperateLimit_outer s m)
@[simp] theorem moduleOperateLimit_due (s : State) (m : ModuleId) : (State.moduleOperateLimit s m).due = s.due := due_of_outer (moduleOperateLimit_outer s m)
@[simp] theorem moduleOperateLimit_ringOut (s : State) (m : ModuleId) : (State.moduleOperateLimit s m).ringOut = s.ringOut := ringOut_of_outer (moduleOperateLimit_outer s m)
@[simp] theorem moduleOperateLimit_resetHeld (s : State) (m : ModuleId) : (State.moduleOperateLimit s m).resetHeld = s.resetHeld := resetHeld_of_outer (moduleOperateLimit_outer s m)
@[simp] theorem moduleOperateLimit_rif (s : State) (m : ModuleId) : (State.moduleOperateLimit s m).rif = s.rif := rif_of_outer (moduleOperateLimit_outer s m)
@[simp] theorem moduleOperateLimit_mfe (s : State) (m : ModuleId) : (State.moduleOperateLimit s m).mfe = s.mfe := mfe_of_outer (moduleOperateLimit_outer s m)
@[simp] theorem moduleOperateLimit_ctu (s : State) (m : ModuleId) : (State.moduleOperateLimit s m).ctu = s.ctu := ctu_of_outer (moduleOperateLimit_outer s m)
@[simp] theorem moduleOperateLimit_cfs (s : State) (m : ModuleId) : (State.moduleOperateLimit s m).cfs = s.cfs := cfs_of_outer (moduleOperateLimit_outer s m)
@[simp] theorem moduleOperateLimit_requests (s : State) (m : ModuleId) : (State.moduleOperateLimit s m).mrh.requests = s.mrh.requests := requests_of_outer (moduleOperateLimit_outer s m)
@[simp] theorem moduleOperateLimit_responses (s : State) (m : ModuleId) : (State.moduleOperateLimit s m).mrh.responses = s.mrh.responses := responses_of_outer (moduleOperateLimit_outer s m)
@[simp] theorem cooldownEnd_pending (s : State) (m : ModuleId) : (State.cooldownEnd s m).pending = s.pending := pending_of_outer (cooldownEnd_outer s m)
@[simp] theorem cooldownEnd_due (s : State) (m : ModuleId) : (State.cooldownEnd s m).due = s.due := due_of_outer (cooldownEnd_outer s m)
@[simp] theorem cooldownEnd_ringOut (s : State) (m : ModuleId) : (State.cooldownEnd s m).ringOut = s.ringOut := ringOut_of_outer (cooldownEnd_outer s m)
@[simp] theorem cooldownEnd_resetHeld (s : State) (m : ModuleId) : (State.cooldownEnd s m).resetHeld = s.resetHeld := resetHeld_of_outer (cooldownEnd_outer s m)
@[simp] theorem cooldownEnd_rif (s : State) (m : ModuleId) : (State.cooldownEnd s m).rif = s.rif := rif_of_outer (cooldownEnd_outer s m)
@[simp] theorem cooldownEnd_mfe (s : State) (m : ModuleId) : (State.cooldownEnd s m).mfe = s.mfe := mfe_of_outer (cooldownEnd_outer s m)
@[simp] theorem cooldownEnd_ctu (s : State) (m : ModuleId) : (State.cooldownEnd s m).ctu = s.ctu := ctu_of_outer (cooldownEnd_outer s m)
@[simp] theorem cooldownEnd_cfs (s : State) (m : ModuleId) : (State.cooldownEnd s m).cfs = s.cfs := cfs_of_outer (cooldownEnd_outer s m)
@[simp] theorem cooldownEnd_requests (s : State) (m : ModuleId) : (State.cooldownEnd s m).mrh.requests = s.mrh.requests := requests_of_outer (cooldownEnd_outer s m)
@[simp] theorem cooldownEnd_responses (s : State) (m : ModuleId) : (State.cooldownEnd s m).mrh.responses = s.mrh.responses := responses_of_outer (cooldownEnd_outer s m)
@[simp] theorem mpmConfigEntry_pending (s : State) : (State.mpmConfigEntry s).pending = s.pending := pending_of_outer (mpmConfigEntry_outer s)
@[simp] theorem mpmConfigEntry_due (s : State) : (State.mpmConfigEntry s).due = s.due := due_of_outer (mpmConfigEntry_outer s)
@[simp] theorem mpmConfigEntry_ringOut (s : State) : (State.mpmConfigEntry s).ringOut = s.ringOut := ringOut_of_outer (mpmConfigEntry_outer s)
@[simp] theorem mpmConfigEntry_resetHeld (s : State) : (State.mpmConfigEntry s).resetHeld = s.resetHeld := resetHeld_of_outer (mpmConfigEntry_outer s)
@[simp] theorem mpmConfigEntry_rif (s : State) : (State.mpmConfigEntry s).rif = s.rif := rif_of_outer (mpmConfigEntry_outer s)
@[simp] theorem mpmConfigEntry_mfe (s : State) : (State.mpmConfigEntry s).mfe = s.mfe := mfe_of_outer (mpmConfigEntry_outer s)
@[simp] theorem mpmConfigEntry_ctu (s : State) : (State.mpmConfigEntry s).ctu = s.ctu := ctu_of_outer (mpmConfigEntry_outer s)
@[simp] theorem mpmConfigEntry_cfs (s : State) : (State.mpmConfigEntry s).cfs = s.cfs := cfs_of_outer (mpmConfigEntry_outer s)
@[simp] theorem mpmConfigEntry_requests (s : State) : (State.mpmConfigEntry s).mrh.requests = s.mrh.requests := requests_of_outer (mpmConfigEntry_outer s)
@[simp] theorem mpmConfigEntry_responses (s : State) : (State.mpmConfigEntry s).mrh.responses = s.mrh.responses := responses_of_outer (mpmConfigEntry_outer s)
@[simp] theorem enterDraining_pending (s : State) (b : Berth) (reason : EndReason) (sbFirst : Bool) : (State.enterDraining s b reason sbFirst).pending = s.pending := pending_of_outer (enterDraining_outer s b reason sbFirst)
@[simp] theorem enterDraining_due (s : State) (b : Berth) (reason : EndReason) (sbFirst : Bool) : (State.enterDraining s b reason sbFirst).due = s.due := due_of_outer (enterDraining_outer s b reason sbFirst)
@[simp] theorem enterDraining_ringOut (s : State) (b : Berth) (reason : EndReason) (sbFirst : Bool) : (State.enterDraining s b reason sbFirst).ringOut = s.ringOut := ringOut_of_outer (enterDraining_outer s b reason sbFirst)
@[simp] theorem enterDraining_resetHeld (s : State) (b : Berth) (reason : EndReason) (sbFirst : Bool) : (State.enterDraining s b reason sbFirst).resetHeld = s.resetHeld := resetHeld_of_outer (enterDraining_outer s b reason sbFirst)
@[simp] theorem enterDraining_rif (s : State) (b : Berth) (reason : EndReason) (sbFirst : Bool) : (State.enterDraining s b reason sbFirst).rif = s.rif := rif_of_outer (enterDraining_outer s b reason sbFirst)
@[simp] theorem enterDraining_mfe (s : State) (b : Berth) (reason : EndReason) (sbFirst : Bool) : (State.enterDraining s b reason sbFirst).mfe = s.mfe := mfe_of_outer (enterDraining_outer s b reason sbFirst)
@[simp] theorem enterDraining_ctu (s : State) (b : Berth) (reason : EndReason) (sbFirst : Bool) : (State.enterDraining s b reason sbFirst).ctu = s.ctu := ctu_of_outer (enterDraining_outer s b reason sbFirst)
@[simp] theorem enterDraining_cfs (s : State) (b : Berth) (reason : EndReason) (sbFirst : Bool) : (State.enterDraining s b reason sbFirst).cfs = s.cfs := cfs_of_outer (enterDraining_outer s b reason sbFirst)
@[simp] theorem enterDraining_requests (s : State) (b : Berth) (reason : EndReason) (sbFirst : Bool) : (State.enterDraining s b reason sbFirst).mrh.requests = s.mrh.requests := requests_of_outer (enterDraining_outer s b reason sbFirst)
@[simp] theorem enterDraining_responses (s : State) (b : Berth) (reason : EndReason) (sbFirst : Bool) : (State.enterDraining s b reason sbFirst).mrh.responses = s.mrh.responses := responses_of_outer (enterDraining_outer s b reason sbFirst)
@[simp] theorem abortSession_pending (s : State) (b : Berth) (reason : EndReason) : (State.abortSession s b reason).pending = s.pending := pending_of_outer (abortSession_outer s b reason)
@[simp] theorem abortSession_due (s : State) (b : Berth) (reason : EndReason) : (State.abortSession s b reason).due = s.due := due_of_outer (abortSession_outer s b reason)
@[simp] theorem abortSession_ringOut (s : State) (b : Berth) (reason : EndReason) : (State.abortSession s b reason).ringOut = s.ringOut := ringOut_of_outer (abortSession_outer s b reason)
@[simp] theorem abortSession_resetHeld (s : State) (b : Berth) (reason : EndReason) : (State.abortSession s b reason).resetHeld = s.resetHeld := resetHeld_of_outer (abortSession_outer s b reason)
@[simp] theorem abortSession_rif (s : State) (b : Berth) (reason : EndReason) : (State.abortSession s b reason).rif = s.rif := rif_of_outer (abortSession_outer s b reason)
@[simp] theorem abortSession_mfe (s : State) (b : Berth) (reason : EndReason) : (State.abortSession s b reason).mfe = s.mfe := mfe_of_outer (abortSession_outer s b reason)
@[simp] theorem abortSession_ctu (s : State) (b : Berth) (reason : EndReason) : (State.abortSession s b reason).ctu = s.ctu := ctu_of_outer (abortSession_outer s b reason)
@[simp] theorem abortSession_cfs (s : State) (b : Berth) (reason : EndReason) : (State.abortSession s b reason).cfs = s.cfs := cfs_of_outer (abortSession_outer s b reason)
@[simp] theorem abortSession_requests (s : State) (b : Berth) (reason : EndReason) : (State.abortSession s b reason).mrh.requests = s.mrh.requests := requests_of_outer (abortSession_outer s b reason)
@[simp] theorem abortSession_responses (s : State) (b : Berth) (reason : EndReason) : (State.abortSession s b reason).mrh.responses = s.mrh.responses := responses_of_outer (abortSession_outer s b reason)
@[simp] theorem idleEntry_pending (s : State) (b : Berth) : (State.idleEntry s b).pending = s.pending := pending_of_outer (idleEntry_outer s b)
@[simp] theorem idleEntry_due (s : State) (b : Berth) : (State.idleEntry s b).due = s.due := due_of_outer (idleEntry_outer s b)
@[simp] theorem idleEntry_ringOut (s : State) (b : Berth) : (State.idleEntry s b).ringOut = s.ringOut := ringOut_of_outer (idleEntry_outer s b)
@[simp] theorem idleEntry_resetHeld (s : State) (b : Berth) : (State.idleEntry s b).resetHeld = s.resetHeld := resetHeld_of_outer (idleEntry_outer s b)
@[simp] theorem idleEntry_rif (s : State) (b : Berth) : (State.idleEntry s b).rif = s.rif := rif_of_outer (idleEntry_outer s b)
@[simp] theorem idleEntry_mfe (s : State) (b : Berth) : (State.idleEntry s b).mfe = s.mfe := mfe_of_outer (idleEntry_outer s b)
@[simp] theorem idleEntry_ctu (s : State) (b : Berth) : (State.idleEntry s b).ctu = s.ctu := ctu_of_outer (idleEntry_outer s b)
@[simp] theorem idleEntry_cfs (s : State) (b : Berth) : (State.idleEntry s b).cfs = s.cfs := cfs_of_outer (idleEntry_outer s b)
@[simp] theorem idleEntry_requests (s : State) (b : Berth) : (State.idleEntry s b).mrh.requests = s.mrh.requests := requests_of_outer (idleEntry_outer s b)
@[simp] theorem idleEntry_responses (s : State) (b : Berth) : (State.idleEntry s b).mrh.responses = s.mrh.responses := responses_of_outer (idleEntry_outer s b)
@[simp] theorem tryIdle_pending (s : State) (b : Berth) : (State.tryIdle s b).pending = s.pending := pending_of_outer (tryIdle_outer s b)
@[simp] theorem tryIdle_due (s : State) (b : Berth) : (State.tryIdle s b).due = s.due := due_of_outer (tryIdle_outer s b)
@[simp] theorem tryIdle_ringOut (s : State) (b : Berth) : (State.tryIdle s b).ringOut = s.ringOut := ringOut_of_outer (tryIdle_outer s b)
@[simp] theorem tryIdle_resetHeld (s : State) (b : Berth) : (State.tryIdle s b).resetHeld = s.resetHeld := resetHeld_of_outer (tryIdle_outer s b)
@[simp] theorem tryIdle_rif (s : State) (b : Berth) : (State.tryIdle s b).rif = s.rif := rif_of_outer (tryIdle_outer s b)
@[simp] theorem tryIdle_mfe (s : State) (b : Berth) : (State.tryIdle s b).mfe = s.mfe := mfe_of_outer (tryIdle_outer s b)
@[simp] theorem tryIdle_ctu (s : State) (b : Berth) : (State.tryIdle s b).ctu = s.ctu := ctu_of_outer (tryIdle_outer s b)
@[simp] theorem tryIdle_cfs (s : State) (b : Berth) : (State.tryIdle s b).cfs = s.cfs := cfs_of_outer (tryIdle_outer s b)
@[simp] theorem tryIdle_requests (s : State) (b : Berth) : (State.tryIdle s b).mrh.requests = s.mrh.requests := requests_of_outer (tryIdle_outer s b)
@[simp] theorem tryIdle_responses (s : State) (b : Berth) : (State.tryIdle s b).mrh.responses = s.mrh.responses := responses_of_outer (tryIdle_outer s b)
@[simp] theorem partShip_pending (s : State) (b : Berth) : (State.partShip s b).pending = s.pending := pending_of_outer (partShip_outer s b)
@[simp] theorem partShip_due (s : State) (b : Berth) : (State.partShip s b).due = s.due := due_of_outer (partShip_outer s b)
@[simp] theorem partShip_ringOut (s : State) (b : Berth) : (State.partShip s b).ringOut = s.ringOut := ringOut_of_outer (partShip_outer s b)
@[simp] theorem partShip_resetHeld (s : State) (b : Berth) : (State.partShip s b).resetHeld = s.resetHeld := resetHeld_of_outer (partShip_outer s b)
@[simp] theorem partShip_rif (s : State) (b : Berth) : (State.partShip s b).rif = s.rif := rif_of_outer (partShip_outer s b)
@[simp] theorem partShip_mfe (s : State) (b : Berth) : (State.partShip s b).mfe = s.mfe := mfe_of_outer (partShip_outer s b)
@[simp] theorem partShip_ctu (s : State) (b : Berth) : (State.partShip s b).ctu = s.ctu := ctu_of_outer (partShip_outer s b)
@[simp] theorem partShip_cfs (s : State) (b : Berth) : (State.partShip s b).cfs = s.cfs := cfs_of_outer (partShip_outer s b)
@[simp] theorem partShip_requests (s : State) (b : Berth) : (State.partShip s b).mrh.requests = s.mrh.requests := requests_of_outer (partShip_outer s b)
@[simp] theorem partShip_responses (s : State) (b : Berth) : (State.partShip s b).mrh.responses = s.mrh.responses := responses_of_outer (partShip_outer s b)
@[simp] theorem rampStep_pending (s : State) (b : Berth) : (State.rampStep s b).pending = s.pending := pending_of_outer (rampStep_outer s b)
@[simp] theorem rampStep_due (s : State) (b : Berth) : (State.rampStep s b).due = s.due := due_of_outer (rampStep_outer s b)
@[simp] theorem rampStep_ringOut (s : State) (b : Berth) : (State.rampStep s b).ringOut = s.ringOut := ringOut_of_outer (rampStep_outer s b)
@[simp] theorem rampStep_resetHeld (s : State) (b : Berth) : (State.rampStep s b).resetHeld = s.resetHeld := resetHeld_of_outer (rampStep_outer s b)
@[simp] theorem rampStep_rif (s : State) (b : Berth) : (State.rampStep s b).rif = s.rif := rif_of_outer (rampStep_outer s b)
@[simp] theorem rampStep_mfe (s : State) (b : Berth) : (State.rampStep s b).mfe = s.mfe := mfe_of_outer (rampStep_outer s b)
@[simp] theorem rampStep_ctu (s : State) (b : Berth) : (State.rampStep s b).ctu = s.ctu := ctu_of_outer (rampStep_outer s b)
@[simp] theorem rampStep_cfs (s : State) (b : Berth) : (State.rampStep s b).cfs = s.cfs := cfs_of_outer (rampStep_outer s b)
@[simp] theorem rampStep_requests (s : State) (b : Berth) : (State.rampStep s b).mrh.requests = s.mrh.requests := requests_of_outer (rampStep_outer s b)
@[simp] theorem rampStep_responses (s : State) (b : Berth) : (State.rampStep s b).mrh.responses = s.mrh.responses := responses_of_outer (rampStep_outer s b)
@[simp] theorem settleEnd_pending (s : State) (b : Berth) : (State.settleEnd s b).pending = s.pending := pending_of_outer (settleEnd_outer s b)
@[simp] theorem settleEnd_due (s : State) (b : Berth) : (State.settleEnd s b).due = s.due := due_of_outer (settleEnd_outer s b)
@[simp] theorem settleEnd_ringOut (s : State) (b : Berth) : (State.settleEnd s b).ringOut = s.ringOut := ringOut_of_outer (settleEnd_outer s b)
@[simp] theorem settleEnd_resetHeld (s : State) (b : Berth) : (State.settleEnd s b).resetHeld = s.resetHeld := resetHeld_of_outer (settleEnd_outer s b)
@[simp] theorem settleEnd_rif (s : State) (b : Berth) : (State.settleEnd s b).rif = s.rif := rif_of_outer (settleEnd_outer s b)
@[simp] theorem settleEnd_mfe (s : State) (b : Berth) : (State.settleEnd s b).mfe = s.mfe := mfe_of_outer (settleEnd_outer s b)
@[simp] theorem settleEnd_ctu (s : State) (b : Berth) : (State.settleEnd s b).ctu = s.ctu := ctu_of_outer (settleEnd_outer s b)
@[simp] theorem settleEnd_cfs (s : State) (b : Berth) : (State.settleEnd s b).cfs = s.cfs := cfs_of_outer (settleEnd_outer s b)
@[simp] theorem settleEnd_requests (s : State) (b : Berth) : (State.settleEnd s b).mrh.requests = s.mrh.requests := requests_of_outer (settleEnd_outer s b)
@[simp] theorem settleEnd_responses (s : State) (b : Berth) : (State.settleEnd s b).mrh.responses = s.mrh.responses := responses_of_outer (settleEnd_outer s b)
@[simp] theorem secondEndSession_pending (s : State) (b : Berth) : (State.secondEndSession s b).pending = s.pending := pending_of_outer (secondEndSession_outer s b)
@[simp] theorem secondEndSession_due (s : State) (b : Berth) : (State.secondEndSession s b).due = s.due := due_of_outer (secondEndSession_outer s b)
@[simp] theorem secondEndSession_ringOut (s : State) (b : Berth) : (State.secondEndSession s b).ringOut = s.ringOut := ringOut_of_outer (secondEndSession_outer s b)
@[simp] theorem secondEndSession_resetHeld (s : State) (b : Berth) : (State.secondEndSession s b).resetHeld = s.resetHeld := resetHeld_of_outer (secondEndSession_outer s b)
@[simp] theorem secondEndSession_rif (s : State) (b : Berth) : (State.secondEndSession s b).rif = s.rif := rif_of_outer (secondEndSession_outer s b)
@[simp] theorem secondEndSession_mfe (s : State) (b : Berth) : (State.secondEndSession s b).mfe = s.mfe := mfe_of_outer (secondEndSession_outer s b)
@[simp] theorem secondEndSession_ctu (s : State) (b : Berth) : (State.secondEndSession s b).ctu = s.ctu := ctu_of_outer (secondEndSession_outer s b)
@[simp] theorem secondEndSession_cfs (s : State) (b : Berth) : (State.secondEndSession s b).cfs = s.cfs := cfs_of_outer (secondEndSession_outer s b)
@[simp] theorem secondEndSession_requests (s : State) (b : Berth) : (State.secondEndSession s b).mrh.requests = s.mrh.requests := requests_of_outer (secondEndSession_outer s b)
@[simp] theorem secondEndSession_responses (s : State) (b : Berth) : (State.secondEndSession s b).mrh.responses = s.mrh.responses := responses_of_outer (secondEndSession_outer s b)
@[simp] theorem fault_pending (s : State) (b : Berth) (k : FaultKind) : (State.fault s b k).pending = s.pending := pending_of_outer (fault_outer s b k)
@[simp] theorem fault_due (s : State) (b : Berth) (k : FaultKind) : (State.fault s b k).due = s.due := due_of_outer (fault_outer s b k)
@[simp] theorem fault_ringOut (s : State) (b : Berth) (k : FaultKind) : (State.fault s b k).ringOut = s.ringOut := ringOut_of_outer (fault_outer s b k)
@[simp] theorem fault_resetHeld (s : State) (b : Berth) (k : FaultKind) : (State.fault s b k).resetHeld = s.resetHeld := resetHeld_of_outer (fault_outer s b k)
@[simp] theorem fault_rif (s : State) (b : Berth) (k : FaultKind) : (State.fault s b k).rif = s.rif := rif_of_outer (fault_outer s b k)
@[simp] theorem fault_mfe (s : State) (b : Berth) (k : FaultKind) : (State.fault s b k).mfe = s.mfe := mfe_of_outer (fault_outer s b k)
@[simp] theorem fault_ctu (s : State) (b : Berth) (k : FaultKind) : (State.fault s b k).ctu = s.ctu := ctu_of_outer (fault_outer s b k)
@[simp] theorem fault_cfs (s : State) (b : Berth) (k : FaultKind) : (State.fault s b k).cfs = s.cfs := cfs_of_outer (fault_outer s b k)
@[simp] theorem fault_requests (s : State) (b : Berth) (k : FaultKind) : (State.fault s b k).mrh.requests = s.mrh.requests := requests_of_outer (fault_outer s b k)
@[simp] theorem fault_responses (s : State) (b : Berth) (k : FaultKind) : (State.fault s b k).mrh.responses = s.mrh.responses := responses_of_outer (fault_outer s b k)
@[simp] theorem faultIf_pending (s : State) (raised : Bool) (b : Berth) (k : FaultKind) : (State.faultIf s raised b k).pending = s.pending := pending_of_outer (faultIf_outer s raised b k)
@[simp] theorem faultIf_due (s : State) (raised : Bool) (b : Berth) (k : FaultKind) : (State.faultIf s raised b k).due = s.due := due_of_outer (faultIf_outer s raised b k)
@[simp] theorem faultIf_ringOut (s : State) (raised : Bool) (b : Berth) (k : FaultKind) : (State.faultIf s raised b k).ringOut = s.ringOut := ringOut_of_outer (faultIf_outer s raised b k)
@[simp] theorem faultIf_resetHeld (s : State) (raised : Bool) (b : Berth) (k : FaultKind) : (State.faultIf s raised b k).resetHeld = s.resetHeld := resetHeld_of_outer (faultIf_outer s raised b k)
@[simp] theorem faultIf_rif (s : State) (raised : Bool) (b : Berth) (k : FaultKind) : (State.faultIf s raised b k).rif = s.rif := rif_of_outer (faultIf_outer s raised b k)
@[simp] theorem faultIf_mfe (s : State) (raised : Bool) (b : Berth) (k : FaultKind) : (State.faultIf s raised b k).mfe = s.mfe := mfe_of_outer (faultIf_outer s raised b k)
@[simp] theorem faultIf_ctu (s : State) (raised : Bool) (b : Berth) (k : FaultKind) : (State.faultIf s raised b k).ctu = s.ctu := ctu_of_outer (faultIf_outer s raised b k)
@[simp] theorem faultIf_cfs (s : State) (raised : Bool) (b : Berth) (k : FaultKind) : (State.faultIf s raised b k).cfs = s.cfs := cfs_of_outer (faultIf_outer s raised b k)
@[simp] theorem faultIf_requests (s : State) (raised : Bool) (b : Berth) (k : FaultKind) : (State.faultIf s raised b k).mrh.requests = s.mrh.requests := requests_of_outer (faultIf_outer s raised b k)
@[simp] theorem faultIf_responses (s : State) (raised : Bool) (b : Berth) (k : FaultKind) : (State.faultIf s raised b k).mrh.responses = s.mrh.responses := responses_of_outer (faultIf_outer s raised b k)
@[simp] theorem superviseCurrent_pending (s : State) (b : Berth) : (State.superviseCurrent s b).pending = s.pending := pending_of_outer (superviseCurrent_outer s b)
@[simp] theorem superviseCurrent_due (s : State) (b : Berth) : (State.superviseCurrent s b).due = s.due := due_of_outer (superviseCurrent_outer s b)
@[simp] theorem superviseCurrent_ringOut (s : State) (b : Berth) : (State.superviseCurrent s b).ringOut = s.ringOut := ringOut_of_outer (superviseCurrent_outer s b)
@[simp] theorem superviseCurrent_resetHeld (s : State) (b : Berth) : (State.superviseCurrent s b).resetHeld = s.resetHeld := resetHeld_of_outer (superviseCurrent_outer s b)
@[simp] theorem superviseCurrent_rif (s : State) (b : Berth) : (State.superviseCurrent s b).rif = s.rif := rif_of_outer (superviseCurrent_outer s b)
@[simp] theorem superviseCurrent_mfe (s : State) (b : Berth) : (State.superviseCurrent s b).mfe = s.mfe := mfe_of_outer (superviseCurrent_outer s b)
@[simp] theorem superviseCurrent_ctu (s : State) (b : Berth) : (State.superviseCurrent s b).ctu = s.ctu := ctu_of_outer (superviseCurrent_outer s b)
@[simp] theorem superviseCurrent_cfs (s : State) (b : Berth) : (State.superviseCurrent s b).cfs = s.cfs := cfs_of_outer (superviseCurrent_outer s b)
@[simp] theorem superviseCurrent_requests (s : State) (b : Berth) : (State.superviseCurrent s b).mrh.requests = s.mrh.requests := requests_of_outer (superviseCurrent_outer s b)
@[simp] theorem superviseCurrent_responses (s : State) (b : Berth) : (State.superviseCurrent s b).mrh.responses = s.mrh.responses := responses_of_outer (superviseCurrent_outer s b)
@[simp] theorem superviseVoltage_pending (s : State) (p : Point) : (State.superviseVoltage s p).pending = s.pending := pending_of_outer (superviseVoltage_outer s p)
@[simp] theorem superviseVoltage_due (s : State) (p : Point) : (State.superviseVoltage s p).due = s.due := due_of_outer (superviseVoltage_outer s p)
@[simp] theorem superviseVoltage_ringOut (s : State) (p : Point) : (State.superviseVoltage s p).ringOut = s.ringOut := ringOut_of_outer (superviseVoltage_outer s p)
@[simp] theorem superviseVoltage_resetHeld (s : State) (p : Point) : (State.superviseVoltage s p).resetHeld = s.resetHeld := resetHeld_of_outer (superviseVoltage_outer s p)
@[simp] theorem superviseVoltage_rif (s : State) (p : Point) : (State.superviseVoltage s p).rif = s.rif := rif_of_outer (superviseVoltage_outer s p)
@[simp] theorem superviseVoltage_mfe (s : State) (p : Point) : (State.superviseVoltage s p).mfe = s.mfe := mfe_of_outer (superviseVoltage_outer s p)
@[simp] theorem superviseVoltage_ctu (s : State) (p : Point) : (State.superviseVoltage s p).ctu = s.ctu := ctu_of_outer (superviseVoltage_outer s p)
@[simp] theorem superviseVoltage_cfs (s : State) (p : Point) : (State.superviseVoltage s p).cfs = s.cfs := cfs_of_outer (superviseVoltage_outer s p)
@[simp] theorem superviseVoltage_requests (s : State) (p : Point) : (State.superviseVoltage s p).mrh.requests = s.mrh.requests := requests_of_outer (superviseVoltage_outer s p)
@[simp] theorem superviseVoltage_responses (s : State) (p : Point) : (State.superviseVoltage s p).mrh.responses = s.mrh.responses := responses_of_outer (superviseVoltage_outer s p)
@[simp] theorem superviseFrequency_pending (s : State) (p : Point) : (State.superviseFrequency s p).pending = s.pending := pending_of_outer (superviseFrequency_outer s p)
@[simp] theorem superviseFrequency_due (s : State) (p : Point) : (State.superviseFrequency s p).due = s.due := due_of_outer (superviseFrequency_outer s p)
@[simp] theorem superviseFrequency_ringOut (s : State) (p : Point) : (State.superviseFrequency s p).ringOut = s.ringOut := ringOut_of_outer (superviseFrequency_outer s p)
@[simp] theorem superviseFrequency_resetHeld (s : State) (p : Point) : (State.superviseFrequency s p).resetHeld = s.resetHeld := resetHeld_of_outer (superviseFrequency_outer s p)
@[simp] theorem superviseFrequency_rif (s : State) (p : Point) : (State.superviseFrequency s p).rif = s.rif := rif_of_outer (superviseFrequency_outer s p)
@[simp] theorem superviseFrequency_mfe (s : State) (p : Point) : (State.superviseFrequency s p).mfe = s.mfe := mfe_of_outer (superviseFrequency_outer s p)
@[simp] theorem superviseFrequency_ctu (s : State) (p : Point) : (State.superviseFrequency s p).ctu = s.ctu := ctu_of_outer (superviseFrequency_outer s p)
@[simp] theorem superviseFrequency_cfs (s : State) (p : Point) : (State.superviseFrequency s p).cfs = s.cfs := cfs_of_outer (superviseFrequency_outer s p)
@[simp] theorem superviseFrequency_requests (s : State) (p : Point) : (State.superviseFrequency s p).mrh.requests = s.mrh.requests := requests_of_outer (superviseFrequency_outer s p)
@[simp] theorem superviseFrequency_responses (s : State) (p : Point) : (State.superviseFrequency s p).mrh.responses = s.mrh.responses := responses_of_outer (superviseFrequency_outer s p)
@[simp] theorem superviseReverse_pending (s : State) (b : Berth) : (State.superviseReverse s b).pending = s.pending := pending_of_outer (superviseReverse_outer s b)
@[simp] theorem superviseReverse_due (s : State) (b : Berth) : (State.superviseReverse s b).due = s.due := due_of_outer (superviseReverse_outer s b)
@[simp] theorem superviseReverse_ringOut (s : State) (b : Berth) : (State.superviseReverse s b).ringOut = s.ringOut := ringOut_of_outer (superviseReverse_outer s b)
@[simp] theorem superviseReverse_resetHeld (s : State) (b : Berth) : (State.superviseReverse s b).resetHeld = s.resetHeld := resetHeld_of_outer (superviseReverse_outer s b)
@[simp] theorem superviseReverse_rif (s : State) (b : Berth) : (State.superviseReverse s b).rif = s.rif := rif_of_outer (superviseReverse_outer s b)
@[simp] theorem superviseReverse_mfe (s : State) (b : Berth) : (State.superviseReverse s b).mfe = s.mfe := mfe_of_outer (superviseReverse_outer s b)
@[simp] theorem superviseReverse_ctu (s : State) (b : Berth) : (State.superviseReverse s b).ctu = s.ctu := ctu_of_outer (superviseReverse_outer s b)
@[simp] theorem superviseReverse_cfs (s : State) (b : Berth) : (State.superviseReverse s b).cfs = s.cfs := cfs_of_outer (superviseReverse_outer s b)
@[simp] theorem superviseReverse_requests (s : State) (b : Berth) : (State.superviseReverse s b).mrh.requests = s.mrh.requests := requests_of_outer (superviseReverse_outer s b)
@[simp] theorem superviseReverse_responses (s : State) (b : Berth) : (State.superviseReverse s b).mrh.responses = s.mrh.responses := responses_of_outer (superviseReverse_outer s b)
@[simp] theorem breakerDelivery_pending (s : State) (supervisionFirst : Bool) (k : Breaker) (d : BreakerReport) : (State.breakerDelivery s supervisionFirst k d).pending = s.pending := pending_of_outer (breakerDelivery_outer s supervisionFirst k d)
@[simp] theorem breakerDelivery_due (s : State) (supervisionFirst : Bool) (k : Breaker) (d : BreakerReport) : (State.breakerDelivery s supervisionFirst k d).due = s.due := due_of_outer (breakerDelivery_outer s supervisionFirst k d)
@[simp] theorem breakerDelivery_ringOut (s : State) (supervisionFirst : Bool) (k : Breaker) (d : BreakerReport) : (State.breakerDelivery s supervisionFirst k d).ringOut = s.ringOut := ringOut_of_outer (breakerDelivery_outer s supervisionFirst k d)
@[simp] theorem breakerDelivery_resetHeld (s : State) (supervisionFirst : Bool) (k : Breaker) (d : BreakerReport) : (State.breakerDelivery s supervisionFirst k d).resetHeld = s.resetHeld := resetHeld_of_outer (breakerDelivery_outer s supervisionFirst k d)
@[simp] theorem breakerDelivery_rif (s : State) (supervisionFirst : Bool) (k : Breaker) (d : BreakerReport) : (State.breakerDelivery s supervisionFirst k d).rif = s.rif := rif_of_outer (breakerDelivery_outer s supervisionFirst k d)
@[simp] theorem breakerDelivery_mfe (s : State) (supervisionFirst : Bool) (k : Breaker) (d : BreakerReport) : (State.breakerDelivery s supervisionFirst k d).mfe = s.mfe := mfe_of_outer (breakerDelivery_outer s supervisionFirst k d)
@[simp] theorem breakerDelivery_ctu (s : State) (supervisionFirst : Bool) (k : Breaker) (d : BreakerReport) : (State.breakerDelivery s supervisionFirst k d).ctu = s.ctu := ctu_of_outer (breakerDelivery_outer s supervisionFirst k d)
@[simp] theorem breakerDelivery_cfs (s : State) (supervisionFirst : Bool) (k : Breaker) (d : BreakerReport) : (State.breakerDelivery s supervisionFirst k d).cfs = s.cfs := cfs_of_outer (breakerDelivery_outer s supervisionFirst k d)
@[simp] theorem breakerDelivery_requests (s : State) (supervisionFirst : Bool) (k : Breaker) (d : BreakerReport) : (State.breakerDelivery s supervisionFirst k d).mrh.requests = s.mrh.requests := requests_of_outer (breakerDelivery_outer s supervisionFirst k d)
@[simp] theorem breakerDelivery_responses (s : State) (supervisionFirst : Bool) (k : Breaker) (d : BreakerReport) : (State.breakerDelivery s supervisionFirst k d).mrh.responses = s.mrh.responses := responses_of_outer (breakerDelivery_outer s supervisionFirst k d)
@[simp] theorem breakerLimit_pending (s : State) (k : Breaker) : (State.breakerLimit s k).pending = s.pending := pending_of_outer (breakerLimit_outer s k)
@[simp] theorem breakerLimit_due (s : State) (k : Breaker) : (State.breakerLimit s k).due = s.due := due_of_outer (breakerLimit_outer s k)
@[simp] theorem breakerLimit_ringOut (s : State) (k : Breaker) : (State.breakerLimit s k).ringOut = s.ringOut := ringOut_of_outer (breakerLimit_outer s k)
@[simp] theorem breakerLimit_resetHeld (s : State) (k : Breaker) : (State.breakerLimit s k).resetHeld = s.resetHeld := resetHeld_of_outer (breakerLimit_outer s k)
@[simp] theorem breakerLimit_rif (s : State) (k : Breaker) : (State.breakerLimit s k).rif = s.rif := rif_of_outer (breakerLimit_outer s k)
@[simp] theorem breakerLimit_mfe (s : State) (k : Breaker) : (State.breakerLimit s k).mfe = s.mfe := mfe_of_outer (breakerLimit_outer s k)
@[simp] theorem breakerLimit_ctu (s : State) (k : Breaker) : (State.breakerLimit s k).ctu = s.ctu := ctu_of_outer (breakerLimit_outer s k)
@[simp] theorem breakerLimit_cfs (s : State) (k : Breaker) : (State.breakerLimit s k).cfs = s.cfs := cfs_of_outer (breakerLimit_outer s k)
@[simp] theorem breakerLimit_requests (s : State) (k : Breaker) : (State.breakerLimit s k).mrh.requests = s.mrh.requests := requests_of_outer (breakerLimit_outer s k)
@[simp] theorem breakerLimit_responses (s : State) (k : Breaker) : (State.breakerLimit s k).mrh.responses = s.mrh.responses := responses_of_outer (breakerLimit_outer s k)
@[simp] theorem pbCloseRetry_pending (s : State) (b : Berth) : (State.pbCloseRetry s b).pending = s.pending := pending_of_outer (pbCloseRetry_outer s b)
@[simp] theorem pbCloseRetry_due (s : State) (b : Berth) : (State.pbCloseRetry s b).due = s.due := due_of_outer (pbCloseRetry_outer s b)
@[simp] theorem pbCloseRetry_ringOut (s : State) (b : Berth) : (State.pbCloseRetry s b).ringOut = s.ringOut := ringOut_of_outer (pbCloseRetry_outer s b)
@[simp] theorem pbCloseRetry_resetHeld (s : State) (b : Berth) : (State.pbCloseRetry s b).resetHeld = s.resetHeld := resetHeld_of_outer (pbCloseRetry_outer s b)
@[simp] theorem pbCloseRetry_rif (s : State) (b : Berth) : (State.pbCloseRetry s b).rif = s.rif := rif_of_outer (pbCloseRetry_outer s b)
@[simp] theorem pbCloseRetry_mfe (s : State) (b : Berth) : (State.pbCloseRetry s b).mfe = s.mfe := mfe_of_outer (pbCloseRetry_outer s b)
@[simp] theorem pbCloseRetry_ctu (s : State) (b : Berth) : (State.pbCloseRetry s b).ctu = s.ctu := ctu_of_outer (pbCloseRetry_outer s b)
@[simp] theorem pbCloseRetry_cfs (s : State) (b : Berth) : (State.pbCloseRetry s b).cfs = s.cfs := cfs_of_outer (pbCloseRetry_outer s b)
@[simp] theorem pbCloseRetry_requests (s : State) (b : Berth) : (State.pbCloseRetry s b).mrh.requests = s.mrh.requests := requests_of_outer (pbCloseRetry_outer s b)
@[simp] theorem pbCloseRetry_responses (s : State) (b : Berth) : (State.pbCloseRetry s b).mrh.responses = s.mrh.responses := responses_of_outer (pbCloseRetry_outer s b)
@[simp] theorem holdoverEntry_pending (s : State) (b : Berth) : (State.holdoverEntry s b).pending = s.pending := pending_of_outer (holdoverEntry_outer s b)
@[simp] theorem holdoverEntry_due (s : State) (b : Berth) : (State.holdoverEntry s b).due = s.due := due_of_outer (holdoverEntry_outer s b)
@[simp] theorem holdoverEntry_ringOut (s : State) (b : Berth) : (State.holdoverEntry s b).ringOut = s.ringOut := ringOut_of_outer (holdoverEntry_outer s b)
@[simp] theorem holdoverEntry_resetHeld (s : State) (b : Berth) : (State.holdoverEntry s b).resetHeld = s.resetHeld := resetHeld_of_outer (holdoverEntry_outer s b)
@[simp] theorem holdoverEntry_rif (s : State) (b : Berth) : (State.holdoverEntry s b).rif = s.rif := rif_of_outer (holdoverEntry_outer s b)
@[simp] theorem holdoverEntry_mfe (s : State) (b : Berth) : (State.holdoverEntry s b).mfe = s.mfe := mfe_of_outer (holdoverEntry_outer s b)
@[simp] theorem holdoverEntry_ctu (s : State) (b : Berth) : (State.holdoverEntry s b).ctu = s.ctu := ctu_of_outer (holdoverEntry_outer s b)
@[simp] theorem holdoverEntry_cfs (s : State) (b : Berth) : (State.holdoverEntry s b).cfs = s.cfs := cfs_of_outer (holdoverEntry_outer s b)
@[simp] theorem holdoverEntry_requests (s : State) (b : Berth) : (State.holdoverEntry s b).mrh.requests = s.mrh.requests := requests_of_outer (holdoverEntry_outer s b)
@[simp] theorem holdoverEntry_responses (s : State) (b : Berth) : (State.holdoverEntry s b).mrh.responses = s.mrh.responses := responses_of_outer (holdoverEntry_outer s b)
@[simp] theorem presentLoss_pending (s : State) (e : NodeEntry) : (State.presentLoss s e).pending = s.pending := pending_of_outer (presentLoss_outer s e)
@[simp] theorem presentLoss_due (s : State) (e : NodeEntry) : (State.presentLoss s e).due = s.due := due_of_outer (presentLoss_outer s e)
@[simp] theorem presentLoss_ringOut (s : State) (e : NodeEntry) : (State.presentLoss s e).ringOut = s.ringOut := ringOut_of_outer (presentLoss_outer s e)
@[simp] theorem presentLoss_resetHeld (s : State) (e : NodeEntry) : (State.presentLoss s e).resetHeld = s.resetHeld := resetHeld_of_outer (presentLoss_outer s e)
@[simp] theorem presentLoss_rif (s : State) (e : NodeEntry) : (State.presentLoss s e).rif = s.rif := rif_of_outer (presentLoss_outer s e)
@[simp] theorem presentLoss_mfe (s : State) (e : NodeEntry) : (State.presentLoss s e).mfe = s.mfe := mfe_of_outer (presentLoss_outer s e)
@[simp] theorem presentLoss_ctu (s : State) (e : NodeEntry) : (State.presentLoss s e).ctu = s.ctu := ctu_of_outer (presentLoss_outer s e)
@[simp] theorem presentLoss_cfs (s : State) (e : NodeEntry) : (State.presentLoss s e).cfs = s.cfs := cfs_of_outer (presentLoss_outer s e)
@[simp] theorem presentLoss_requests (s : State) (e : NodeEntry) : (State.presentLoss s e).mrh.requests = s.mrh.requests := requests_of_outer (presentLoss_outer s e)
@[simp] theorem presentLoss_responses (s : State) (e : NodeEntry) : (State.presentLoss s e).mrh.responses = s.mrh.responses := responses_of_outer (presentLoss_outer s e)
@[simp] theorem presentRecovery_pending (s : State) (e : NodeEntry) : (State.presentRecovery s e).pending = s.pending := pending_of_outer (presentRecovery_outer s e)
@[simp] theorem presentRecovery_due (s : State) (e : NodeEntry) : (State.presentRecovery s e).due = s.due := due_of_outer (presentRecovery_outer s e)
@[simp] theorem presentRecovery_ringOut (s : State) (e : NodeEntry) : (State.presentRecovery s e).ringOut = s.ringOut := ringOut_of_outer (presentRecovery_outer s e)
@[simp] theorem presentRecovery_resetHeld (s : State) (e : NodeEntry) : (State.presentRecovery s e).resetHeld = s.resetHeld := resetHeld_of_outer (presentRecovery_outer s e)
@[simp] theorem presentRecovery_rif (s : State) (e : NodeEntry) : (State.presentRecovery s e).rif = s.rif := rif_of_outer (presentRecovery_outer s e)
@[simp] theorem presentRecovery_mfe (s : State) (e : NodeEntry) : (State.presentRecovery s e).mfe = s.mfe := mfe_of_outer (presentRecovery_outer s e)
@[simp] theorem presentRecovery_ctu (s : State) (e : NodeEntry) : (State.presentRecovery s e).ctu = s.ctu := ctu_of_outer (presentRecovery_outer s e)
@[simp] theorem presentRecovery_cfs (s : State) (e : NodeEntry) : (State.presentRecovery s e).cfs = s.cfs := cfs_of_outer (presentRecovery_outer s e)
@[simp] theorem presentRecovery_requests (s : State) (e : NodeEntry) : (State.presentRecovery s e).mrh.requests = s.mrh.requests := requests_of_outer (presentRecovery_outer s e)
@[simp] theorem presentRecovery_responses (s : State) (e : NodeEntry) : (State.presentRecovery s e).mrh.responses = s.mrh.responses := responses_of_outer (presentRecovery_outer s e)
@[simp] theorem stageExpiry_pending (s : State) (b : Berth) : (State.stageExpiry s b).pending = s.pending := pending_of_outer (stageExpiry_outer s b)
@[simp] theorem stageExpiry_due (s : State) (b : Berth) : (State.stageExpiry s b).due = s.due := due_of_outer (stageExpiry_outer s b)
@[simp] theorem stageExpiry_ringOut (s : State) (b : Berth) : (State.stageExpiry s b).ringOut = s.ringOut := ringOut_of_outer (stageExpiry_outer s b)
@[simp] theorem stageExpiry_resetHeld (s : State) (b : Berth) : (State.stageExpiry s b).resetHeld = s.resetHeld := resetHeld_of_outer (stageExpiry_outer s b)
@[simp] theorem stageExpiry_rif (s : State) (b : Berth) : (State.stageExpiry s b).rif = s.rif := rif_of_outer (stageExpiry_outer s b)
@[simp] theorem stageExpiry_mfe (s : State) (b : Berth) : (State.stageExpiry s b).mfe = s.mfe := mfe_of_outer (stageExpiry_outer s b)
@[simp] theorem stageExpiry_ctu (s : State) (b : Berth) : (State.stageExpiry s b).ctu = s.ctu := ctu_of_outer (stageExpiry_outer s b)
@[simp] theorem stageExpiry_cfs (s : State) (b : Berth) : (State.stageExpiry s b).cfs = s.cfs := cfs_of_outer (stageExpiry_outer s b)
@[simp] theorem stageExpiry_requests (s : State) (b : Berth) : (State.stageExpiry s b).mrh.requests = s.mrh.requests := requests_of_outer (stageExpiry_outer s b)
@[simp] theorem stageExpiry_responses (s : State) (b : Berth) : (State.stageExpiry s b).mrh.responses = s.mrh.responses := responses_of_outer (stageExpiry_outer s b)
@[simp] theorem blankEnd_pending (s : State) (b : Berth) : (State.blankEnd s b).pending = s.pending := pending_of_outer (blankEnd_outer s b)
@[simp] theorem blankEnd_due (s : State) (b : Berth) : (State.blankEnd s b).due = s.due := due_of_outer (blankEnd_outer s b)
@[simp] theorem blankEnd_ringOut (s : State) (b : Berth) : (State.blankEnd s b).ringOut = s.ringOut := ringOut_of_outer (blankEnd_outer s b)
@[simp] theorem blankEnd_resetHeld (s : State) (b : Berth) : (State.blankEnd s b).resetHeld = s.resetHeld := resetHeld_of_outer (blankEnd_outer s b)
@[simp] theorem blankEnd_rif (s : State) (b : Berth) : (State.blankEnd s b).rif = s.rif := rif_of_outer (blankEnd_outer s b)
@[simp] theorem blankEnd_mfe (s : State) (b : Berth) : (State.blankEnd s b).mfe = s.mfe := mfe_of_outer (blankEnd_outer s b)
@[simp] theorem blankEnd_ctu (s : State) (b : Berth) : (State.blankEnd s b).ctu = s.ctu := ctu_of_outer (blankEnd_outer s b)
@[simp] theorem blankEnd_cfs (s : State) (b : Berth) : (State.blankEnd s b).cfs = s.cfs := cfs_of_outer (blankEnd_outer s b)
@[simp] theorem blankEnd_requests (s : State) (b : Berth) : (State.blankEnd s b).mrh.requests = s.mrh.requests := requests_of_outer (blankEnd_outer s b)
@[simp] theorem blankEnd_responses (s : State) (b : Berth) : (State.blankEnd s b).mrh.responses = s.mrh.responses := responses_of_outer (blankEnd_outer s b)
@[simp] theorem restartDue_pending (s : State) (b : Berth) : (State.restartDue s b).pending = s.pending := pending_of_outer (restartDue_outer s b)
@[simp] theorem restartDue_due (s : State) (b : Berth) : (State.restartDue s b).due = s.due := due_of_outer (restartDue_outer s b)
@[simp] theorem restartDue_ringOut (s : State) (b : Berth) : (State.restartDue s b).ringOut = s.ringOut := ringOut_of_outer (restartDue_outer s b)
@[simp] theorem restartDue_resetHeld (s : State) (b : Berth) : (State.restartDue s b).resetHeld = s.resetHeld := resetHeld_of_outer (restartDue_outer s b)
@[simp] theorem restartDue_rif (s : State) (b : Berth) : (State.restartDue s b).rif = s.rif := rif_of_outer (restartDue_outer s b)
@[simp] theorem restartDue_mfe (s : State) (b : Berth) : (State.restartDue s b).mfe = s.mfe := mfe_of_outer (restartDue_outer s b)
@[simp] theorem restartDue_ctu (s : State) (b : Berth) : (State.restartDue s b).ctu = s.ctu := ctu_of_outer (restartDue_outer s b)
@[simp] theorem restartDue_cfs (s : State) (b : Berth) : (State.restartDue s b).cfs = s.cfs := cfs_of_outer (restartDue_outer s b)
@[simp] theorem restartDue_requests (s : State) (b : Berth) : (State.restartDue s b).mrh.requests = s.mrh.requests := requests_of_outer (restartDue_outer s b)
@[simp] theorem restartDue_responses (s : State) (b : Berth) : (State.restartDue s b).mrh.responses = s.mrh.responses := responses_of_outer (restartDue_outer s b)
@[simp] theorem restart_pending (s : State) (b : Berth) : (State.restart s b).pending = s.pending := pending_of_outer (restart_outer s b)
@[simp] theorem restart_due (s : State) (b : Berth) : (State.restart s b).due = s.due := due_of_outer (restart_outer s b)
@[simp] theorem restart_ringOut (s : State) (b : Berth) : (State.restart s b).ringOut = s.ringOut := ringOut_of_outer (restart_outer s b)
@[simp] theorem restart_resetHeld (s : State) (b : Berth) : (State.restart s b).resetHeld = s.resetHeld := resetHeld_of_outer (restart_outer s b)
@[simp] theorem restart_rif (s : State) (b : Berth) : (State.restart s b).rif = s.rif := rif_of_outer (restart_outer s b)
@[simp] theorem restart_mfe (s : State) (b : Berth) : (State.restart s b).mfe = s.mfe := mfe_of_outer (restart_outer s b)
@[simp] theorem restart_ctu (s : State) (b : Berth) : (State.restart s b).ctu = s.ctu := ctu_of_outer (restart_outer s b)
@[simp] theorem restart_cfs (s : State) (b : Berth) : (State.restart s b).cfs = s.cfs := cfs_of_outer (restart_outer s b)
@[simp] theorem restart_requests (s : State) (b : Berth) : (State.restart s b).mrh.requests = s.mrh.requests := requests_of_outer (restart_outer s b)
@[simp] theorem restart_responses (s : State) (b : Berth) : (State.restart s b).mrh.responses = s.mrh.responses := responses_of_outer (restart_outer s b)
@[simp] theorem openingFaults_pending (s : State) (b : Berth) : (State.openingFaults s b).pending = s.pending := pending_of_outer (openingFaults_outer s b)
@[simp] theorem openingFaults_due (s : State) (b : Berth) : (State.openingFaults s b).due = s.due := due_of_outer (openingFaults_outer s b)
@[simp] theorem openingFaults_ringOut (s : State) (b : Berth) : (State.openingFaults s b).ringOut = s.ringOut := ringOut_of_outer (openingFaults_outer s b)
@[simp] theorem openingFaults_resetHeld (s : State) (b : Berth) : (State.openingFaults s b).resetHeld = s.resetHeld := resetHeld_of_outer (openingFaults_outer s b)
@[simp] theorem openingFaults_rif (s : State) (b : Berth) : (State.openingFaults s b).rif = s.rif := rif_of_outer (openingFaults_outer s b)
@[simp] theorem openingFaults_mfe (s : State) (b : Berth) : (State.openingFaults s b).mfe = s.mfe := mfe_of_outer (openingFaults_outer s b)
@[simp] theorem openingFaults_ctu (s : State) (b : Berth) : (State.openingFaults s b).ctu = s.ctu := ctu_of_outer (openingFaults_outer s b)
@[simp] theorem openingFaults_cfs (s : State) (b : Berth) : (State.openingFaults s b).cfs = s.cfs := cfs_of_outer (openingFaults_outer s b)
@[simp] theorem openingFaults_requests (s : State) (b : Berth) : (State.openingFaults s b).mrh.requests = s.mrh.requests := requests_of_outer (openingFaults_outer s b)
@[simp] theorem openingFaults_responses (s : State) (b : Berth) : (State.openingFaults s b).mrh.responses = s.mrh.responses := responses_of_outer (openingFaults_outer s b)
@[simp] theorem siuReport_pending (s : State) (b : Berth) (ship : ShipState) (output : Int) : (State.siuReport s b ship output).pending = s.pending := pending_of_outer (siuReport_outer s b ship output)
@[simp] theorem siuReport_due (s : State) (b : Berth) (ship : ShipState) (output : Int) : (State.siuReport s b ship output).due = s.due := due_of_outer (siuReport_outer s b ship output)
@[simp] theorem siuReport_ringOut (s : State) (b : Berth) (ship : ShipState) (output : Int) : (State.siuReport s b ship output).ringOut = s.ringOut := ringOut_of_outer (siuReport_outer s b ship output)
@[simp] theorem siuReport_resetHeld (s : State) (b : Berth) (ship : ShipState) (output : Int) : (State.siuReport s b ship output).resetHeld = s.resetHeld := resetHeld_of_outer (siuReport_outer s b ship output)
@[simp] theorem siuReport_rif (s : State) (b : Berth) (ship : ShipState) (output : Int) : (State.siuReport s b ship output).rif = s.rif := rif_of_outer (siuReport_outer s b ship output)
@[simp] theorem siuReport_mfe (s : State) (b : Berth) (ship : ShipState) (output : Int) : (State.siuReport s b ship output).mfe = s.mfe := mfe_of_outer (siuReport_outer s b ship output)
@[simp] theorem siuReport_ctu (s : State) (b : Berth) (ship : ShipState) (output : Int) : (State.siuReport s b ship output).ctu = s.ctu := ctu_of_outer (siuReport_outer s b ship output)
@[simp] theorem siuReport_cfs (s : State) (b : Berth) (ship : ShipState) (output : Int) : (State.siuReport s b ship output).cfs = s.cfs := cfs_of_outer (siuReport_outer s b ship output)
@[simp] theorem siuReport_requests (s : State) (b : Berth) (ship : ShipState) (output : Int) : (State.siuReport s b ship output).mrh.requests = s.mrh.requests := requests_of_outer (siuReport_outer s b ship output)
@[simp] theorem siuReport_responses (s : State) (b : Berth) (ship : ShipState) (output : Int) : (State.siuReport s b ship output).mrh.responses = s.mrh.responses := responses_of_outer (siuReport_outer s b ship output)
@[simp] theorem presentCrossing_pending (s : State) (p : Point) (n : Ext) (t : Ticks) : (State.presentCrossing s p n t).pending = s.pending := pending_of_outer (presentCrossing_outer s p n t)
@[simp] theorem presentCrossing_due (s : State) (p : Point) (n : Ext) (t : Ticks) : (State.presentCrossing s p n t).due = s.due := due_of_outer (presentCrossing_outer s p n t)
@[simp] theorem presentCrossing_ringOut (s : State) (p : Point) (n : Ext) (t : Ticks) : (State.presentCrossing s p n t).ringOut = s.ringOut := ringOut_of_outer (presentCrossing_outer s p n t)
@[simp] theorem presentCrossing_resetHeld (s : State) (p : Point) (n : Ext) (t : Ticks) : (State.presentCrossing s p n t).resetHeld = s.resetHeld := resetHeld_of_outer (presentCrossing_outer s p n t)
@[simp] theorem presentCrossing_rif (s : State) (p : Point) (n : Ext) (t : Ticks) : (State.presentCrossing s p n t).rif = s.rif := rif_of_outer (presentCrossing_outer s p n t)
@[simp] theorem presentCrossing_mfe (s : State) (p : Point) (n : Ext) (t : Ticks) : (State.presentCrossing s p n t).mfe = s.mfe := mfe_of_outer (presentCrossing_outer s p n t)
@[simp] theorem presentCrossing_ctu (s : State) (p : Point) (n : Ext) (t : Ticks) : (State.presentCrossing s p n t).ctu = s.ctu := ctu_of_outer (presentCrossing_outer s p n t)
@[simp] theorem presentCrossing_cfs (s : State) (p : Point) (n : Ext) (t : Ticks) : (State.presentCrossing s p n t).cfs = s.cfs := cfs_of_outer (presentCrossing_outer s p n t)
@[simp] theorem presentCrossing_requests (s : State) (p : Point) (n : Ext) (t : Ticks) : (State.presentCrossing s p n t).mrh.requests = s.mrh.requests := requests_of_outer (presentCrossing_outer s p n t)
@[simp] theorem presentCrossing_responses (s : State) (p : Point) (n : Ext) (t : Ticks) : (State.presentCrossing s p n t).mrh.responses = s.mrh.responses := responses_of_outer (presentCrossing_outer s p n t)
@[simp] theorem presentEveryCycle_pending (s : State) (p : Point) (n : Ext) (substituted : Bool) : (State.presentEveryCycle s p n substituted).pending = s.pending := pending_of_outer (presentEveryCycle_outer s p n substituted)
@[simp] theorem presentEveryCycle_due (s : State) (p : Point) (n : Ext) (substituted : Bool) : (State.presentEveryCycle s p n substituted).due = s.due := due_of_outer (presentEveryCycle_outer s p n substituted)
@[simp] theorem presentEveryCycle_ringOut (s : State) (p : Point) (n : Ext) (substituted : Bool) : (State.presentEveryCycle s p n substituted).ringOut = s.ringOut := ringOut_of_outer (presentEveryCycle_outer s p n substituted)
@[simp] theorem presentEveryCycle_resetHeld (s : State) (p : Point) (n : Ext) (substituted : Bool) : (State.presentEveryCycle s p n substituted).resetHeld = s.resetHeld := resetHeld_of_outer (presentEveryCycle_outer s p n substituted)
@[simp] theorem presentEveryCycle_rif (s : State) (p : Point) (n : Ext) (substituted : Bool) : (State.presentEveryCycle s p n substituted).rif = s.rif := rif_of_outer (presentEveryCycle_outer s p n substituted)
@[simp] theorem presentEveryCycle_mfe (s : State) (p : Point) (n : Ext) (substituted : Bool) : (State.presentEveryCycle s p n substituted).mfe = s.mfe := mfe_of_outer (presentEveryCycle_outer s p n substituted)
@[simp] theorem presentEveryCycle_ctu (s : State) (p : Point) (n : Ext) (substituted : Bool) : (State.presentEveryCycle s p n substituted).ctu = s.ctu := ctu_of_outer (presentEveryCycle_outer s p n substituted)
@[simp] theorem presentEveryCycle_cfs (s : State) (p : Point) (n : Ext) (substituted : Bool) : (State.presentEveryCycle s p n substituted).cfs = s.cfs := cfs_of_outer (presentEveryCycle_outer s p n substituted)
@[simp] theorem presentEveryCycle_requests (s : State) (p : Point) (n : Ext) (substituted : Bool) : (State.presentEveryCycle s p n substituted).mrh.requests = s.mrh.requests := requests_of_outer (presentEveryCycle_outer s p n substituted)
@[simp] theorem presentEveryCycle_responses (s : State) (p : Point) (n : Ext) (substituted : Bool) : (State.presentEveryCycle s p n substituted).mrh.responses = s.mrh.responses := responses_of_outer (presentEveryCycle_outer s p n substituted)
@[simp] theorem bsyConfigEntry_pending (s : State) : (State.bsyConfigEntry s).pending = s.pending := pending_of_outer (bsyConfigEntry_outer s)
@[simp] theorem bsyConfigEntry_due (s : State) : (State.bsyConfigEntry s).due = s.due := due_of_outer (bsyConfigEntry_outer s)
@[simp] theorem bsyConfigEntry_ringOut (s : State) : (State.bsyConfigEntry s).ringOut = s.ringOut := ringOut_of_outer (bsyConfigEntry_outer s)
@[simp] theorem bsyConfigEntry_resetHeld (s : State) : (State.bsyConfigEntry s).resetHeld = s.resetHeld := resetHeld_of_outer (bsyConfigEntry_outer s)
@[simp] theorem bsyConfigEntry_rif (s : State) : (State.bsyConfigEntry s).rif = s.rif := rif_of_outer (bsyConfigEntry_outer s)
@[simp] theorem bsyConfigEntry_mfe (s : State) : (State.bsyConfigEntry s).mfe = s.mfe := mfe_of_outer (bsyConfigEntry_outer s)
@[simp] theorem bsyConfigEntry_ctu (s : State) : (State.bsyConfigEntry s).ctu = s.ctu := ctu_of_outer (bsyConfigEntry_outer s)
@[simp] theorem bsyConfigEntry_cfs (s : State) : (State.bsyConfigEntry s).cfs = s.cfs := cfs_of_outer (bsyConfigEntry_outer s)
@[simp] theorem bsyConfigEntry_requests (s : State) : (State.bsyConfigEntry s).mrh.requests = s.mrh.requests := requests_of_outer (bsyConfigEntry_outer s)
@[simp] theorem bsyConfigEntry_responses (s : State) : (State.bsyConfigEntry s).mrh.responses = s.mrh.responses := responses_of_outer (bsyConfigEntry_outer s)
@[simp] theorem mbuConfigEntry_pending (s : State) : (State.mbuConfigEntry s).pending = s.pending := pending_of_outer (mbuConfigEntry_outer s)
@[simp] theorem mbuConfigEntry_due (s : State) : (State.mbuConfigEntry s).due = s.due := due_of_outer (mbuConfigEntry_outer s)
@[simp] theorem mbuConfigEntry_ringOut (s : State) : (State.mbuConfigEntry s).ringOut = s.ringOut := ringOut_of_outer (mbuConfigEntry_outer s)
@[simp] theorem mbuConfigEntry_resetHeld (s : State) : (State.mbuConfigEntry s).resetHeld = s.resetHeld := resetHeld_of_outer (mbuConfigEntry_outer s)
@[simp] theorem mbuConfigEntry_rif (s : State) : (State.mbuConfigEntry s).rif = s.rif := rif_of_outer (mbuConfigEntry_outer s)
@[simp] theorem mbuConfigEntry_mfe (s : State) : (State.mbuConfigEntry s).mfe = s.mfe := mfe_of_outer (mbuConfigEntry_outer s)
@[simp] theorem mbuConfigEntry_ctu (s : State) : (State.mbuConfigEntry s).ctu = s.ctu := ctu_of_outer (mbuConfigEntry_outer s)
@[simp] theorem mbuConfigEntry_cfs (s : State) : (State.mbuConfigEntry s).cfs = s.cfs := cfs_of_outer (mbuConfigEntry_outer s)
@[simp] theorem mbuConfigEntry_requests (s : State) : (State.mbuConfigEntry s).mrh.requests = s.mrh.requests := requests_of_outer (mbuConfigEntry_outer s)
@[simp] theorem mbuConfigEntry_responses (s : State) : (State.mbuConfigEntry s).mrh.responses = s.mrh.responses := responses_of_outer (mbuConfigEntry_outer s)
@[simp] theorem flushHeld_pending (s : State) (b : Berth) : (State.flushHeld s b).pending = s.pending := pending_of_outer (flushHeld_outer s b)
@[simp] theorem flushHeld_due (s : State) (b : Berth) : (State.flushHeld s b).due = s.due := due_of_outer (flushHeld_outer s b)
@[simp] theorem flushHeld_ringOut (s : State) (b : Berth) : (State.flushHeld s b).ringOut = s.ringOut := ringOut_of_outer (flushHeld_outer s b)
@[simp] theorem flushHeld_resetHeld (s : State) (b : Berth) : (State.flushHeld s b).resetHeld = s.resetHeld := resetHeld_of_outer (flushHeld_outer s b)
@[simp] theorem flushHeld_rif (s : State) (b : Berth) : (State.flushHeld s b).rif = s.rif := rif_of_outer (flushHeld_outer s b)
@[simp] theorem flushHeld_mfe (s : State) (b : Berth) : (State.flushHeld s b).mfe = s.mfe := mfe_of_outer (flushHeld_outer s b)
@[simp] theorem flushHeld_ctu (s : State) (b : Berth) : (State.flushHeld s b).ctu = s.ctu := ctu_of_outer (flushHeld_outer s b)
@[simp] theorem flushHeld_cfs (s : State) (b : Berth) : (State.flushHeld s b).cfs = s.cfs := cfs_of_outer (flushHeld_outer s b)
@[simp] theorem flushHeld_requests (s : State) (b : Berth) : (State.flushHeld s b).mrh.requests = s.mrh.requests := requests_of_outer (flushHeld_outer s b)
@[simp] theorem flushHeld_responses (s : State) (b : Berth) : (State.flushHeld s b).mrh.responses = s.mrh.responses := responses_of_outer (flushHeld_outer s b)
@[simp] theorem tickBlockEnd_pending (s : State) (e : BlockEnd) (b : Berth) : (State.tickBlockEnd s e b).pending = s.pending := pending_of_outer (tickBlockEnd_outer s e b)
@[simp] theorem tickBlockEnd_due (s : State) (e : BlockEnd) (b : Berth) : (State.tickBlockEnd s e b).due = s.due := due_of_outer (tickBlockEnd_outer s e b)
@[simp] theorem tickBlockEnd_ringOut (s : State) (e : BlockEnd) (b : Berth) : (State.tickBlockEnd s e b).ringOut = s.ringOut := ringOut_of_outer (tickBlockEnd_outer s e b)
@[simp] theorem tickBlockEnd_resetHeld (s : State) (e : BlockEnd) (b : Berth) : (State.tickBlockEnd s e b).resetHeld = s.resetHeld := resetHeld_of_outer (tickBlockEnd_outer s e b)
@[simp] theorem tickBlockEnd_rif (s : State) (e : BlockEnd) (b : Berth) : (State.tickBlockEnd s e b).rif = s.rif := rif_of_outer (tickBlockEnd_outer s e b)
@[simp] theorem tickBlockEnd_mfe (s : State) (e : BlockEnd) (b : Berth) : (State.tickBlockEnd s e b).mfe = s.mfe := mfe_of_outer (tickBlockEnd_outer s e b)
@[simp] theorem tickBlockEnd_ctu (s : State) (e : BlockEnd) (b : Berth) : (State.tickBlockEnd s e b).ctu = s.ctu := ctu_of_outer (tickBlockEnd_outer s e b)
@[simp] theorem tickBlockEnd_cfs (s : State) (e : BlockEnd) (b : Berth) : (State.tickBlockEnd s e b).cfs = s.cfs := cfs_of_outer (tickBlockEnd_outer s e b)
@[simp] theorem tickBlockEnd_requests (s : State) (e : BlockEnd) (b : Berth) : (State.tickBlockEnd s e b).mrh.requests = s.mrh.requests := requests_of_outer (tickBlockEnd_outer s e b)
@[simp] theorem tickBlockEnd_responses (s : State) (e : BlockEnd) (b : Berth) : (State.tickBlockEnd s e b).mrh.responses = s.mrh.responses := responses_of_outer (tickBlockEnd_outer s e b)
@[simp] theorem tickBoundary_pending (s : State) (a : AcctBoundary) (b : Berth) : (State.tickBoundary s a b).pending = s.pending := pending_of_outer (tickBoundary_outer s a b)
@[simp] theorem tickBoundary_due (s : State) (a : AcctBoundary) (b : Berth) : (State.tickBoundary s a b).due = s.due := due_of_outer (tickBoundary_outer s a b)
@[simp] theorem tickBoundary_ringOut (s : State) (a : AcctBoundary) (b : Berth) : (State.tickBoundary s a b).ringOut = s.ringOut := ringOut_of_outer (tickBoundary_outer s a b)
@[simp] theorem tickBoundary_resetHeld (s : State) (a : AcctBoundary) (b : Berth) : (State.tickBoundary s a b).resetHeld = s.resetHeld := resetHeld_of_outer (tickBoundary_outer s a b)
@[simp] theorem tickBoundary_rif (s : State) (a : AcctBoundary) (b : Berth) : (State.tickBoundary s a b).rif = s.rif := rif_of_outer (tickBoundary_outer s a b)
@[simp] theorem tickBoundary_mfe (s : State) (a : AcctBoundary) (b : Berth) : (State.tickBoundary s a b).mfe = s.mfe := mfe_of_outer (tickBoundary_outer s a b)
@[simp] theorem tickBoundary_ctu (s : State) (a : AcctBoundary) (b : Berth) : (State.tickBoundary s a b).ctu = s.ctu := ctu_of_outer (tickBoundary_outer s a b)
@[simp] theorem tickBoundary_cfs (s : State) (a : AcctBoundary) (b : Berth) : (State.tickBoundary s a b).cfs = s.cfs := cfs_of_outer (tickBoundary_outer s a b)
@[simp] theorem tickBoundary_requests (s : State) (a : AcctBoundary) (b : Berth) : (State.tickBoundary s a b).mrh.requests = s.mrh.requests := requests_of_outer (tickBoundary_outer s a b)
@[simp] theorem tickBoundary_responses (s : State) (a : AcctBoundary) (b : Berth) : (State.tickBoundary s a b).mrh.responses = s.mrh.responses := responses_of_outer (tickBoundary_outer s a b)
@[simp] theorem clockSetRestart_pending (s : State) (b : Berth) : (State.clockSetRestart s b).pending = s.pending := pending_of_outer (clockSetRestart_outer s b)
@[simp] theorem clockSetRestart_due (s : State) (b : Berth) : (State.clockSetRestart s b).due = s.due := due_of_outer (clockSetRestart_outer s b)
@[simp] theorem clockSetRestart_ringOut (s : State) (b : Berth) : (State.clockSetRestart s b).ringOut = s.ringOut := ringOut_of_outer (clockSetRestart_outer s b)
@[simp] theorem clockSetRestart_resetHeld (s : State) (b : Berth) : (State.clockSetRestart s b).resetHeld = s.resetHeld := resetHeld_of_outer (clockSetRestart_outer s b)
@[simp] theorem clockSetRestart_rif (s : State) (b : Berth) : (State.clockSetRestart s b).rif = s.rif := rif_of_outer (clockSetRestart_outer s b)
@[simp] theorem clockSetRestart_mfe (s : State) (b : Berth) : (State.clockSetRestart s b).mfe = s.mfe := mfe_of_outer (clockSetRestart_outer s b)
@[simp] theorem clockSetRestart_ctu (s : State) (b : Berth) : (State.clockSetRestart s b).ctu = s.ctu := ctu_of_outer (clockSetRestart_outer s b)
@[simp] theorem clockSetRestart_cfs (s : State) (b : Berth) : (State.clockSetRestart s b).cfs = s.cfs := cfs_of_outer (clockSetRestart_outer s b)
@[simp] theorem clockSetRestart_requests (s : State) (b : Berth) : (State.clockSetRestart s b).mrh.requests = s.mrh.requests := requests_of_outer (clockSetRestart_outer s b)
@[simp] theorem clockSetRestart_responses (s : State) (b : Berth) : (State.clockSetRestart s b).mrh.responses = s.mrh.responses := responses_of_outer (clockSetRestart_outer s b)
@[simp] theorem endMetering_pending (s : State) (b : Berth) (reason : CloseReason) : (State.endMetering s b reason).pending = s.pending := pending_of_outer (endMetering_outer s b reason)
@[simp] theorem endMetering_due (s : State) (b : Berth) (reason : CloseReason) : (State.endMetering s b reason).due = s.due := due_of_outer (endMetering_outer s b reason)
@[simp] theorem endMetering_ringOut (s : State) (b : Berth) (reason : CloseReason) : (State.endMetering s b reason).ringOut = s.ringOut := ringOut_of_outer (endMetering_outer s b reason)
@[simp] theorem endMetering_resetHeld (s : State) (b : Berth) (reason : CloseReason) : (State.endMetering s b reason).resetHeld = s.resetHeld := resetHeld_of_outer (endMetering_outer s b reason)
@[simp] theorem endMetering_rif (s : State) (b : Berth) (reason : CloseReason) : (State.endMetering s b reason).rif = s.rif := rif_of_outer (endMetering_outer s b reason)
@[simp] theorem endMetering_mfe (s : State) (b : Berth) (reason : CloseReason) : (State.endMetering s b reason).mfe = s.mfe := mfe_of_outer (endMetering_outer s b reason)
@[simp] theorem endMetering_ctu (s : State) (b : Berth) (reason : CloseReason) : (State.endMetering s b reason).ctu = s.ctu := ctu_of_outer (endMetering_outer s b reason)
@[simp] theorem endMetering_cfs (s : State) (b : Berth) (reason : CloseReason) : (State.endMetering s b reason).cfs = s.cfs := cfs_of_outer (endMetering_outer s b reason)
@[simp] theorem endMetering_requests (s : State) (b : Berth) (reason : CloseReason) : (State.endMetering s b reason).mrh.requests = s.mrh.requests := requests_of_outer (endMetering_outer s b reason)
@[simp] theorem endMetering_responses (s : State) (b : Berth) (reason : CloseReason) : (State.endMetering s b reason).mrh.responses = s.mrh.responses := responses_of_outer (endMetering_outer s b reason)
@[simp] theorem startMetering_pending (s : State) (b : Berth) (session : Option Nat) (account : Option (BitVec 32)) (restart : Bool) : (State.startMetering s b session account restart).pending = s.pending := pending_of_outer (startMetering_outer s b session account restart)
@[simp] theorem startMetering_due (s : State) (b : Berth) (session : Option Nat) (account : Option (BitVec 32)) (restart : Bool) : (State.startMetering s b session account restart).due = s.due := due_of_outer (startMetering_outer s b session account restart)
@[simp] theorem startMetering_ringOut (s : State) (b : Berth) (session : Option Nat) (account : Option (BitVec 32)) (restart : Bool) : (State.startMetering s b session account restart).ringOut = s.ringOut := ringOut_of_outer (startMetering_outer s b session account restart)
@[simp] theorem startMetering_resetHeld (s : State) (b : Berth) (session : Option Nat) (account : Option (BitVec 32)) (restart : Bool) : (State.startMetering s b session account restart).resetHeld = s.resetHeld := resetHeld_of_outer (startMetering_outer s b session account restart)
@[simp] theorem startMetering_rif (s : State) (b : Berth) (session : Option Nat) (account : Option (BitVec 32)) (restart : Bool) : (State.startMetering s b session account restart).rif = s.rif := rif_of_outer (startMetering_outer s b session account restart)
@[simp] theorem startMetering_mfe (s : State) (b : Berth) (session : Option Nat) (account : Option (BitVec 32)) (restart : Bool) : (State.startMetering s b session account restart).mfe = s.mfe := mfe_of_outer (startMetering_outer s b session account restart)
@[simp] theorem startMetering_ctu (s : State) (b : Berth) (session : Option Nat) (account : Option (BitVec 32)) (restart : Bool) : (State.startMetering s b session account restart).ctu = s.ctu := ctu_of_outer (startMetering_outer s b session account restart)
@[simp] theorem startMetering_cfs (s : State) (b : Berth) (session : Option Nat) (account : Option (BitVec 32)) (restart : Bool) : (State.startMetering s b session account restart).cfs = s.cfs := cfs_of_outer (startMetering_outer s b session account restart)
@[simp] theorem startMetering_requests (s : State) (b : Berth) (session : Option Nat) (account : Option (BitVec 32)) (restart : Bool) : (State.startMetering s b session account restart).mrh.requests = s.mrh.requests := requests_of_outer (startMetering_outer s b session account restart)
@[simp] theorem startMetering_responses (s : State) (b : Berth) (session : Option Nat) (account : Option (BitVec 32)) (restart : Bool) : (State.startMetering s b session account restart).mrh.responses = s.mrh.responses := responses_of_outer (startMetering_outer s b session account restart)
@[simp] theorem releaseOldest_pending (s : State) : (State.releaseOldest s).pending = s.pending := pending_of_outer (releaseOldest_outer s)
@[simp] theorem releaseOldest_due (s : State) : (State.releaseOldest s).due = s.due := due_of_outer (releaseOldest_outer s)
@[simp] theorem releaseOldest_ringOut (s : State) : (State.releaseOldest s).ringOut = s.ringOut := ringOut_of_outer (releaseOldest_outer s)
@[simp] theorem releaseOldest_resetHeld (s : State) : (State.releaseOldest s).resetHeld = s.resetHeld := resetHeld_of_outer (releaseOldest_outer s)
@[simp] theorem releaseOldest_rif (s : State) : (State.releaseOldest s).rif = s.rif := rif_of_outer (releaseOldest_outer s)
@[simp] theorem releaseOldest_mfe (s : State) : (State.releaseOldest s).mfe = s.mfe := mfe_of_outer (releaseOldest_outer s)
@[simp] theorem releaseOldest_ctu (s : State) : (State.releaseOldest s).ctu = s.ctu := ctu_of_outer (releaseOldest_outer s)
@[simp] theorem releaseOldest_cfs (s : State) : (State.releaseOldest s).cfs = s.cfs := cfs_of_outer (releaseOldest_outer s)
@[simp] theorem releaseOldest_requests (s : State) : (State.releaseOldest s).mrh.requests = s.mrh.requests := requests_of_outer (releaseOldest_outer s)
@[simp] theorem releaseOldest_responses (s : State) : (State.releaseOldest s).mrh.responses = s.mrh.responses := responses_of_outer (releaseOldest_outer s)
@[simp] theorem markUnverified_pending (s : State) : (State.markUnverified s).pending = s.pending := pending_of_outer (markUnverified_outer s)
@[simp] theorem markUnverified_due (s : State) : (State.markUnverified s).due = s.due := due_of_outer (markUnverified_outer s)
@[simp] theorem markUnverified_ringOut (s : State) : (State.markUnverified s).ringOut = s.ringOut := ringOut_of_outer (markUnverified_outer s)
@[simp] theorem markUnverified_resetHeld (s : State) : (State.markUnverified s).resetHeld = s.resetHeld := resetHeld_of_outer (markUnverified_outer s)
@[simp] theorem markUnverified_rif (s : State) : (State.markUnverified s).rif = s.rif := rif_of_outer (markUnverified_outer s)
@[simp] theorem markUnverified_mfe (s : State) : (State.markUnverified s).mfe = s.mfe := mfe_of_outer (markUnverified_outer s)
@[simp] theorem markUnverified_ctu (s : State) : (State.markUnverified s).ctu = s.ctu := ctu_of_outer (markUnverified_outer s)
@[simp] theorem markUnverified_cfs (s : State) : (State.markUnverified s).cfs = s.cfs := cfs_of_outer (markUnverified_outer s)
@[simp] theorem markUnverified_requests (s : State) : (State.markUnverified s).mrh.requests = s.mrh.requests := requests_of_outer (markUnverified_outer s)
@[simp] theorem markUnverified_responses (s : State) : (State.markUnverified s).mrh.responses = s.mrh.responses := responses_of_outer (markUnverified_outer s)
@[simp] theorem invalidAborts_pending (s : State) : (State.invalidAborts s).pending = s.pending := pending_of_outer (invalidAborts_outer s)
@[simp] theorem invalidAborts_due (s : State) : (State.invalidAborts s).due = s.due := due_of_outer (invalidAborts_outer s)
@[simp] theorem invalidAborts_ringOut (s : State) : (State.invalidAborts s).ringOut = s.ringOut := ringOut_of_outer (invalidAborts_outer s)
@[simp] theorem invalidAborts_resetHeld (s : State) : (State.invalidAborts s).resetHeld = s.resetHeld := resetHeld_of_outer (invalidAborts_outer s)
@[simp] theorem invalidAborts_rif (s : State) : (State.invalidAborts s).rif = s.rif := rif_of_outer (invalidAborts_outer s)
@[simp] theorem invalidAborts_mfe (s : State) : (State.invalidAborts s).mfe = s.mfe := mfe_of_outer (invalidAborts_outer s)
@[simp] theorem invalidAborts_ctu (s : State) : (State.invalidAborts s).ctu = s.ctu := ctu_of_outer (invalidAborts_outer s)
@[simp] theorem invalidAborts_cfs (s : State) : (State.invalidAborts s).cfs = s.cfs := cfs_of_outer (invalidAborts_outer s)
@[simp] theorem invalidAborts_requests (s : State) : (State.invalidAborts s).mrh.requests = s.mrh.requests := requests_of_outer (invalidAborts_outer s)
@[simp] theorem invalidAborts_responses (s : State) : (State.invalidAborts s).mrh.responses = s.mrh.responses := responses_of_outer (invalidAborts_outer s)
@[simp] theorem refresh_pending (s : State) : (State.refresh s).pending = s.pending := pending_of_outer (refresh_outer s)
@[simp] theorem refresh_due (s : State) : (State.refresh s).due = s.due := due_of_outer (refresh_outer s)
@[simp] theorem refresh_ringOut (s : State) : (State.refresh s).ringOut = s.ringOut := ringOut_of_outer (refresh_outer s)
@[simp] theorem refresh_resetHeld (s : State) : (State.refresh s).resetHeld = s.resetHeld := resetHeld_of_outer (refresh_outer s)
@[simp] theorem refresh_rif (s : State) : (State.refresh s).rif = s.rif := rif_of_outer (refresh_outer s)
@[simp] theorem refresh_mfe (s : State) : (State.refresh s).mfe = s.mfe := mfe_of_outer (refresh_outer s)
@[simp] theorem refresh_ctu (s : State) : (State.refresh s).ctu = s.ctu := ctu_of_outer (refresh_outer s)
@[simp] theorem refresh_cfs (s : State) : (State.refresh s).cfs = s.cfs := cfs_of_outer (refresh_outer s)
@[simp] theorem refresh_requests (s : State) : (State.refresh s).mrh.requests = s.mrh.requests := requests_of_outer (refresh_outer s)
@[simp] theorem refresh_responses (s : State) : (State.refresh s).mrh.responses = s.mrh.responses := responses_of_outer (refresh_outer s)
@[simp] theorem concludeMeasurement_pending (s : State) (k : Breaker) (result : Option Nat) : (State.concludeMeasurement s k result).pending = s.pending := pending_of_outer (concludeMeasurement_outer s k result)
@[simp] theorem concludeMeasurement_due (s : State) (k : Breaker) (result : Option Nat) : (State.concludeMeasurement s k result).due = s.due := due_of_outer (concludeMeasurement_outer s k result)
@[simp] theorem concludeMeasurement_ringOut (s : State) (k : Breaker) (result : Option Nat) : (State.concludeMeasurement s k result).ringOut = s.ringOut := ringOut_of_outer (concludeMeasurement_outer s k result)
@[simp] theorem concludeMeasurement_resetHeld (s : State) (k : Breaker) (result : Option Nat) : (State.concludeMeasurement s k result).resetHeld = s.resetHeld := resetHeld_of_outer (concludeMeasurement_outer s k result)
@[simp] theorem concludeMeasurement_rif (s : State) (k : Breaker) (result : Option Nat) : (State.concludeMeasurement s k result).rif = s.rif := rif_of_outer (concludeMeasurement_outer s k result)
@[simp] theorem concludeMeasurement_mfe (s : State) (k : Breaker) (result : Option Nat) : (State.concludeMeasurement s k result).mfe = s.mfe := mfe_of_outer (concludeMeasurement_outer s k result)
@[simp] theorem concludeMeasurement_ctu (s : State) (k : Breaker) (result : Option Nat) : (State.concludeMeasurement s k result).ctu = s.ctu := ctu_of_outer (concludeMeasurement_outer s k result)
@[simp] theorem concludeMeasurement_cfs (s : State) (k : Breaker) (result : Option Nat) : (State.concludeMeasurement s k result).cfs = s.cfs := cfs_of_outer (concludeMeasurement_outer s k result)
@[simp] theorem concludeMeasurement_requests (s : State) (k : Breaker) (result : Option Nat) : (State.concludeMeasurement s k result).mrh.requests = s.mrh.requests := requests_of_outer (concludeMeasurement_outer s k result)
@[simp] theorem concludeMeasurement_responses (s : State) (k : Breaker) (result : Option Nat) : (State.concludeMeasurement s k result).mrh.responses = s.mrh.responses := responses_of_outer (concludeMeasurement_outer s k result)
@[simp] theorem issueOpen_pending (s : State) (k : Breaker) : (State.issueOpen s k).pending = s.pending := pending_of_outer (issueOpen_outer s k)
@[simp] theorem issueOpen_due (s : State) (k : Breaker) : (State.issueOpen s k).due = s.due := due_of_outer (issueOpen_outer s k)
@[simp] theorem issueOpen_ringOut (s : State) (k : Breaker) : (State.issueOpen s k).ringOut = s.ringOut := ringOut_of_outer (issueOpen_outer s k)
@[simp] theorem issueOpen_resetHeld (s : State) (k : Breaker) : (State.issueOpen s k).resetHeld = s.resetHeld := resetHeld_of_outer (issueOpen_outer s k)
@[simp] theorem issueOpen_rif (s : State) (k : Breaker) : (State.issueOpen s k).rif = s.rif := rif_of_outer (issueOpen_outer s k)
@[simp] theorem issueOpen_mfe (s : State) (k : Breaker) : (State.issueOpen s k).mfe = s.mfe := mfe_of_outer (issueOpen_outer s k)
@[simp] theorem issueOpen_ctu (s : State) (k : Breaker) : (State.issueOpen s k).ctu = s.ctu := ctu_of_outer (issueOpen_outer s k)
@[simp] theorem issueOpen_cfs (s : State) (k : Breaker) : (State.issueOpen s k).cfs = s.cfs := cfs_of_outer (issueOpen_outer s k)
@[simp] theorem issueOpen_requests (s : State) (k : Breaker) : (State.issueOpen s k).mrh.requests = s.mrh.requests := requests_of_outer (issueOpen_outer s k)
@[simp] theorem issueOpen_responses (s : State) (k : Breaker) : (State.issueOpen s k).mrh.responses = s.mrh.responses := responses_of_outer (issueOpen_outer s k)
@[simp] theorem issueClose_pending (s : State) (k : Breaker) : (State.issueClose s k).pending = s.pending := pending_of_outer (issueClose_outer s k)
@[simp] theorem issueClose_due (s : State) (k : Breaker) : (State.issueClose s k).due = s.due := due_of_outer (issueClose_outer s k)
@[simp] theorem issueClose_ringOut (s : State) (k : Breaker) : (State.issueClose s k).ringOut = s.ringOut := ringOut_of_outer (issueClose_outer s k)
@[simp] theorem issueClose_resetHeld (s : State) (k : Breaker) : (State.issueClose s k).resetHeld = s.resetHeld := resetHeld_of_outer (issueClose_outer s k)
@[simp] theorem issueClose_rif (s : State) (k : Breaker) : (State.issueClose s k).rif = s.rif := rif_of_outer (issueClose_outer s k)
@[simp] theorem issueClose_mfe (s : State) (k : Breaker) : (State.issueClose s k).mfe = s.mfe := mfe_of_outer (issueClose_outer s k)
@[simp] theorem issueClose_ctu (s : State) (k : Breaker) : (State.issueClose s k).ctu = s.ctu := ctu_of_outer (issueClose_outer s k)
@[simp] theorem issueClose_cfs (s : State) (k : Breaker) : (State.issueClose s k).cfs = s.cfs := cfs_of_outer (issueClose_outer s k)
@[simp] theorem issueClose_requests (s : State) (k : Breaker) : (State.issueClose s k).mrh.requests = s.mrh.requests := requests_of_outer (issueClose_outer s k)
@[simp] theorem issueClose_responses (s : State) (k : Breaker) : (State.issueClose s k).mrh.responses = s.mrh.responses := responses_of_outer (issueClose_outer s k)

end Sys2Proof.Machine
end

