-- ==== Sys2Proof/Laws/Notices.lean ====
section
/-! SUPPORT. The notice law (R189) under every operation of the berths' blocks: those operations reach the queued notices by latching
alone, and a latch keeps the law both ways, so each operation's lemma is an equation and rewrites. -/

namespace Sys2Proof.Machine

set_option Elab.async false

open Sys2Proof

/-- A law-abiding queue holds at most five notices, one for each scope (R189). -/
theorem notices_le_five {s : State} (h : NoticeLaw s) : s.mrh.notices.length ≤ 5 := by
  have hs : (s.mrh.notices.map (·.scope)) ⊆ .station :: (List.finRange 4).map Scope.berth := by
    intro c _
    cases c with
    | station => simp
    | berth b => simp
  have := (h.1.subperm hs).length_le
  simpa using this

/-- The emission takes notices from the front only, so it keeps the law (R10, R189). -/
theorem emission_noticeLaw {s : State} (h : NoticeLaw s) : NoticeLaw s.emission := by
  have e : s.emission.mrh.notices = s.mrh.notices.drop (2 - (s.mrh.responses.take 2).length) := rfl
  refine ⟨?_, ?_⟩
  · rw [e, List.map_drop]
    exact h.1.sublist (List.drop_sublist _ _)
  · rw [e]
    exact fun n hn => h.2 n (List.mem_of_mem_drop hn)

theorem noticeLaw_rob (s : State) (x : Vector Osc 4) : NoticeLaw { s with rob := x } = NoticeLaw s := rfl
theorem noticeLaw_mpm (s : State) (x : Mpm) : NoticeLaw { s with mpm := x } = NoticeLaw s := rfl
theorem noticeLaw_bsy (s : State) (x : Bsy) : NoticeLaw { s with bsy := x } = NoticeLaw s := rfl
theorem noticeLaw_ses (s : State) (x : Ses) : NoticeLaw { s with ses := x } = NoticeLaw s := rfl
theorem noticeLaw_sup (s : State) (x : Vector Supervision 4) : NoticeLaw { s with sup := x } = NoticeLaw s := rfl
theorem noticeLaw_mbu (s : State) (x : Mbu) : NoticeLaw { s with mbu := x } = NoticeLaw s := rfl

/-- Any change made for each member of a list keeps what each single change keeps. -/
theorem noticeLaw_foldl {ι : Type} (f : State → ι → State) (h : ∀ s i, NoticeLaw (f s i) = NoticeLaw s) (l : List ι) (s : State) :
    NoticeLaw (l.foldl f s) = NoticeLaw s := by
  induction l generalizing s with
  | nil => rfl
  | cons i l ih => exact (ih _).trans (h s i)

/-- A change made for each number keeps what each single change keeps. -/
theorem noticeLaw_forEach {n : Nat} (f : Fin n → State → State) (h : ∀ i s, NoticeLaw (f i s) = NoticeLaw s) (s : State) :
    NoticeLaw (forEach f s) = NoticeLaw s := noticeLaw_foldl _ (fun s i => h i s) _ s

theorem setSession_noticeLaw (s : State) (b : Berth) (r : Session) : NoticeLaw (s.setSession b r) = NoticeLaw s := rfl
theorem setOsc_noticeLaw (s : State) (b : Berth) (r : Osc) : NoticeLaw (s.setOsc b r) = NoticeLaw s := rfl
theorem setModule_noticeLaw (s : State) (m : ModuleId) (r : ModuleRecord) : NoticeLaw (s.setModule m r) = NoticeLaw s := rfl
theorem setBreaker_noticeLaw (s : State) (k : Breaker) (r : BreakerRecord) : NoticeLaw (s.setBreaker k r) = NoticeLaw s := by cases k <;> rfl
theorem setSync_noticeLaw (s : State) (b : Berth) (r : SyncRecord) : NoticeLaw (s.setSync b r) = NoticeLaw s := rfl
theorem setSuperv_noticeLaw (s : State) (b : Berth) (r : Supervision) : NoticeLaw (s.setSuperv b r) = NoticeLaw s := rfl
theorem setMeter_noticeLaw (s : State) (b : Berth) (r : Meter) : NoticeLaw (s.setMeter b r) = NoticeLaw s := rfl
/-- A flag added to a notice keeps the notice law, both ways: the scopes gain one that none has, or a notice one flag it lacks. -/
theorem addToNotice_lawful (l : List Notice) (c : Scope) (n : Nat) :
    (((addToNotice l c n).map (·.scope)).Nodup ∧ ∀ x ∈ addToNotice l c n, x.flags.Nodup)
      ↔ ((l.map (·.scope)).Nodup ∧ ∀ x ∈ l, x.flags.Nodup) := by
  have keepsScope : ∀ x : Notice, (if (x.scope == c && !(x.flags.contains n)) = true then { x with flags := x.flags ++ [n] } else x).scope
      = x.scope := fun x => by split <;> rfl
  have keepsFlags : ∀ x : Notice, (if (x.scope == c && !(x.flags.contains n)) = true then { x with flags := x.flags ++ [n] } else x).flags.Nodup
      ↔ x.flags.Nodup := fun x => by
    split
    · rename_i h
      have hn : n ∉ x.flags := by simp at h; exact h.2
      simp [List.nodup_append]
      intro _ a ha e
      exact hn (e ▸ ha)
    · rfl
  unfold addToNotice
  split
  · simp only [List.map_map, Function.comp_def, List.mem_map, forall_exists_index, and_imp, forall_apply_eq_imp_iff₂, keepsScope,
      keepsFlags]
  · rename_i h
    have hc : ∀ x ∈ l, x.scope ≠ c := fun x hx e => h (by simp; exact ⟨x, hx, e⟩)
    simp only [List.map_append, List.map_cons, List.map_nil, List.nodup_append, List.mem_append, List.mem_singleton, List.mem_map]
    constructor
    · rintro ⟨⟨a, -⟩, b⟩
      exact ⟨a, fun x hx => b x (.inl hx)⟩
    · rintro ⟨a, b⟩
      refine ⟨⟨a, by simp, ?_⟩, ?_⟩
      · rintro x ⟨y, hy, rfl⟩ z rfl e
        exact hc y hy e
      · rintro x (hx | rfl)
        · exact b x hx
        · simp

/-- A latch keeps the notice law. -/
theorem latchNumber_lawful (m : Mrh) (c : Scope) (n : Nat) :
    (((latchNumber m c n).notices.map (·.scope)).Nodup ∧ ∀ x ∈ (latchNumber m c n).notices, x.flags.Nodup)
      ↔ ((m.notices.map (·.scope)).Nodup ∧ ∀ x ∈ m.notices, x.flags.Nodup) := by
  unfold latchNumber
  split
  · rfl
  · dsimp only
    split
    · rfl
    · exact addToNotice_lawful _ _ _

theorem latchStation_noticeLaw (s : State) (f : StationFlag) : NoticeLaw (s.latchStation f) = NoticeLaw s :=
  propext (latchNumber_lawful _ _ _)
theorem latchBerth_noticeLaw (s : State) (b : Berth) (f : BerthFlag) : NoticeLaw (s.latchBerth b f) = NoticeLaw s :=
  propext (latchNumber_lawful _ _ _)

theorem placeRecord_noticeLaw (s : State) (b : Berth) (r : OpenRecord) (closedAt : StationTime) (reason : CloseReason) : NoticeLaw (State.placeRecord s b r closedAt reason) = NoticeLaw s := by
  unfold State.placeRecord
  try dsimp only
  all_goals first | with_reducible rfl | simp only [noticeLaw_mbu, latchStation_noticeLaw]
theorem deferClosure_noticeLaw (s : State) (b : Berth) (d : Deferral) : NoticeLaw (State.deferClosure s b d) = NoticeLaw s := by
  unfold State.deferClosure
  try dsimp only
  all_goals first | with_reducible rfl | simp only [noticeLaw_mbu, setMeter_noticeLaw, latchStation_noticeLaw]
theorem applyBoundary_noticeLaw (s : State) (b : Berth) (a : AcctBoundary) : NoticeLaw (State.applyBoundary s b a) = NoticeLaw s := by
  unfold State.applyBoundary
  try dsimp only
  repeat' split
  all_goals first | with_reducible rfl | simp only [placeRecord_noticeLaw, setMeter_noticeLaw, deferClosure_noticeLaw]
theorem flushHeld_noticeLaw (s : State) (b : Berth) : NoticeLaw (State.flushHeld s b) = NoticeLaw s := by
  unfold State.flushHeld
  try dsimp only
  repeat' split
  all_goals first | with_reducible rfl | simp only [setMeter_noticeLaw, applyBoundary_noticeLaw]
theorem flushStale_noticeLaw (s : State) (b : Berth) : NoticeLaw (State.flushStale s b) = NoticeLaw s := by
  unfold State.flushStale
  try dsimp only
  repeat' split
  all_goals first | with_reducible rfl | simp only [flushHeld_noticeLaw]
theorem tickBlockEnd_noticeLaw (s : State) (e : BlockEnd) (b : Berth) : NoticeLaw (State.tickBlockEnd s e b) = NoticeLaw s := by
  unfold State.tickBlockEnd
  try dsimp only
  repeat' split
  all_goals first | with_reducible rfl | simp only [flushStale_noticeLaw, setMeter_noticeLaw]
theorem tickBoundary_noticeLaw (s : State) (a : AcctBoundary) (b : Berth) : NoticeLaw (State.tickBoundary s a b) = NoticeLaw s := by
  unfold State.tickBoundary
  try dsimp only
  repeat' split
  all_goals first | with_reducible rfl | simp only [flushStale_noticeLaw, setMeter_noticeLaw, applyBoundary_noticeLaw]
theorem clockSetRestart_noticeLaw (s : State) (b : Berth) : NoticeLaw (State.clockSetRestart s b) = NoticeLaw s := by
  simp only [State.clockSetRestart, flushHeld_noticeLaw, setMeter_noticeLaw]
theorem startMetering_noticeLaw (s : State) (b : Berth) (session : Option Nat) (account : Option (BitVec 32)) (restart : Bool) : NoticeLaw (State.startMetering s b session account restart) = NoticeLaw s := by
  unfold State.startMetering
  try dsimp only
  repeat' split
  all_goals first | with_reducible rfl | simp only [flushHeld_noticeLaw, setMeter_noticeLaw]
theorem endMetering_noticeLaw (s : State) (b : Berth) (reason : CloseReason) : NoticeLaw (State.endMetering s b reason) = NoticeLaw s := by
  unfold State.endMetering
  try dsimp only
  repeat' split
  all_goals first | with_reducible rfl | simp only [setMeter_noticeLaw, placeRecord_noticeLaw, deferClosure_noticeLaw]
theorem secondEndMeter_noticeLaw (s : State) (b : Berth) (e : NodeEntry) : NoticeLaw (State.secondEndMeter s b e) = NoticeLaw s := by
  unfold State.secondEndMeter
  try dsimp only
  repeat' split
  all_goals first | with_reducible rfl | simp only [flushStale_noticeLaw, setMeter_noticeLaw, flushHeld_noticeLaw]
theorem substitutedCycle_noticeLaw (s : State) (b : Berth) (n : Ext) : NoticeLaw (State.substitutedCycle s b n) = NoticeLaw s := by
  unfold State.substitutedCycle
  try dsimp only
  repeat' split
  all_goals first | with_reducible rfl | simp only [flushHeld_noticeLaw, setMeter_noticeLaw]
theorem placeDeferred_noticeLaw (s : State) (b : Berth) : NoticeLaw (State.placeDeferred s b) = NoticeLaw s := by
  unfold State.placeDeferred
  try dsimp only
  repeat' split
  all_goals first | with_reducible rfl | simp only [noticeLaw_mbu, flushHeld_noticeLaw, placeRecord_noticeLaw, setMeter_noticeLaw, deferClosure_noticeLaw]
theorem releaseOldest_noticeLaw (s : State) : NoticeLaw (State.releaseOldest s) = NoticeLaw s := by
  unfold State.releaseOldest
  try dsimp only
  repeat' split
  all_goals first | with_reducible rfl | simp only [noticeLaw_mbu, placeDeferred_noticeLaw]
theorem markUnverified_noticeLaw (s : State) : NoticeLaw (State.markUnverified s) = NoticeLaw s :=
  noticeLaw_forEach _ (fun b s => (setMeter_noticeLaw _ _ _).trans (flushHeld_noticeLaw s b)) s
theorem mbuConfigEntry_noticeLaw (s : State) : NoticeLaw (State.mbuConfigEntry s) = NoticeLaw s :=
  noticeLaw_forEach _ (fun b s => endMetering_noticeLaw s b _) s
theorem supEntry_noticeLaw (s : State) (b : Berth) (st : SessionState) : NoticeLaw (State.supEntry s b st) = NoticeLaw s := by
  unfold State.supEntry
  try dsimp only
  all_goals first | with_reducible rfl | simp only [setSuperv_noticeLaw]
theorem startBlanking_noticeLaw (s : State) (b : Berth) : NoticeLaw (State.startBlanking s b) = NoticeLaw s := by
  unfold State.startBlanking
  try dsimp only
  all_goals first | with_reducible rfl | simp only [setSuperv_noticeLaw]
theorem moduleClosedReport_noticeLaw (s : State) (b : Berth) : NoticeLaw (State.moduleClosedReport s b) = NoticeLaw s := by
  unfold State.moduleClosedReport
  try dsimp only
  repeat' split
  all_goals first | with_reducible rfl | simp only [startBlanking_noticeLaw, setSuperv_noticeLaw]
theorem concludeMeasurement_noticeLaw (s : State) (k : Breaker) (result : Option Nat) : NoticeLaw (State.concludeMeasurement s k result) = NoticeLaw s := by
  unfold State.concludeMeasurement
  try dsimp only
  repeat' split
  all_goals first | with_reducible rfl | simp only [setBreaker_noticeLaw, latchBerth_noticeLaw]
theorem issueOpen_noticeLaw (s : State) (k : Breaker) : NoticeLaw (State.issueOpen s k) = NoticeLaw s := by
  unfold State.issueOpen
  try dsimp only
  all_goals first | with_reducible rfl | simp only [setBreaker_noticeLaw]
theorem issueClose_noticeLaw (s : State) (k : Breaker) : NoticeLaw (State.issueClose s k) = NoticeLaw s := by
  unfold State.issueClose
  try dsimp only
  all_goals first | with_reducible rfl | simp only [setBreaker_noticeLaw]
theorem closeRequest_noticeLaw (s : State) (k : Breaker) : NoticeLaw (State.closeRequest s k).1 = NoticeLaw s := by
  unfold State.closeRequest
  try dsimp only
  repeat' split
  all_goals first | with_reducible rfl | simp only [issueClose_noticeLaw]
theorem openRequest_noticeLaw (s : State) (k : Breaker) : NoticeLaw (State.openRequest s k).1 = NoticeLaw s := by
  unfold State.openRequest
  try dsimp only
  repeat' split
  all_goals first | with_reducible rfl | simp only [issueOpen_noticeLaw, setBreaker_noticeLaw]
theorem tripBreaker_noticeLaw (s : State) (k : Breaker) : NoticeLaw (State.tripBreaker s k) = NoticeLaw s := by
  unfold State.tripBreaker
  try dsimp only
  repeat' split
  all_goals first | with_reducible rfl | simp only [concludeMeasurement_noticeLaw, issueOpen_noticeLaw]
theorem breakerConfigEntry_noticeLaw (k : Breaker) (s : State) : NoticeLaw (State.breakerConfigEntry k s) = NoticeLaw s := by
  unfold State.breakerConfigEntry
  try dsimp only
  repeat' split
  all_goals first | with_reducible rfl | simp only [setBreaker_noticeLaw, latchBerth_noticeLaw]
theorem bsyConfigEntry_noticeLaw (s : State) : NoticeLaw (State.bsyConfigEntry s) = NoticeLaw s :=
  (noticeLaw_forEach _ (fun _ _ => setSync_noticeLaw _ _ _) _).trans
    ((noticeLaw_forEach _ (fun _ s => breakerConfigEntry_noticeLaw _ s) _).trans (noticeLaw_forEach _ (fun _ s => breakerConfigEntry_noticeLaw _ s) s))
theorem bsyOperateEntry_noticeLaw (s : State) : NoticeLaw (State.bsyOperateEntry s) = NoticeLaw s := by
  unfold State.bsyOperateEntry
  try dsimp only
  all_goals first | with_reducible rfl | simp only [noticeLaw_bsy]
theorem oscEntry_noticeLaw (s : State) (b : Berth) (st : SessionState) : NoticeLaw (State.oscEntry s b st) = NoticeLaw s := by
  unfold State.oscEntry
  try dsimp only
  repeat' split
  all_goals first | with_reducible rfl | simp only [setOsc_noticeLaw]
theorem enterState_noticeLaw (s : State) (b : Berth) (st : SessionState) : NoticeLaw (State.enterState s b st) = NoticeLaw s := by
  unfold State.enterState
  try dsimp only
  all_goals first | with_reducible rfl | simp only [setSession_noticeLaw, setSync_noticeLaw, oscEntry_noticeLaw, supEntry_noticeLaw]
theorem formCap_noticeLaw (s : State) (b : Berth) : NoticeLaw (State.formCap s b) = NoticeLaw s := by
  unfold State.formCap
  try dsimp only
  all_goals first | with_reducible rfl | simp only [setSession_noticeLaw]
theorem pbCloseComplete_noticeLaw (s : State) (b : Berth) : NoticeLaw (State.pbCloseComplete s b) = NoticeLaw s := by
  unfold State.pbCloseComplete
  try dsimp only
  repeat' split
  all_goals first | with_reducible rfl | simp only [setSession_noticeLaw, startMetering_noticeLaw, setSync_noticeLaw]
theorem presentPbClose_noticeLaw (s : State) (b : Berth) : NoticeLaw (State.presentPbClose s b) = NoticeLaw s := by
  unfold State.presentPbClose
  try dsimp only
  repeat' split
  all_goals first | with_reducible rfl | simp only [closeRequest_noticeLaw, setSession_noticeLaw, pbCloseComplete_noticeLaw]
theorem idleEntry_noticeLaw (s : State) (b : Berth) : NoticeLaw (State.idleEntry s b) = NoticeLaw s := by
  unfold State.idleEntry
  try dsimp only
  all_goals first | with_reducible rfl | simp only [enterState_noticeLaw, setSession_noticeLaw, latchBerth_noticeLaw]
theorem tryIdle_noticeLaw (s : State) (b : Berth) : NoticeLaw (State.tryIdle s b) = NoticeLaw s := by
  unfold State.tryIdle
  try dsimp only
  repeat' split
  all_goals first | with_reducible rfl | simp only [idleEntry_noticeLaw]
theorem changeOfHoldings_noticeLaw (s : State) (b : Berth) : NoticeLaw (State.changeOfHoldings s b) = NoticeLaw s := by
  unfold State.changeOfHoldings
  try dsimp only
  repeat' split
  all_goals first | with_reducible rfl | simp only [setSession_noticeLaw, formCap_noticeLaw, presentPbClose_noticeLaw, tryIdle_noticeLaw]
theorem zeroAges_noticeLaw (s : State) (m : ModuleId) : NoticeLaw (State.zeroAges s m) = NoticeLaw s := by
  unfold State.zeroAges
  try dsimp only
  repeat' split
  all_goals first | with_reducible rfl | simp only [noticeLaw_mpm]
theorem queueOp_noticeLaw (s : State) (m : ModuleId) (op : QueuedOp) : NoticeLaw (State.queueOp s m op) = NoticeLaw s := by
  unfold State.queueOp
  try dsimp only
  all_goals first | with_reducible rfl | simp only [noticeLaw_mpm]
theorem removeOps_noticeLaw (s : State) (m : ModuleId) : NoticeLaw (State.removeOps s m) = NoticeLaw s := by
  unfold State.removeOps
  try dsimp only
  all_goals first | with_reducible rfl | simp only [noticeLaw_mpm]
theorem issueProtection_noticeLaw (s : State) (m : ModuleId) : NoticeLaw (State.issueProtection s m) = NoticeLaw s := by
  unfold State.issueProtection
  try dsimp only
  all_goals first | with_reducible rfl | simp only [setModule_noticeLaw, zeroAges_noticeLaw]
theorem protect_noticeLaw (s : State) (m : ModuleId) : NoticeLaw (State.protect s m) = NoticeLaw s := by
  unfold State.protect
  try dsimp only
  repeat' split
  all_goals first | with_reducible rfl | simp only [issueProtection_noticeLaw]
theorem beginStopPhase_noticeLaw (s : State) (m : ModuleId) : NoticeLaw (State.beginStopPhase s m) = NoticeLaw s := by
  unfold State.beginStopPhase
  try dsimp only
  all_goals first | with_reducible rfl | simp only [setModule_noticeLaw]
theorem releaseOne_noticeLaw (s : State) (m : ModuleId) : NoticeLaw (State.releaseOne s m) = NoticeLaw s := by
  unfold State.releaseOne
  try dsimp only
  repeat' split
  all_goals first | with_reducible rfl | simp only [removeOps_noticeLaw, setModule_noticeLaw, queueOp_noticeLaw, beginStopPhase_noticeLaw]
theorem releaseModules_noticeLaw (s : State) (b : Berth) (l : List ModuleId) : NoticeLaw (State.releaseModules s b l) = NoticeLaw s := by
  unfold State.releaseModules
  dsimp only
  split
  · exact (changeOfHoldings_noticeLaw _ _).trans (noticeLaw_foldl _ (fun s m => releaseOne_noticeLaw s m) _ _)
  · exact noticeLaw_foldl _ (fun s m => releaseOne_noticeLaw s m) _ _
theorem releaseBerth_noticeLaw (s : State) (b : Berth) : NoticeLaw (State.releaseBerth s b) = NoticeLaw s := by
  unfold State.releaseBerth
  try dsimp only
  all_goals first | with_reducible rfl | simp only [releaseModules_noticeLaw]
theorem startModule_noticeLaw (s : State) (m : ModuleId) (b : Berth) : NoticeLaw (State.startModule s m b) = NoticeLaw s := by
  unfold State.startModule
  try dsimp only
  all_goals first | with_reducible rfl | simp only [setModule_noticeLaw]
theorem grantPresented_noticeLaw (s : State) (b : Berth) (l : List ModuleId) : NoticeLaw (State.grantPresented s b l) = NoticeLaw s := by
  unfold State.grantPresented
  try dsimp only
  repeat' split
  all_goals first | with_reducible rfl | simp only [enterState_noticeLaw, releaseModules_noticeLaw]
theorem pickAll_noticeLaw (s : State) (b : Berth) (n : Nat) : NoticeLaw (s.pickAll b n).1 = NoticeLaw s := by
  induction n generalizing s with
  | zero => rfl
  | succ n ih =>
    unfold State.pickAll
    split
    · exact (ih _).trans (startModule_noticeLaw _ _ _)
    · rfl
theorem grantHead_noticeLaw (s : State) (e : AllocEntry) : NoticeLaw (State.grantHead s e) = NoticeLaw s := by
  unfold State.grantHead
  try dsimp only
  all_goals first | with_reducible rfl | simp only [noticeLaw_mpm, pickAll_noticeLaw, grantPresented_noticeLaw, changeOfHoldings_noticeLaw]
theorem grantLoop_noticeLaw (s : State) (n : Nat) : NoticeLaw (s.grantLoop n) = NoticeLaw s := by
  induction n generalizing s with
  | zero => rfl
  | succ n ih =>
    unfold State.grantLoop
    split
    · split
      · rw [ih, grantHead_noticeLaw]
      · rfl
    · rfl
theorem grantEvaluation_noticeLaw (s : State) : NoticeLaw s.grantEvaluation = NoticeLaw s := by
  unfold State.grantEvaluation
  split
  · exact grantLoop_noticeLaw _ _
  · rfl
theorem allocRequest_noticeLaw (s : State) (b : Berth) (count : Nat) (u : Urgency) : NoticeLaw (State.allocRequest s b count u) = NoticeLaw s := by
  unfold State.allocRequest
  try dsimp only
  repeat' split
  all_goals first | with_reducible rfl | simp only [noticeLaw_mpm, grantEvaluation_noticeLaw]
theorem cancelAlloc_noticeLaw (s : State) (b : Berth) : NoticeLaw (State.cancelAlloc s b) = NoticeLaw s := by
  unfold State.cancelAlloc
  try dsimp only
  repeat' split
  all_goals first | with_reducible rfl | simp only [noticeLaw_mpm, grantEvaluation_noticeLaw]
theorem cooldownEntry_noticeLaw (s : State) (m : ModuleId) : NoticeLaw (State.cooldownEntry s m) = NoticeLaw s := by
  unfold State.cooldownEntry
  try dsimp only
  repeat' split
  all_goals first | with_reducible rfl | simp only [setModule_noticeLaw, changeOfHoldings_noticeLaw]
theorem failureHoldings_noticeLaw (s : State) (b : Berth) (old : ModuleState) : NoticeLaw (State.failureHoldings s b old) = NoticeLaw s := by
  unfold State.failureHoldings
  try dsimp only
  repeat' split
  all_goals first | with_reducible rfl | simp only [latchBerth_noticeLaw, allocRequest_noticeLaw, changeOfHoldings_noticeLaw]
theorem failModule_noticeLaw (s : State) (m : ModuleId) (c : FailureCause) : NoticeLaw (State.failModule s m c) = NoticeLaw s := by
  unfold State.failModule
  try dsimp only
  repeat' split
  all_goals first | with_reducible rfl | simp only [removeOps_noticeLaw, protect_noticeLaw, setModule_noticeLaw, latchStation_noticeLaw, failureHoldings_noticeLaw]
theorem failedToCooldown_noticeLaw (s : State) (m : ModuleId) : NoticeLaw (State.failedToCooldown s m) = NoticeLaw s := by
  unfold State.failedToCooldown
  try dsimp only
  repeat' split
  all_goals first | with_reducible rfl | simp only [cooldownEntry_noticeLaw]
theorem moduleNodeLost_noticeLaw (s : State) (m : ModuleId) : NoticeLaw (State.moduleNodeLost s m) = NoticeLaw s := by
  unfold State.moduleNodeLost
  try dsimp only
  repeat' split
  all_goals first | with_reducible rfl | simp only [failModule_noticeLaw]
theorem tripModule_noticeLaw (s : State) (m : ModuleId) : NoticeLaw (State.tripModule s m) = NoticeLaw s := by
  unfold State.tripModule
  try dsimp only
  repeat' split
  all_goals first | with_reducible rfl | simp only [removeOps_noticeLaw, protect_noticeLaw, setModule_noticeLaw, beginStopPhase_noticeLaw]
theorem tripModules_noticeLaw (s : State) (b : Berth) : NoticeLaw (State.tripModules s b) = NoticeLaw s :=
  (changeOfHoldings_noticeLaw _ _).trans (noticeLaw_foldl _ (fun s m => tripModule_noticeLaw s m) _ _)
theorem moduleDelivered_noticeLaw (s : State) (m : ModuleId) (op : ModuleOp) (inStopPhase : Bool) : NoticeLaw (State.moduleDelivered s m op inStopPhase) = NoticeLaw s := by
  unfold State.moduleDelivered
  try dsimp only
  repeat' split
  all_goals first | with_reducible rfl | simp only [setModule_noticeLaw, changeOfHoldings_noticeLaw, moduleClosedReport_noticeLaw, queueOp_noticeLaw, cooldownEntry_noticeLaw, beginStopPhase_noticeLaw, failedToCooldown_noticeLaw]
theorem moduleDelivery_noticeLaw (s : State) (m : ModuleId) (d : ModuleReport) : NoticeLaw (State.moduleDelivery s m d) = NoticeLaw s := by
  unfold State.moduleDelivery
  try dsimp only
  repeat' split
  all_goals first | with_reducible rfl | simp only [setModule_noticeLaw, failModule_noticeLaw, moduleDelivered_noticeLaw]
theorem switchingIssue_noticeLaw (s : State) : NoticeLaw (State.switchingIssue s) = NoticeLaw s := by
  unfold State.switchingIssue
  try dsimp only
  repeat' split
  all_goals first | with_reducible rfl | simp only [noticeLaw_mpm, setModule_noticeLaw, zeroAges_noticeLaw]
theorem moduleStartLimit_noticeLaw (s : State) (m : ModuleId) : NoticeLaw (State.moduleStartLimit s m) = NoticeLaw s := by
  unfold State.moduleStartLimit
  try dsimp only
  repeat' split
  all_goals first | with_reducible rfl | simp only [failModule_noticeLaw]
theorem moduleOperateLimit_noticeLaw (s : State) (m : ModuleId) : NoticeLaw (State.moduleOperateLimit s m) = NoticeLaw s := by
  unfold State.moduleOperateLimit
  try dsimp only
  repeat' split
  all_goals first | with_reducible rfl | simp only [failModule_noticeLaw, setModule_noticeLaw]
theorem cooldownEnd_noticeLaw (s : State) (m : ModuleId) : NoticeLaw (State.cooldownEnd s m) = NoticeLaw s := by
  unfold State.cooldownEnd
  try dsimp only
  repeat' split
  all_goals first | with_reducible rfl | simp only [setModule_noticeLaw, grantEvaluation_noticeLaw]
theorem mpmConfigEntry_noticeLaw (s : State) : NoticeLaw (State.mpmConfigEntry s) = NoticeLaw s := by
  unfold State.mpmConfigEntry
  try dsimp only
  all_goals first | with_reducible rfl | simp only [noticeLaw_mpm]
theorem drainReturn_noticeLaw (s : State) (b : Berth) : NoticeLaw (State.drainReturn s b) = NoticeLaw s := by
  unfold State.drainReturn
  try dsimp only
  repeat' split
  all_goals first | with_reducible rfl | simp only [endMetering_noticeLaw, setSession_noticeLaw, releaseBerth_noticeLaw]
theorem pbDrained_noticeLaw (s : State) (b : Berth) : NoticeLaw (State.pbDrained s b) = NoticeLaw s := by
  unfold State.pbDrained
  try dsimp only
  all_goals first | with_reducible rfl | simp only [setSession_noticeLaw, drainReturn_noticeLaw, tryIdle_noticeLaw]
theorem drainPb_noticeLaw (s : State) (b : Berth) : NoticeLaw (State.drainPb s b) = NoticeLaw s := by
  unfold State.drainPb
  try dsimp only
  repeat' split
  all_goals first | with_reducible rfl | simp only [setSession_noticeLaw, openRequest_noticeLaw, pbDrained_noticeLaw]
theorem sbDrained_noticeLaw (s : State) (b : Berth) : NoticeLaw (State.sbDrained s b) = NoticeLaw s := by
  unfold State.sbDrained
  try dsimp only
  repeat' split
  all_goals first | with_reducible rfl | simp only [setSession_noticeLaw, tryIdle_noticeLaw, drainPb_noticeLaw]
theorem enterDraining_noticeLaw (s : State) (b : Berth) (reason : EndReason) (sbFirst : Bool) : NoticeLaw (State.enterDraining s b reason sbFirst) = NoticeLaw s := by
  unfold State.enterDraining
  try dsimp only
  repeat' split
  all_goals first | with_reducible rfl | simp only [cancelAlloc_noticeLaw, setSession_noticeLaw, enterState_noticeLaw, openRequest_noticeLaw, sbDrained_noticeLaw, drainPb_noticeLaw]
theorem abortSession_noticeLaw (s : State) (b : Berth) (reason : EndReason) : NoticeLaw (State.abortSession s b reason) = NoticeLaw s := by
  unfold State.abortSession
  try dsimp only
  repeat' split
  all_goals first | with_reducible rfl | simp only [cancelAlloc_noticeLaw, setSession_noticeLaw, enterDraining_noticeLaw]
theorem shipReturned_noticeLaw (s : State) (b : Berth) : NoticeLaw (State.shipReturned s b) = NoticeLaw s := by
  unfold State.shipReturned
  try dsimp only
  all_goals first | with_reducible rfl | simp only [enterState_noticeLaw, latchBerth_noticeLaw]
theorem partShip_noticeLaw (s : State) (b : Berth) : NoticeLaw (State.partShip s b) = NoticeLaw s := by
  unfold State.partShip
  try dsimp only
  repeat' split
  all_goals first | with_reducible rfl | simp only [enterState_noticeLaw, openRequest_noticeLaw, shipReturned_noticeLaw]
theorem sbCloseComplete_noticeLaw (s : State) (b : Berth) : NoticeLaw (State.sbCloseComplete s b) = NoticeLaw s := by
  unfold State.sbCloseComplete
  try dsimp only
  repeat' split
  all_goals first | with_reducible rfl | simp only [enterState_noticeLaw]
theorem sbOpenComplete_noticeLaw (s : State) (b : Berth) : NoticeLaw (State.sbOpenComplete s b) = NoticeLaw s := by
  unfold State.sbOpenComplete
  try dsimp only
  repeat' split
  all_goals first | with_reducible rfl | simp only [enterState_noticeLaw, shipReturned_noticeLaw, sbDrained_noticeLaw]
theorem pbOpenComplete_noticeLaw (s : State) (b : Berth) : NoticeLaw (State.pbOpenComplete s b) = NoticeLaw s := by
  unfold State.pbOpenComplete
  try dsimp only
  repeat' split
  all_goals first | with_reducible rfl | simp only [pbDrained_noticeLaw, endMetering_noticeLaw, setSession_noticeLaw]
theorem closeComplete_noticeLaw (s : State) (k : Breaker) : NoticeLaw (State.closeComplete s k) = NoticeLaw s := by
  unfold State.closeComplete
  try dsimp only
  repeat' split
  all_goals first | with_reducible rfl | simp only [pbCloseComplete_noticeLaw, sbCloseComplete_noticeLaw]
theorem openComplete_noticeLaw (s : State) (k : Breaker) : NoticeLaw (State.openComplete s k) = NoticeLaw s := by
  unfold State.openComplete
  try dsimp only
  repeat' split
  all_goals first | with_reducible rfl | simp only [pbOpenComplete_noticeLaw, sbOpenComplete_noticeLaw]
theorem sbUncommandedOpen_noticeLaw (s : State) (b : Berth) : NoticeLaw (State.sbUncommandedOpen s b) = NoticeLaw s := by
  unfold State.sbUncommandedOpen
  try dsimp only
  repeat' split
  all_goals first | with_reducible rfl | simp only [enterState_noticeLaw]
theorem pbUncommandedOpen_noticeLaw (s : State) (b : Berth) : NoticeLaw (State.pbUncommandedOpen s b) = NoticeLaw s := by
  unfold State.pbUncommandedOpen
  try dsimp only
  repeat' split
  all_goals first | with_reducible rfl | simp only [enterDraining_noticeLaw, setSession_noticeLaw, drainReturn_noticeLaw]
theorem uncommandedOpen_noticeLaw (s : State) (k : Breaker) : NoticeLaw (State.uncommandedOpen s k) = NoticeLaw s := by
  unfold State.uncommandedOpen
  try dsimp only
  repeat' split
  all_goals first | with_reducible rfl | simp only [pbUncommandedOpen_noticeLaw, sbUncommandedOpen_noticeLaw]
theorem syncCloseIssued_noticeLaw (s : State) (b : Berth) : NoticeLaw (State.syncCloseIssued s b) = NoticeLaw s := by
  unfold State.syncCloseIssued
  try dsimp only
  all_goals first | with_reducible rfl | simp only [setSession_noticeLaw]
theorem alignmentSuccess_noticeLaw (s : State) (b : Berth) : NoticeLaw (State.alignmentSuccess s b) = NoticeLaw s := by
  unfold State.alignmentSuccess
  try dsimp only
  repeat' split
  all_goals first | with_reducible rfl | simp only [enterState_noticeLaw, latchBerth_noticeLaw]
theorem enterFaulted_noticeLaw (s : State) (b : Berth) : NoticeLaw (State.enterFaulted s b) = NoticeLaw s := by
  unfold State.enterFaulted
  try dsimp only
  repeat' split
  all_goals first | with_reducible rfl | simp only [cancelAlloc_noticeLaw, enterState_noticeLaw, setSession_noticeLaw]
theorem cancelAborted_noticeLaw (s : State) : NoticeLaw (State.cancelAborted s) = NoticeLaw s := by
  unfold State.cancelAborted
  try dsimp only
  repeat' split
  all_goals first | with_reducible rfl | simp only [noticeLaw_mpm, grantEvaluation_noticeLaw]
theorem invalidAbort_noticeLaw (b : Berth) (s : State) : NoticeLaw (State.invalidAbort b s) = NoticeLaw s := by
  unfold State.invalidAbort
  try dsimp only
  repeat' split
  all_goals first | with_reducible rfl | simp only [abortSession_noticeLaw]
theorem invalidAborts_noticeLaw (s : State) : NoticeLaw (State.invalidAborts s) = NoticeLaw s :=
  (noticeLaw_forEach _ (fun b s => invalidAbort_noticeLaw b s) _).trans (cancelAborted_noticeLaw s)
theorem rampInStep_noticeLaw (s : State) (b : Berth) : NoticeLaw (State.rampInStep s b) = NoticeLaw s := by
  unfold State.rampInStep
  try dsimp only
  repeat' split
  all_goals first | with_reducible rfl | simp only [noticeLaw_ses, setSession_noticeLaw]
theorem rampOutStep_noticeLaw (s : State) (b : Berth) : NoticeLaw (State.rampOutStep s b) = NoticeLaw s := by
  unfold State.rampOutStep
  try dsimp only
  repeat' split
  all_goals first | with_reducible rfl | simp only [setSession_noticeLaw]
theorem rampStep_noticeLaw (s : State) (b : Berth) : NoticeLaw (State.rampStep s b) = NoticeLaw s := by
  unfold State.rampStep
  try dsimp only
  repeat' split
  all_goals first | with_reducible rfl | simp only [setSession_noticeLaw, formCap_noticeLaw, rampInStep_noticeLaw, rampOutStep_noticeLaw]
theorem settleEnd_noticeLaw (s : State) (b : Berth) : NoticeLaw (State.settleEnd s b) = NoticeLaw s := by
  unfold State.settleEnd
  try dsimp only
  repeat' split
  all_goals first | with_reducible rfl | simp only [enterState_noticeLaw, setSession_noticeLaw]
theorem refresh_noticeLaw (s : State) : NoticeLaw (State.refresh s) = NoticeLaw s := by
  unfold State.refresh
  try dsimp only
  repeat' split
  all_goals first | with_reducible rfl | simp only [noticeLaw_ses, latchStation_noticeLaw]
theorem incomerLoss_noticeLaw (s : State) : NoticeLaw (State.incomerLoss s) = NoticeLaw s := by
  unfold State.incomerLoss
  try dsimp only
  all_goals first | with_reducible rfl | simp only [noticeLaw_ses]
theorem incomerRecovery_noticeLaw (s : State) : NoticeLaw (State.incomerRecovery s) = NoticeLaw s := by
  unfold State.incomerRecovery
  try dsimp only
  all_goals first | with_reducible rfl | simp only [noticeLaw_ses]
theorem headroomReset_noticeLaw (s : State) : NoticeLaw (State.headroomReset s) = NoticeLaw s := by
  unfold State.headroomReset
  try dsimp only
  all_goals first | with_reducible rfl | simp only [noticeLaw_ses]
theorem recallEnd_noticeLaw (s : State) (b : Berth) : NoticeLaw (State.recallEnd s b) = NoticeLaw s := by
  unfold State.recallEnd
  try dsimp only
  all_goals first | with_reducible rfl | simp only [enterState_noticeLaw, setSession_noticeLaw]
theorem shipReport_noticeLaw (s : State) (b : Berth) (ship : ShipState) (output : Int) : NoticeLaw (State.shipReport s b ship output) = NoticeLaw s := by
  unfold State.shipReport
  try dsimp only
  repeat' split
  all_goals first | with_reducible rfl | simp only [setSession_noticeLaw, enterState_noticeLaw, latchBerth_noticeLaw, recallEnd_noticeLaw]
theorem secondEndSession_noticeLaw (s : State) (b : Berth) : NoticeLaw (State.secondEndSession s b) = NoticeLaw s := by
  unfold State.secondEndSession
  try dsimp only
  repeat' split
  all_goals first | with_reducible rfl | simp only [setSession_noticeLaw, partShip_noticeLaw]
theorem warnFault_noticeLaw (s : State) (b : Berth) (k : FaultKind) : NoticeLaw (State.warnFault s b k) = NoticeLaw s := by
  unfold State.warnFault
  try dsimp only
  all_goals first | with_reducible rfl | simp only [setSuperv_noticeLaw, latchBerth_noticeLaw]
theorem setRestartTimer_noticeLaw (s : State) (b : Berth) : NoticeLaw (State.setRestartTimer s b) = NoticeLaw s := by
  unfold State.setRestartTimer
  try dsimp only
  repeat' split
  all_goals first | with_reducible rfl | simp only [setSuperv_noticeLaw]
theorem tripBreakers_noticeLaw (s : State) (b : Berth) : NoticeLaw (State.tripBreakers s b) = NoticeLaw s := by
  unfold State.tripBreakers
  try dsimp only
  all_goals first | with_reducible rfl | simp only [tripBreaker_noticeLaw, setSync_noticeLaw]
theorem tripPbComplete_noticeLaw (s : State) (b : Berth) : NoticeLaw (State.tripPbComplete s b) = NoticeLaw s := by
  unfold State.tripPbComplete
  try dsimp only
  repeat' split
  all_goals first | with_reducible rfl | simp only [pbOpenComplete_noticeLaw]
theorem trip_noticeLaw (s : State) (b : Berth) (k : FaultKind) (c : FaultClass) : NoticeLaw (State.trip s b k c) = NoticeLaw s := by
  unfold State.trip
  try dsimp only
  all_goals first | with_reducible rfl | simp only [setSuperv_noticeLaw, tripBreakers_noticeLaw, enterFaulted_noticeLaw, tripModules_noticeLaw, tripPbComplete_noticeLaw, latchBerth_noticeLaw, setRestartTimer_noticeLaw]
theorem laterFault_noticeLaw (s : State) (b : Berth) (k : FaultKind) (c : FaultClass) : NoticeLaw (State.laterFault s b k c) = NoticeLaw s := by
  unfold State.laterFault
  try dsimp only
  all_goals first | with_reducible rfl | simp only [setSuperv_noticeLaw, tripBreakers_noticeLaw, tripModules_noticeLaw, tripPbComplete_noticeLaw, setRestartTimer_noticeLaw, latchBerth_noticeLaw]
theorem fault_noticeLaw (s : State) (b : Berth) (k : FaultKind) : NoticeLaw (State.fault s b k) = NoticeLaw s := by
  unfold State.fault
  try dsimp only
  repeat' split
  all_goals first | with_reducible rfl | simp only [warnFault_noticeLaw, laterFault_noticeLaw, trip_noticeLaw]
theorem faultIf_noticeLaw (s : State) (raised : Bool) (b : Berth) (k : FaultKind) : NoticeLaw (State.faultIf s raised b k) = NoticeLaw s := by
  unfold State.faultIf
  try dsimp only
  repeat' split
  all_goals first | with_reducible rfl | simp only [fault_noticeLaw]
theorem superviseCurrent_noticeLaw (s : State) (b : Berth) : NoticeLaw (State.superviseCurrent s b) = NoticeLaw s := by
  unfold State.superviseCurrent
  try dsimp only
  repeat' split
  all_goals first | with_reducible rfl | simp only [setSuperv_noticeLaw, faultIf_noticeLaw]
theorem superviseVoltage_noticeLaw (s : State) (p : Point) : NoticeLaw (State.superviseVoltage s p) = NoticeLaw s := by
  unfold State.superviseVoltage
  try dsimp only
  repeat' split
  all_goals first | with_reducible rfl | simp only [setSuperv_noticeLaw, faultIf_noticeLaw]
theorem superviseFrequency_noticeLaw (s : State) (p : Point) : NoticeLaw (State.superviseFrequency s p) = NoticeLaw s := by
  unfold State.superviseFrequency
  try dsimp only
  repeat' split
  all_goals first | with_reducible rfl | simp only [setSuperv_noticeLaw, faultIf_noticeLaw]
theorem superviseReverse_noticeLaw (s : State) (b : Berth) : NoticeLaw (State.superviseReverse s b) = NoticeLaw s := by
  unfold State.superviseReverse
  try dsimp only
  repeat' split
  all_goals first | with_reducible rfl | simp only [setSuperv_noticeLaw, faultIf_noticeLaw]
theorem uncommandedOpenFault_noticeLaw (s : State) (k : Breaker) (was : SessionState) : NoticeLaw (State.uncommandedOpenFault s k was) = NoticeLaw s := by
  unfold State.uncommandedOpenFault
  try dsimp only
  repeat' split
  all_goals first | with_reducible rfl | simp only [fault_noticeLaw]
theorem presentUncommandedOpen_noticeLaw (s : State) (supervisionFirst : Bool) (k : Breaker) : NoticeLaw (State.presentUncommandedOpen s supervisionFirst k) = NoticeLaw s := by
  unfold State.presentUncommandedOpen
  try dsimp only
  repeat' split
  all_goals first | with_reducible rfl | simp only [uncommandedOpenFault_noticeLaw, uncommandedOpen_noticeLaw]
theorem breakerReport_noticeLaw (s : State) (supervisionFirst : Bool) (k : Breaker) (old : BreakerRecord) (status : BreakerStatus) : NoticeLaw (State.breakerReport s supervisionFirst k old status) = NoticeLaw s := by
  unfold State.breakerReport
  try dsimp only
  repeat' split
  all_goals first | with_reducible rfl | simp only [startBlanking_noticeLaw, fault_noticeLaw, presentUncommandedOpen_noticeLaw]
theorem clearClose_noticeLaw (s : State) (k : Breaker) : NoticeLaw (State.clearClose s k) = NoticeLaw s := by
  unfold State.clearClose
  try dsimp only
  all_goals first | with_reducible rfl | simp only [setBreaker_noticeLaw]
theorem clearOpen_noticeLaw (s : State) (k : Breaker) : NoticeLaw (State.clearOpen s k) = NoticeLaw s := by
  unfold State.clearOpen
  try dsimp only
  all_goals first | with_reducible rfl | simp only [setBreaker_noticeLaw]
theorem closeCompletes_noticeLaw (s : State) (k : Breaker) : NoticeLaw (State.closeCompletes s k) = NoticeLaw s := by
  unfold State.closeCompletes
  try dsimp only
  repeat' split
  all_goals first | with_reducible rfl | simp only [concludeMeasurement_noticeLaw, clearClose_noticeLaw, issueOpen_noticeLaw, closeComplete_noticeLaw]
theorem commandEnd_noticeLaw (s : State) (k : Breaker) : NoticeLaw (State.commandEnd s k) = NoticeLaw s := by
  unfold State.commandEnd
  try dsimp only
  repeat' split
  all_goals first | with_reducible rfl | simp only [closeCompletes_noticeLaw, concludeMeasurement_noticeLaw, clearClose_noticeLaw, openComplete_noticeLaw, clearOpen_noticeLaw]
theorem breakerDelivery_noticeLaw (s : State) (supervisionFirst : Bool) (k : Breaker) (d : BreakerReport) : NoticeLaw (State.breakerDelivery s supervisionFirst k d) = NoticeLaw s := by
  unfold State.breakerDelivery
  try dsimp only
  all_goals first | with_reducible rfl | simp only [setBreaker_noticeLaw, breakerReport_noticeLaw, commandEnd_noticeLaw]
theorem breakerLimit_noticeLaw (s : State) (k : Breaker) : NoticeLaw (State.breakerLimit s k) = NoticeLaw s := by
  unfold State.breakerLimit
  try dsimp only
  repeat' split
  all_goals first | with_reducible rfl | simp only [concludeMeasurement_noticeLaw, clearClose_noticeLaw, issueOpen_noticeLaw, fault_noticeLaw, setBreaker_noticeLaw]
theorem pbCloseRetry_noticeLaw (s : State) (b : Berth) : NoticeLaw (State.pbCloseRetry s b) = NoticeLaw s := by
  unfold State.pbCloseRetry
  try dsimp only
  repeat' split
  all_goals first | with_reducible rfl | simp only [presentPbClose_noticeLaw]
theorem holdoverEntry_noticeLaw (s : State) (b : Berth) : NoticeLaw (State.holdoverEntry s b) = NoticeLaw s := by
  unfold State.holdoverEntry
  try dsimp only
  repeat' split
  all_goals first | with_reducible rfl | simp only [setOsc_noticeLaw, fault_noticeLaw]
theorem presentLoss_noticeLaw (s : State) (e : NodeEntry) : NoticeLaw (State.presentLoss s e) = NoticeLaw s := by
  unfold State.presentLoss
  try dsimp only
  repeat' split
  all_goals first | with_reducible rfl | simp only [moduleNodeLost_noticeLaw, fault_noticeLaw, incomerLoss_noticeLaw]
theorem presentRecovery_noticeLaw (s : State) (e : NodeEntry) : NoticeLaw (State.presentRecovery s e) = NoticeLaw s := by
  unfold State.presentRecovery
  try dsimp only
  repeat' split
  all_goals first | with_reducible rfl | simp only [failedToCooldown_noticeLaw, incomerRecovery_noticeLaw]
theorem firstStrike_noticeLaw (s : State) (b : Berth) : NoticeLaw (State.firstStrike s b) = NoticeLaw s := by
  unfold State.firstStrike
  try dsimp only
  repeat' split
  all_goals first | with_reducible rfl | simp only [setSession_noticeLaw, latchBerth_noticeLaw, allocRequest_noticeLaw]
theorem secondStrike_noticeLaw (s : State) (b : Berth) : NoticeLaw (State.secondStrike s b) = NoticeLaw s := by
  unfold State.secondStrike
  try dsimp only
  repeat' split
  all_goals first | with_reducible rfl | simp only [setSession_noticeLaw, cancelAlloc_noticeLaw, idleEntry_noticeLaw, enterDraining_noticeLaw, enterState_noticeLaw, latchBerth_noticeLaw, partShip_noticeLaw, fault_noticeLaw]
theorem stageExpiry_noticeLaw (s : State) (b : Berth) : NoticeLaw (State.stageExpiry s b) = NoticeLaw s := by
  unfold State.stageExpiry
  try dsimp only
  repeat' split
  all_goals first | with_reducible rfl | simp only [firstStrike_noticeLaw, secondStrike_noticeLaw]
theorem blankEnd_noticeLaw (s : State) (b : Berth) : NoticeLaw (State.blankEnd s b) = NoticeLaw s := by
  unfold State.blankEnd
  try dsimp only
  repeat' split
  all_goals first | with_reducible rfl | simp only [setSuperv_noticeLaw]
theorem restartDue_noticeLaw (s : State) (b : Berth) : NoticeLaw (State.restartDue s b) = NoticeLaw s := by
  unfold State.restartDue
  try dsimp only
  repeat' split
  all_goals first | with_reducible rfl | simp only [setSuperv_noticeLaw]
theorem restart_noticeLaw (s : State) (b : Berth) : NoticeLaw (State.restart s b) = NoticeLaw s := by
  unfold State.restart
  try dsimp only
  repeat' split
  all_goals first | with_reducible rfl | simp only [setSuperv_noticeLaw, enterState_noticeLaw, allocRequest_noticeLaw, latchBerth_noticeLaw]
theorem openingFaults_noticeLaw (s : State) (b : Berth) : NoticeLaw (State.openingFaults s b) = NoticeLaw s := by
  unfold State.openingFaults
  try dsimp only
  all_goals first | with_reducible rfl | simp only [faultIf_noticeLaw]
theorem siuReport_noticeLaw (s : State) (b : Berth) (ship : ShipState) (output : Int) : NoticeLaw (State.siuReport s b ship output) = NoticeLaw s := by
  unfold State.siuReport
  try dsimp only
  all_goals first | with_reducible rfl | simp only [shipReport_noticeLaw, faultIf_noticeLaw]
theorem lockCrossing_noticeLaw (s : State) (b : Berth) (n : Ext) (t : Ticks) : NoticeLaw (State.lockCrossing s b n t) = NoticeLaw s := by
  unfold State.lockCrossing
  try dsimp only
  all_goals first | with_reducible rfl | simp only [setOsc_noticeLaw]
theorem plugCrossing_noticeLaw (s : State) (b : Berth) (t : Ticks) : NoticeLaw (State.plugCrossing s b t) = NoticeLaw s := by
  unfold State.plugCrossing
  try dsimp only
  repeat' split
  all_goals first | with_reducible rfl | simp only [setSync_noticeLaw, alignmentSuccess_noticeLaw, fault_noticeLaw]
theorem issueSyncClose_noticeLaw (s : State) (b : Berth) : NoticeLaw (State.issueSyncClose s b) = NoticeLaw s := by
  unfold State.issueSyncClose
  try dsimp only
  all_goals first | with_reducible rfl | simp only [closeRequest_noticeLaw, setSync_noticeLaw, syncCloseIssued_noticeLaw]
theorem shipCrossing_noticeLaw (s : State) (b : Berth) (t : Ticks) : NoticeLaw (State.shipCrossing s b t) = NoticeLaw s := by
  unfold State.shipCrossing
  try dsimp only
  repeat' split
  all_goals first | with_reducible rfl | simp only [setSync_noticeLaw, issueSyncClose_noticeLaw]
theorem trackCrossing_noticeLaw (s : State) (b : Berth) : NoticeLaw (State.trackCrossing s b) = NoticeLaw s := by
  unfold State.trackCrossing
  try dsimp only
  all_goals first | with_reducible rfl | simp only [setOsc_noticeLaw]
theorem presentCrossing_noticeLaw (s : State) (p : Point) (n : Ext) (t : Ticks) : NoticeLaw (State.presentCrossing s p n t) = NoticeLaw s := by
  unfold State.presentCrossing
  try dsimp only
  repeat' split
  all_goals first | with_reducible rfl | simp only [lockCrossing_noticeLaw, superviseVoltage_noticeLaw, superviseFrequency_noticeLaw, plugCrossing_noticeLaw, trackCrossing_noticeLaw, shipCrossing_noticeLaw]
theorem presentEveryCycle_noticeLaw (s : State) (p : Point) (n : Ext) (substituted : Bool) : NoticeLaw (State.presentEveryCycle s p n substituted) = NoticeLaw s := by
  unfold State.presentEveryCycle
  try dsimp only
  repeat' split
  all_goals first | with_reducible rfl | simp only [substitutedCycle_noticeLaw, superviseCurrent_noticeLaw]

end Sys2Proof.Machine
end

