-- ==== Sys2Proof/Laws/Operations.lean ====
section
/-! SUPPORT. What the shared operations do, said once: the guards that every command stands in, the entry of a session into a state,
the cap, and the execution of a request. -/

namespace Sys2Proof.Machine

set_option Elab.async false

open Sys2Proof

/-! ## The guards -/

@[simp] theorem quiet_quiet (s : State) : s.quiet.quiet = s.quiet := rfl

/-- With nothing due and no request queued, settling changes nothing. -/
theorem settle_eq_self {s : State} (hd : s.due = []) (hr : s.mrh.requests = []) : s.settle = s := by
  simp [State.settle, State.settleDue, State.drainDue, State.drainRequests, hd, hr]

/-- With nothing due, taking what is due changes nothing. -/
theorem settleDue_eq_self {s : State} (hd : s.due = []) : s.settleDue = s := by
  simp [State.settleDue, State.drainDue, hd]

/-- An outside event on a settled part acts on the state as it stands. -/
theorem outside_of_settled {s : State} (h : Settled s) (f : State → State) : s.outside f = f s.quiet := by
  obtain ⟨hh, hd, hr⟩ := h
  have e : s.quiet.settle = s.quiet := settle_eq_self (s := s.quiet) hd hr
  simp [State.outside, hh, e]

/-- A part held in reset does nothing. -/
theorem outside_of_held {s : State} (h : s.resetHeld = true) (f : State → State) : s.outside f = s.quiet := by
  simp [State.outside, h]

/-- A part held in reset does nothing. -/
theorem inside_of_held {s : State} (h : s.resetHeld = true) (f : State → State) : s.inside f = s.quiet := by
  simp [State.inside, h]

/-- Otherwise an event of the part acts on the state as it stands. -/
theorem inside_of_released {s : State} (h : s.resetHeld = false) (f : State → State) : s.inside f = f s.quiet := by
  simp [State.inside, h]

/-- Checks of a second tick that are not due change nothing. -/
theorem takeChecks_eq_self {s : State} {l : List Due} (h : ∀ c ∈ l, c ∉ s.due) : l.foldl State.takeCheck s = s := by
  induction l with
  | nil => rfl
  | cons c l ih => simp_all [State.takeCheck]

/-- An event that is due acts on the state in which it is due no longer. -/
theorem takeIfDue_of_due {s : State} {d : Due} (h : DueNow s d) (first : Bool) :
    s.quiet.takeIfDue first d = (s.without d).runDue first d := by
  have e : (tickChecksBefore d).foldl State.takeCheck s.quiet = s.quiet := takeChecks_eq_self (s := s.quiet) h.2.2
  have hm : d ∈ s.quiet.due := h.2.1
  rw [State.takeIfDue, if_pos hm, e]
  rfl

/-- The command of an event that is due. -/
theorem eventCommand_of_due {s : State} {d : Due} (h : DueNow s d) : s.eventCommand d = (s.without d).runDue false d := by
  rw [State.eventCommand, inside_of_released h.1, takeIfDue_of_due h]

/-- With no timeout due, taking the timeouts changes nothing. -/
theorem takeTimeouts_eq_self {s : State} (h : ∀ p, Due.noCrossingTimeout p ∉ s.due) : s.takeTimeouts = s := by
  have e : ∀ l : List Point, l.foldl State.takeTimeout s = s := by
    intro l
    induction l with
    | nil => rfl
    | cons p l ih => simp [State.takeTimeout, h p, ih]
  exact e _

/-- An event that is not due changes nothing but what was sent in the step before. -/
theorem eventCommand_of_not_due {s : State} {d : Due} (h : d ∉ s.due) : s.eventCommand d = s.quiet := by
  unfold State.eventCommand State.inside State.takeIfDue
  split <;> simp [h]

/-- A frame on a settled part is treated on the state as it stands. -/
theorem frameCommand_of_settled {s : State} (h : Settled s) (o : DeliveryOrder) (k : BitVec 4) (f : Arrival) :
    s.frameCommand o k f = s.quiet.arrive o k f := outside_of_settled h _

/-- A request at the head is executed by its owner. -/
theorem requestCommand_of_head {s : State} {r : Request} {l : List Request} (h : AtHead s r l) {code : Byte} (hc : r.code = code)
    (owner : List Byte → State → State × Answer) : s.requestCommand code owner = s.quiet.execute r owner := by
  obtain ⟨hh, hd, hr⟩ := h
  have e : s.quiet.settleDue = s.quiet := settleDue_eq_self hd
  have hq : s.quiet.mrh.requests = r :: l := hr
  rw [State.requestCommand, inside_of_released hh, e, State.executeCode, hq]
  simp [hc]

/-! ## Requests -/

/-- The head answered, where there is one. -/
theorem answerHead_of_head {s : State} {r : Request} {l : List Request} (h : s.mrh.requests = r :: l) (a : Answer) :
    s.answerHead a = s.answered r l a := by
  simp [State.answerHead, State.answered, responseTo, h]

/-- A request whose length fits is answered as its owner says, on the state its owner leaves. -/
theorem execute_of_fits {s : State} {r : Request} {l : List Request} (hf : lengthFits r = true)
    (owner : List Byte → State → State × Answer) (h : (owner r.args s).1.mrh.requests = r :: l) :
    s.execute r owner = (owner r.args s).1.answered r l (owner r.args s).2 := by
  simp [State.execute, hf, answerHead_of_head h]

/-- A request of the wrong length is refused RANGE. -/
theorem execute_of_misfit {s : State} {r : Request} {l : List Request} (hf : lengthFits r = false)
    (owner : List Byte → State → State × Answer) (h : s.mrh.requests = r :: l) :
    s.execute r owner = s.answered r l (refused .range) := by
  simp [State.execute, hf, answerHead_of_head h]

@[simp] theorem answered_requests (s : State) (r : Request) (l : List Request) (a : Answer) :
    (s.answered r l a).mrh.requests = l := rfl
@[simp] theorem answered_responses (s : State) (r : Request) (l : List Request) (a : Answer) :
    (s.answered r l a).mrh.responses = s.mrh.responses ++ [⟨r.source, r.tag, r.code, a⟩] := rfl
@[simp] theorem answered_session (s : State) (r : Request) (l : List Request) (a : Answer) (b : Berth) :
    (s.answered r l a).session b = s.session b := rfl
@[simp] theorem answered_osc (s : State) (r : Request) (l : List Request) (a : Answer) (b : Berth) :
    (s.answered r l a).osc b = s.osc b := rfl
@[simp] theorem answered_sync (s : State) (r : Request) (l : List Request) (a : Answer) (b : Berth) :
    (s.answered r l a).sync b = s.sync b := rfl
@[simp] theorem answered_superv (s : State) (r : Request) (l : List Request) (a : Answer) (b : Berth) :
    (s.answered r l a).superv b = s.superv b := rfl
@[simp] theorem answered_breaker (s : State) (r : Request) (l : List Request) (a : Answer) (k : Breaker) :
    (s.answered r l a).breaker k = s.breaker k := by cases k <;> rfl
@[simp] theorem answered_module (s : State) (r : Request) (l : List Request) (a : Answer) (m : ModuleId) :
    (s.answered r l a).module m = s.module m := rfl
@[simp] theorem answered_meter (s : State) (r : Request) (l : List Request) (a : Answer) (b : Berth) :
    (s.answered r l a).meter b = s.meter b := rfl
@[simp] theorem answered_mpm (s : State) (r : Request) (l : List Request) (a : Answer) : (s.answered r l a).mpm = s.mpm := rfl
@[simp] theorem answered_ses (s : State) (r : Request) (l : List Request) (a : Answer) : (s.answered r l a).ses = s.ses := rfl
@[simp] theorem answered_bsy (s : State) (r : Request) (l : List Request) (a : Answer) : (s.answered r l a).bsy = s.bsy := rfl
@[simp] theorem answered_ctu (s : State) (r : Request) (l : List Request) (a : Answer) : (s.answered r l a).ctu = s.ctu := rfl
@[simp] theorem answered_mbu (s : State) (r : Request) (l : List Request) (a : Answer) : (s.answered r l a).mbu = s.mbu := rfl
@[simp] theorem answered_cfs (s : State) (r : Request) (l : List Request) (a : Answer) : (s.answered r l a).cfs = s.cfs := rfl
@[simp] theorem answered_rif (s : State) (r : Request) (l : List Request) (a : Answer) : (s.answered r l a).rif = s.rif := rfl
@[simp] theorem answered_mfe (s : State) (r : Request) (l : List Request) (a : Answer) : (s.answered r l a).mfe = s.mfe := rfl
@[simp] theorem answered_rob (s : State) (r : Request) (l : List Request) (a : Answer) : (s.answered r l a).rob = s.rob := rfl

/-! ## The entry of a session into a state (R95) -/

/-- The oscillator bank changes one oscillator at most, and nothing else. -/
theorem oscEntry_eq (s : State) (b : Berth) (st : SessionState) : ∃ o, s.oscEntry b st = s.setOsc b o := by
  unfold State.oscEntry
  split <;> exact ⟨_, rfl⟩

/-- Entering a state writes one session record, one sync record, one oscillator and one supervision record, and nothing else. -/
theorem enterState_eq (s : State) (b : Berth) (st : SessionState) : ∃ o,
    s.enterState b st = (((s.setSession b (sessionAtEntry (s.berthEntry b) st (s.session b))).setSync b
      (syncAtEntry (s.session b).state st (s.sync b))).setOsc b o).setSuperv b (filtersAtEntry st (s.superv b)) := by
  obtain ⟨o, ho⟩ := oscEntry_eq ((s.setSession b (sessionAtEntry (s.berthEntry b) st (s.session b))).setSync b
    (syncAtEntry (s.session b).state st (s.sync b))) b st
  exact ⟨o, by simp [State.enterState, State.supEntry, ho]⟩

@[simp] theorem enterState_session_self (s : State) (b : Berth) (st : SessionState) :
    (s.enterState b st).session b = sessionAtEntry (s.berthEntry b) st (s.session b) := by
  obtain ⟨o, h⟩ := enterState_eq s b st
  simp [h]
@[simp] theorem enterState_session_ne (s : State) {b c : Berth} (st : SessionState) (hc : c ≠ b) :
    (s.enterState b st).session c = s.session c := by
  obtain ⟨o, h⟩ := enterState_eq s b st
  simp [h, hc]
@[simp] theorem enterState_sync_self (s : State) (b : Berth) (st : SessionState) :
    (s.enterState b st).sync b = syncAtEntry (s.session b).state st (s.sync b) := by
  obtain ⟨o, h⟩ := enterState_eq s b st
  simp [h]
@[simp] theorem enterState_sync_ne (s : State) {b c : Berth} (st : SessionState) (hc : c ≠ b) :
    (s.enterState b st).sync c = s.sync c := by
  obtain ⟨o, h⟩ := enterState_eq s b st
  simp [h, hc]
@[simp] theorem enterState_superv_self (s : State) (b : Berth) (st : SessionState) :
    (s.enterState b st).superv b = filtersAtEntry st (s.superv b) := by
  obtain ⟨o, h⟩ := enterState_eq s b st
  simp [h]
@[simp] theorem enterState_superv_ne (s : State) {b c : Berth} (st : SessionState) (hc : c ≠ b) :
    (s.enterState b st).superv c = s.superv c := by
  obtain ⟨o, h⟩ := enterState_eq s b st
  simp [h, hc]
@[simp] theorem enterState_osc_ne (s : State) {b c : Berth} (st : SessionState) (hc : c ≠ b) :
    (s.enterState b st).osc c = s.osc c := by
  obtain ⟨o, h⟩ := enterState_eq s b st
  simp [h, hc]
@[simp] theorem enterState_breaker (s : State) (b : Berth) (st : SessionState) (k : Breaker) :
    (s.enterState b st).breaker k = s.breaker k := by
  obtain ⟨o, h⟩ := enterState_eq s b st
  simp [h]
@[simp] theorem enterState_mpm (s : State) (b : Berth) (st : SessionState) : (s.enterState b st).mpm = s.mpm := by
  obtain ⟨o, h⟩ := enterState_eq s b st
  simp [h]
@[simp] theorem enterState_mbu (s : State) (b : Berth) (st : SessionState) : (s.enterState b st).mbu = s.mbu := by
  obtain ⟨o, h⟩ := enterState_eq s b st
  simp [h]
@[simp] theorem enterState_mrh (s : State) (b : Berth) (st : SessionState) : (s.enterState b st).mrh = s.mrh := by
  obtain ⟨o, h⟩ := enterState_eq s b st
  simp [h]

/-- The oscillator of a session's entry into any state but RESERVING changes its mode (R39). -/
theorem enterState_osc_self (s : State) (b : Berth) (st : SessionState) (h : st ≠ .reserving) :
    (s.enterState b st).osc b = changeMode (s.osc b) (modeFor st) := by
  cases st <;> simp_all [State.enterState, State.oscEntry, State.supEntry]

/-- The oscillator of a session's entry into RESERVING is reinitialised (R40). -/
theorem enterState_osc_reserving (s : State) (b : Berth) :
    (s.enterState b .reserving).osc b = reinitialise ((s.session b).fnom.getD (s.osc b).fnom) := by
  simp [State.enterState, State.oscEntry, State.supEntry, sessionAtEntry]

/-! ## The cap (R104) -/

/-- The record after the cap is formed: the cap, its sum of ratings, and the share brought under it. -/
@[simp] theorem formCap_session_self (s : State) (b : Berth) : (s.formCap b).session b = { s.session b with
    sigma := s.boundRating b, cap := s.boundRating b * (s.berthEntry b).loading.toNat / 100,
    share := min (s.session b).share (s.boundRating b * (s.berthEntry b).loading.toNat / 100) } := by
  simp [State.formCap]
@[simp] theorem formCap_session_ne (s : State) {b c : Berth} (h : c ≠ b) : (s.formCap b).session c = s.session c := by
  simp [State.formCap, h]

/-! ## No-crossing timeouts -/

/-- A no-crossing timeout changes one measurement record, and besides it only what the supervision may change. -/
theorem noCrossing_outer (s : State) (p : Point) : ∃ m : Mfe, outer (s.noCrossing p) = outer { s with mfe := m } := by
  unfold State.noCrossing
  split
  · rename_i i _
    split
    · refine ⟨(s.setMeas p (timeoutRecord (s.nodeEntry i).vfs.toNat (s.pointVnom p) (s.meas p))).mfe, ?_⟩
      rw [superviseVoltage_outer]
      cases p <;> rfl
    · exact ⟨s.mfe, rfl⟩
  · exact ⟨s.mfe, rfl⟩

/-- A due timeout taken changes the list of what is due, one measurement record, and besides them only what the supervision may
change. -/
theorem takeTimeout_outer (s : State) (p : Point) :
    ∃ (m : Mfe) (l : List Due), outer (s.takeTimeout p) = outer { s with mfe := m, due := l } := by
  unfold State.takeTimeout
  split
  · obtain ⟨m, h⟩ := noCrossing_outer { s with due := s.due.erase (.noCrossingTimeout p) } p
    exact ⟨m, _, h⟩
  · exact ⟨s.mfe, s.due, rfl⟩

/-- All due timeouts taken change what is due, the measurement records, and besides them only what the supervision may change. -/
theorem takeTimeouts_outer (s : State) : ∃ (m : Mfe) (l : List Due), outer s.takeTimeouts = outer { s with mfe := m, due := l } := by
  have h : ∀ (ps : List Point) (s : State),
      ∃ (m : Mfe) (l : List Due), outer (ps.foldl State.takeTimeout s) = outer { s with mfe := m, due := l } := by
    intro ps
    induction ps with
    | nil => exact fun s => ⟨s.mfe, s.due, rfl⟩
    | cons p ps ih =>
      intro s
      obtain ⟨m, l, h1⟩ := ih (s.takeTimeout p)
      obtain ⟨n, k, h2⟩ := takeTimeout_outer s p
      refine ⟨m, l, h1.trans ?_⟩
      exact congrArg (fun x : State => { x with mfe := m, due := l }) h2
  exact h _ s

@[simp] theorem takeTimeouts_pending (s : State) : s.takeTimeouts.pending = s.pending := by
  obtain ⟨m, l, h⟩ := takeTimeouts_outer s
  exact pending_of_outer (s := { s with mfe := m, due := l }) h
@[simp] theorem takeTimeouts_resetHeld (s : State) : s.takeTimeouts.resetHeld = s.resetHeld := by
  obtain ⟨m, l, h⟩ := takeTimeouts_outer s
  exact resetHeld_of_outer (s := { s with mfe := m, due := l }) h
@[simp] theorem takeTimeouts_ringOut (s : State) : s.takeTimeouts.ringOut = s.ringOut := by
  obtain ⟨m, l, h⟩ := takeTimeouts_outer s
  exact ringOut_of_outer (s := { s with mfe := m, due := l }) h
@[simp] theorem takeTimeouts_rif (s : State) : s.takeTimeouts.rif = s.rif := by
  obtain ⟨m, l, h⟩ := takeTimeouts_outer s
  exact rif_of_outer (s := { s with mfe := m, due := l }) h
@[simp] theorem takeTimeouts_ctu (s : State) : s.takeTimeouts.ctu = s.ctu := by
  obtain ⟨m, l, h⟩ := takeTimeouts_outer s
  exact ctu_of_outer (s := { s with mfe := m, due := l }) h
@[simp] theorem takeTimeouts_cfs (s : State) : s.takeTimeouts.cfs = s.cfs := by
  obtain ⟨m, l, h⟩ := takeTimeouts_outer s
  exact cfs_of_outer (s := { s with mfe := m, due := l }) h

/-! ## Health records reset (R13) -/

/-- A repair write resets the one record and keeps it from being counted at the next boundary. -/
theorem renewHealth_health (s : State) (n i : NodeIx) : (s.renewHealth n).health i = if i = n then Health.reset else s.health i := by
  rw [← setHealth_health_eq]
  rfl
theorem renewHealth_fresh (s : State) (n i : NodeIx) :
    vget (s.renewHealth n).rif.fresh i = if i = n then true else vget s.rif.fresh i := vget_vset s.rif.fresh n i true
@[simp] theorem renewHealth_taken (s : State) (n : NodeIx) : (s.renewHealth n).rif.taken = s.rif.taken := rfl
@[simp] theorem renewHealth_mrh (s : State) (n : NodeIx) : (s.renewHealth n).mrh = s.mrh := rfl
@[simp] theorem renewHealth_mfe (s : State) (n : NodeIx) : (s.renewHealth n).mfe = s.mfe := rfl
@[simp] theorem renewHealth_ses (s : State) (n : NodeIx) : (s.renewHealth n).ses = s.ses := rfl
@[simp] theorem renewHealth_cfs (s : State) (n : NodeIx) : (s.renewHealth n).cfs = s.cfs := rfl

/-- A change of mode resets every record; what was delivered in the running cycle stays noted. -/
@[simp] theorem resetHealth_health (s : State) (i : NodeIx) : s.resetHealth.health i = Health.reset :=
  vget_replicate Health.reset i
@[simp] theorem resetHealth_fresh (s : State) (i : NodeIx) : vget s.resetHealth.rif.fresh i = false := vget_replicate false i
@[simp] theorem resetHealth_taken (s : State) : s.resetHealth.rif.taken = s.rif.taken := rfl

/-! ## The clamp (R38) -/

/-- A clamped value of a nominal frequency lies in the clamp range. -/
theorem clampFreq_mem {fnom : Nat} (h : NominalOk fnom) (f : Nat) :
    clampLow fnom ≤ clampFreq fnom f ∧ clampFreq fnom f ≤ clampHigh fnom := by
  unfold clampFreq clampLow clampHigh
  rcases h with rfl | rfl <;> simp <;> split <;> (try split) <;> omega

/-- The clamp as bounds from below and above. -/
theorem clampFreq_eq (fnom f : Nat) : clampFreq fnom f = max (fnom - fnom / 50) (min (fnom + fnom / 50) f) := by
  unfold clampFreq clampLow clampHigh
  split <;> (try split) <;> omega

/-- A new setpoint leaves the record within the clamp law. -/
theorem setSetpoint_ok {o : Osc} (h : NominalOk o.fnom) (f : Nat) : OscOk (setSetpoint o f) := by
  unfold OscOk setSetpoint
  exact ⟨h, (clampFreq_mem h f).1, (clampFreq_mem h f).2, Eq.refl (incrementOf (clampFreq o.fnom f))⟩

/-- A reinitialised oscillator is within the clamp law. -/
theorem reinitialise_ok {f : Nat} (h : NominalOk f) : OscOk (reinitialise f) := by
  unfold OscOk reinitialise
  refine ⟨h, ?_, ?_, Eq.refl (incrementOf f)⟩ <;> rcases h with rfl | rfl <;> simp [clampLow, clampHigh]

/-- A change of mode keeps the clamp law. -/
theorem changeMode_ok {o : Osc} (h : OscOk o) (m : OscMode) : OscOk (changeMode o m) := by
  unfold changeMode
  split <;> exact h

/-! ## Judged filters (R125 to R128) -/

/-- A passing judgement clears count and mark. -/
@[simp] theorem judge_passes (n : Nat) (f : Filter) : judge n false f = (Filter.clear, false) := rfl

/-- A failing judgement that takes no fault raises the count up to the limit. -/
theorem judge_raises {n : Nat} {f : Filter} (h : f.raised = true ∨ f.count + 1 < n) :
    judge n true f = (⟨min n (f.count + 1), f.raised⟩, false) := by
  unfold judge filterFails
  rcases h with h | h
  · simp [h]
  · simp [show ¬ (n ≤ f.count + 1) by omega]

/-- A failing judgement that reaches the limit with the mark clear sets the mark and takes a fault. -/
theorem judge_takes {n : Nat} {f : Filter} (h : f.raised = false) (hn : n ≤ f.count + 1) :
    judge n true f = (⟨n, true⟩, true) := by
  unfold judge filterFails
  simp [h, hn]

/-! ## Protection opens (R70) -/

/-- An open in force is kept. -/
theorem protect_kept {s : State} {m : ModuleId} (h : (s.module m).op = .open ∨ (s.module m).op = .protectionOpen) :
    s.protect m = s := by
  unfold State.protect
  simp [h]

/-- A CLOSE in force, or nothing in force with the breaker not open, makes a PROTECTION_OPEN. -/
theorem protect_issues {s : State} {m : ModuleId}
    (h : (s.module m).op = .close ∨ (s.module m).op = .none ∧ (s.module m).breaker ≠ .open) : s.protect m = s.issueProtection m := by
  unfold State.protect
  rcases h with h | ⟨h, hb⟩ <;> simp [*]

/-- Nothing in force with the breaker open needs none. -/
theorem protect_needless {s : State} {m : ModuleId} (h : (s.module m).op = .none) (hb : (s.module m).breaker = .open) :
    s.protect m = s := by
  unfold State.protect
  simp [h, hb]

end Sys2Proof.Machine
end

