-- ==== Sys2Proof/Laws/PerInstr.lean ====
section
/-! SUPPORT. The statement made for every command, one lemma for each constructor: a command is well formed exactly when the frame it
carries, if it carries one, has been received whole (R1). -/

namespace Sys2Proof.Laws.Arrivals

set_option Elab.async false

open Sys2Proof

/-- The frame that a command carries. -/
def arrivalOf (i : Instr) : Option Arrival :=
  match i with
  | .cycReturn f => some f
  | .ownFrameReturn _ f => some f
  | .foreignFrame _ f => some f
  | .corruptFrame _ f => some f
  | .smpDelivery f => some f
  | .modDelivery _ f => some f
  | .brkDelivery _ f => some f
  | .siuDelivery _ f => some f
  | .requestFrame f => some f
  | .resetAssert => none
  | .resetRelease => none
  | .cycleBoundary _ => none
  | .nodeLost _ => none
  | .nodeRecovered _ => none
  | .ringDown => none
  | .ringUp => none
  | .noCrossingTimeout _ => none
  | .measurementSecondEnd _ => none
  | .freeStep _ => none
  | .holdoverEntry _ => none
  | .moduleStartLimit _ => none
  | .moduleOperateLimit _ => none
  | .cooldownEnd _ => none
  | .switchingIssue => none
  | .breakerOperateLimit _ => none
  | .pbCloseRetry _ => none
  | .stageLimitExpiry _ => none
  | .settleEnd _ => none
  | .rampStep _ => none
  | .blankEnd _ => none
  | .restartDue _ => none
  | .restart _ => none
  | .secondTick => none
  | .tariffActivation => none
  | .demandBlockEnd => none
  | .heldOverApply _ => none
  | .configTimeout => none
  | .scrubRead => none
  | .readTableEntry => none
  | .writeTableEntry => none
  | .commit => none
  | .enterConfiguration => none
  | .setClock => none
  | .writeTariffEntry => none
  | .activateTariff => none
  | .cancelActivation => none
  | .openSession => none
  | .handoverIn => none
  | .abortHandover => none
  | .handoverOut => none
  | .closeSession => none
  | .abortSession => none
  | .clearFault => none
  | .blockModule => none
  | .unblockModule => none
  | .markBreaker => none
  | .readBilling => none
  | .releaseBilling => none
  | .readMeter => none
  | .ringSurvey => none
  | .readStatus => none
  | .readEvents => none
  | .clearEvents => none
  | .setEventMask => none
  | .firstCycleFrame => none

/-- A command is well formed exactly when the frame it carries has been received whole. -/
def Statement (i : Instr) : Prop := i.wellFormed = true ↔ ∀ f, arrivalOf i = some f → f.body.length = f.length.toNat

/-- A command without a frame is well formed. -/
theorem of_none {i : Instr} (hw : i.wellFormed = true) (ha : arrivalOf i = none) : Statement i :=
  iff_of_true hw (fun f h => by rw [ha] at h; cases h)

/-- A command with a frame is well formed when its frame has been received whole. -/
theorem of_some {i : Instr} {f : Arrival} (hw : i.wellFormed = f.whole) (ha : arrivalOf i = some f) : Statement i := by
  unfold Statement
  rw [hw, ha]
  simp [Arrival.whole]

theorem resetAssert : Statement .resetAssert := of_none rfl rfl
theorem resetRelease : Statement .resetRelease := of_none rfl rfl
theorem cycleBoundary (deferEmission : Bool) : Statement (.cycleBoundary deferEmission) := of_none rfl rfl
theorem nodeLost (n : NodeIx) : Statement (.nodeLost n) := of_none rfl rfl
theorem nodeRecovered (n : NodeIx) : Statement (.nodeRecovered n) := of_none rfl rfl
theorem ringDown : Statement .ringDown := of_none rfl rfl
theorem ringUp : Statement .ringUp := of_none rfl rfl
theorem cycReturn (f : Arrival) : Statement (.cycReturn f) := of_some rfl rfl
theorem ownFrameReturn (k : OwnKind) (f : Arrival) : Statement (.ownFrameReturn k f) := of_some rfl rfl
theorem foreignFrame (k : BitVec 3) (f : Arrival) : Statement (.foreignFrame k f) := of_some rfl rfl
theorem corruptFrame (k : BitVec 3) (f : Arrival) : Statement (.corruptFrame k f) := of_some rfl rfl
theorem smpDelivery (f : Arrival) : Statement (.smpDelivery f) := of_some rfl rfl
theorem modDelivery (o : DeliveryOrder) (f : Arrival) : Statement (.modDelivery o f) := of_some rfl rfl
theorem brkDelivery (o : DeliveryOrder) (f : Arrival) : Statement (.brkDelivery o f) := of_some rfl rfl
theorem siuDelivery (o : DeliveryOrder) (f : Arrival) : Statement (.siuDelivery o f) := of_some rfl rfl
theorem noCrossingTimeout (p : Point) : Statement (.noCrossingTimeout p) := of_none rfl rfl
theorem measurementSecondEnd (refreshFirst : Bool) : Statement (.measurementSecondEnd refreshFirst) := of_none rfl rfl
theorem freeStep (b : Berth) : Statement (.freeStep b) := of_none rfl rfl
theorem holdoverEntry (b : Berth) : Statement (.holdoverEntry b) := of_none rfl rfl
theorem moduleStartLimit (m : ModuleId) : Statement (.moduleStartLimit m) := of_none rfl rfl
theorem moduleOperateLimit (m : ModuleId) : Statement (.moduleOperateLimit m) := of_none rfl rfl
theorem cooldownEnd (m : ModuleId) : Statement (.cooldownEnd m) := of_none rfl rfl
theorem switchingIssue : Statement .switchingIssue := of_none rfl rfl
theorem breakerOperateLimit (k : Breaker) : Statement (.breakerOperateLimit k) := of_none rfl rfl
theorem pbCloseRetry (b : Berth) : Statement (.pbCloseRetry b) := of_none rfl rfl
theorem stageLimitExpiry (b : Berth) : Statement (.stageLimitExpiry b) := of_none rfl rfl
theorem settleEnd (b : Berth) : Statement (.settleEnd b) := of_none rfl rfl
theorem rampStep (b : Berth) : Statement (.rampStep b) := of_none rfl rfl
theorem blankEnd (b : Berth) : Statement (.blankEnd b) := of_none rfl rfl
theorem restartDue (b : Berth) : Statement (.restartDue b) := of_none rfl rfl
theorem restart (b : Berth) : Statement (.restart b) := of_none rfl rfl
theorem secondTick : Statement .secondTick := of_none rfl rfl
theorem tariffActivation : Statement .tariffActivation := of_none rfl rfl
theorem demandBlockEnd : Statement .demandBlockEnd := of_none rfl rfl
theorem heldOverApply (b : Berth) : Statement (.heldOverApply b) := of_none rfl rfl
theorem configTimeout : Statement .configTimeout := of_none rfl rfl
theorem scrubRead : Statement .scrubRead := of_none rfl rfl
theorem requestFrame (f : Arrival) : Statement (.requestFrame f) := of_some rfl rfl
theorem readTableEntry : Statement .readTableEntry := of_none rfl rfl
theorem writeTableEntry : Statement .writeTableEntry := of_none rfl rfl
theorem commit : Statement .commit := of_none rfl rfl
theorem enterConfiguration : Statement .enterConfiguration := of_none rfl rfl
theorem setClock : Statement .setClock := of_none rfl rfl
theorem writeTariffEntry : Statement .writeTariffEntry := of_none rfl rfl
theorem activateTariff : Statement .activateTariff := of_none rfl rfl
theorem cancelActivation : Statement .cancelActivation := of_none rfl rfl
theorem openSession : Statement .openSession := of_none rfl rfl
theorem handoverIn : Statement .handoverIn := of_none rfl rfl
theorem abortHandover : Statement .abortHandover := of_none rfl rfl
theorem handoverOut : Statement .handoverOut := of_none rfl rfl
theorem closeSession : Statement .closeSession := of_none rfl rfl
theorem abortSession : Statement .abortSession := of_none rfl rfl
theorem clearFault : Statement .clearFault := of_none rfl rfl
theorem blockModule : Statement .blockModule := of_none rfl rfl
theorem unblockModule : Statement .unblockModule := of_none rfl rfl
theorem markBreaker : Statement .markBreaker := of_none rfl rfl
theorem readBilling : Statement .readBilling := of_none rfl rfl
theorem releaseBilling : Statement .releaseBilling := of_none rfl rfl
theorem readMeter : Statement .readMeter := of_none rfl rfl
theorem ringSurvey : Statement .ringSurvey := of_none rfl rfl
theorem readStatus : Statement .readStatus := of_none rfl rfl
theorem readEvents : Statement .readEvents := of_none rfl rfl
theorem clearEvents : Statement .clearEvents := of_none rfl rfl
theorem setEventMask : Statement .setEventMask := of_none rfl rfl
theorem firstCycleFrame : Statement .firstCycleFrame := of_none rfl rfl

end Sys2Proof.Laws.Arrivals
end

