-- ==== Sys2Proof/Tests/Slice0.lean ====
section
/-! SUPPORT. Tests of single steps and operations on fixed values, each expected value taken from the spec's own worked examples and
tables or worked by hand from its rules; the smoke test of the well-formedness check; and for every statement with hypotheses a
concrete state and operands that meet them. -/

namespace Sys2Proof.Tests

set_option Elab.async false

open Sys2Proof Sys2Proof.Machine

/-! ## Helpers -/

/-- A frame as it arrives, received whole with a good CRC. -/
def goodArrival (k : FrameKind) (dest source : Byte) (cycle : BitVec 16) (body : List Byte) : Arrival :=
  let a : Arrival :=
    { dest := dest, source := source, kindHigh := 0, length := BitVec.ofNat 16 body.length, cycle := cycle, body := body, crc := 0 }
  { a with crc := frameCrc (arrivalFrame (nibbleOf k) a) }

/-- A frame cut short: its length field names more bytes than came. -/
def cutShort : Arrival := { dest := 0, source := 3, kindHigh := 0, length := 12, cycle := 0, body := [1, 2, 3], crc := 0 }

/-- A Node entry with a role and a target. -/
def nodeEntryOf (role target : Byte) : NodeEntry := { NodeEntry.reset with role := role, target := target }

/-- Tables with a station controller at address 1 and the nodes of berth 0 and of module 0 at addresses 2 to 5. -/
def someTables : Tables :=
  { Tables.reset with
    node := vset (vset (vset (vset (vset Tables.reset.node 0 (nodeEntryOf 1 0)) 1 (nodeEntryOf 2 0)) 2 (nodeEntryOf 4 0))
      3 (nodeEntryOf 5 0)) 4 (nodeEntryOf 6 0)
    berth := vset Tables.reset.berth 0 { BerthEntry.reset with enabled := 1 }
    module := vset Tables.reset.module 0 { ModuleEntry.reset with enabled := 1 } }

/-- The part in OPERATE in a running cycle. -/
def live : State :=
  { State.reset with
    rif := { State.reset.rif with started := true, cycleOperate := true }
    cfs := { State.reset.cfs with tables := someTables, mode := .operate, walker := { State.reset.cfs.walker with state := .running } } }

/-- The part in CONFIG in a running cycle. -/
def configured : State := { live with cfs := { live.cfs with mode := .config } }

/-- The part with its configuration invalid. -/
def invalidated : State := { live with cfs := { live.cfs with invalid := true } }

/-- A state with one event due. -/
def withDue (s : State) (d : Due) : State := { s with due := [d] }

/-- The request that the helpers queue. -/
def requestWith (code : Byte) (args : List Byte) : Request := ⟨1, 7, code, args⟩

/-- A state with one request at the head. -/
def withHead (s : State) (code : Byte) (args : List Byte) : State :=
  { s with mrh := { s.mrh with requests := [requestWith code args] } }

/-- Berth 0's session in a state. -/
def inState (s : State) (st : SessionState) : State := s.setSession 0 { s.session 0 with state := st }

/-- Module 0 in a state for berth 0. -/
def moduleIn (s : State) (st : ModuleState) : State := s.setModule 0 { s.module 0 with state := st, berth := some 0 }

/-- Berth 0 in ENERGISING with its alignment collecting: a bus of 81,920 ticks that crossed at 81,920, a sound plug. -/
def aligning (collected : Nat) (first sum : Int) : State :=
  let s1 := (live.setSession 0 { live.session 0 with state := .energising }).setSync 0
    { SyncRecord.reset with alignment := .collecting, collected := collected, firstAngle := first, angleSum := sum }
  (s1.setMeas (.bus 0) { MeasRecord.reset with stale := false, period := 81920, lastCross := ⟨some 81920, none, none⟩ }).setMeas (.plug 0)
    { MeasRecord.reset with rotation := .ok, pointPermille := some 1004 }

/-- Berth 0 armed in SHORE with a peak current above its limit and an overcurrent filter as given. -/
def overloaded (count : Nat) (raised : Bool) : State :=
  let s1 := live.setSession 0 { live.session 0 with state := .shore }
  (s1.setMeas (.bus 0) { MeasRecord.reset with peak := 65536 }).setSuperv 0
    { Supervision.reset with armed := true, overcurrent := ⟨count, raised⟩ }

/-- The state a command leaves. -/
def after (o : Host.Outcome State Fault Refusal) : State :=
  match o with
  | .next t => t
  | _ => State.reset

/-! ## Well-formed commands -/

theorem test_wellFormed_refuses_cut_short :
    (Instr.cycReturn cutShort).wellFormed = false ∧ (Instr.ownFrameReturn .mrs cutShort).wellFormed = false
      ∧ (Instr.foreignFrame 0 cutShort).wellFormed = false ∧ (Instr.corruptFrame 0 cutShort).wellFormed = false
      ∧ (Instr.smpDelivery cutShort).wellFormed = false ∧ (Instr.modDelivery plainOrder cutShort).wellFormed = false
      ∧ (Instr.brkDelivery plainOrder cutShort).wellFormed = false ∧ (Instr.siuDelivery plainOrder cutShort).wellFormed = false
      ∧ (Instr.requestFrame cutShort).wellFormed = false := by decide

theorem test_wellFormed_accepts_whole : (Instr.smpDelivery { cutShort with length := 3 }).wellFormed = true := by decide

/-! ## CRC, codes and images (12: check values of R192 and R194) -/

/-- The bytes of "123456789". -/
def checkBytes : List Byte := [0x31, 0x32, 0x33, 0x34, 0x35, 0x36, 0x37, 0x38, 0x39]

theorem test_crc16_check_value : crc16 checkBytes = 0xAEE7 := by decide +kernel

theorem test_crc32_check_value : ~~~ crc32Fold crc32Init checkBytes = 0xFC891918 := by decide +kernel

theorem test_int_of_bytes : intOf [0x80, 0x00] = -32768 ∧ intOf [0xFF, 0xFF] = -1 ∧ intOf [0x7F, 0xFF] = 32767 := by decide

theorem test_bytes_of_int : bytesOfInt 8 (-1) = List.replicate 8 0xFF ∧ bytesOfInt 2 (-100) = [0xFF, 0x9C] := by decide +kernel

theorem test_entry_order : allEntries.length = 65 ∧ allEntries[64]? = some (.reaction 12) ∧ allEntries[32]? = some (.berth 0) := by
  decide

theorem test_image_sizes :
    (stationImage StationEntry.reset).length = 14 ∧ (nodeImage NodeEntry.reset).length = 8
      ∧ (berthImage BerthEntry.reset).length = 45 ∧ (moduleImage ModuleEntry.reset).length = 5
      ∧ (breakerImage BreakerEntry.reset).length = 11 := by decide

theorem test_undefined_codes_read_as_said :
    statusOf 9 = .fault ∧ reportedOf 7 = .fault ∧ selectorOf 5 = .unmatched ∧ readyOf 2 = false ∧ offsetOf 255 = 249
      ∧ shipOf .genOff 5 = .genOff := by decide

/-! ## Measurement (02) -/

theorem test_square_roots : isqrt 0 = 0 ∧ isqrt 15 = 3 ∧ isqrt 16 = 4 ∧ isqrt 1073676289 = 32767 := by decide +kernel

theorem test_crossing_at_zero_previous : crossingTime 5 100 0 = 4096 := by decide +kernel

theorem test_crossing_midway : crossingTime 5 100 (-100) = 4608 := by decide +kernel

theorem test_frequency_of_nominal_periods : frequencyOf 81920 = 50000 ∧ frequencyOf 58514 = 70000 ∧ frequencyOf 102400 = 40000 := by
  decide +kernel

theorem test_invalid_sample_replaced : substitute 7 (-32768) = 7 ∧ substitute 7 (-32767) = -32767 := by decide

theorem test_mirrored_channels : condition true ⟨1, 2, 3⟩ = (⟨1, 3, 2⟩ : Tri Int) := by decide

/-! ## Oscillators (03) -/

theorem test_increment_of_reset : incrementOf 50000 = 53687091 ∧ reportedFrequency 53687091 = 50000 := by decide +kernel

theorem test_clamp : clampFreq 50000 1 = 49000 ∧ clampFreq 50000 60000 = 51000 ∧ clampFreq 60000 61000 = 61000 := by decide

theorem test_free_step_down : (freeStepOsc { Osc.reset with fset := 50004 }).fset = 50000 := by decide +kernel

theorem test_entering_lock_clears_watchdog : (changeMode { Osc.reset with watchdog := 9, holdover := true } .lock).watchdog = 0 := by
  decide

/-! ## Pool, breakers, sessions, supervision -/

theorem test_pick_prefers_fuller_group :
    ({ live with cfs := { live.cfs with tables := { someTables with
      module := vset (vset someTables.module 4 { ModuleEntry.reset with enabled := 1 }) 5 { ModuleEntry.reset with enabled := 1 } } } }
      : State).pick 0 = some 4 := by decide +kernel

theorem test_pick_tie_takes_group_a :
    ({ live with cfs := { live.cfs with tables := { someTables with
      module := vset someTables.module 4 { ModuleEntry.reset with enabled := 1 } } } } : State).pick 0 = some 0 := by decide +kernel

theorem test_health_counter : healthCounter 8 ⟨7, false, false⟩ = 8 ∧ healthCounter 8 ⟨0, false, true⟩ = 0 := by decide

theorem test_measured_close_time : measuredTime 344 0 120 = 85870 := by decide +kernel

theorem test_angle_folds : foldAngle 18000 = -18000 ∧ foldAngle (-18001) = 17999 ∧ foldAngle 36000 = 0 := by decide

theorem test_ramp_step_size : stepSize 500 = 50 ∧ stepSize 10 = 1 ∧ stepSize 5 = 1 := by decide

theorem test_severity_rises : severity .warn < severity .restart ∧ severity .restart < severity .error
    ∧ severity .error < severity .latched := by decide

theorem test_hold_thresholds : holdAfter 12 false = true ∧ holdAfter 11 true = true ∧ holdAfter 11 false = false
    ∧ holdAfter 4 true = false ∧ holdAfter 5 true = true := by decide

/-! ## Clock, tariffs, billing -/

theorem test_day_change : nextSecond ⟨65535, 86399, 6⟩ = ⟨0, 0, 0⟩ ∧ nextSecond ⟨3, 86398, 2⟩ = ⟨3, 86399, 2⟩ := by decide

theorem test_charge_carries : (importInto 3 400000 (newEntry 1 400000 true)).charge = 1
    ∧ (importInto 3 400000 (newEntry 1 400000 true)).carry = 200000 := by decide

theorem test_empty_table_has_a_gap : tariffFault (Vector.replicate 16 none) = some (.gap 0) := by decide

/-! ## The spec's worked examples -/

/-- 02: a crossing, its period and frequency. -/
theorem test_worked_crossing : crossingTime 1080 1500 (-1500) = 1105408 ∧ crossingTime 1000 2400 (-1200) = 1023318
    ∧ periodValid 82090 = true ∧ frequencyOf 82090 = 49896 ∧ rotationOf 81920 27360 = .ok := by decide +kernel

/-- 02: the RMS figures of the same window. -/
theorem test_worked_rms :
    let r := computeRms 9000 (some 10000) { MeasRecord.reset with window := ⟨triOf 36000000000, 80⟩ }
    r.rms = triOf 5826 ∧ r.pointRms = 5826 ∧ r.lineVolts = 10091 ∧ r.permille = triOf (some 1009) ∧ r.pointPermille = some 1009 := by
  decide +kernel

/-- 02: one measurement second at B. -/
theorem test_worked_second :
    let r := closeSecond (some { NodeEntry.reset with vfs := 20000, ifs := 2000 })
      { MeasRecord.reset with acc := 1500000000000, tally := 4000, substTally := 4 }
    r.rawSum = 1500000000000 ∧ r.lastPower = 13970 ∧ r.lastSubst = 4 ∧ r.acc = 0 ∧ r.tally = 0 := by decide +kernel

/-- 03: one lock correction. -/
theorem test_worked_lock_correction :
    let o := lockCorrection 20000 20479700 60010
      { Osc.reset with phase := 120000000, k := incrementOf 60050, fset := 60050, fnom := 60000, mode := .lock, watchdog := 3 }
    incrementOf 60050 = 64478197 ∧ o.phase = 113680631 ∧ o.k = 64435247 ∧ o.fset = 60010 ∧ o.watchdog = 0
      ∧ o.phase + o.k = 178115878 := by decide +kernel

/-- 05: the angle of a counted crossing, the mean of eight, and an angle near half a turn that does not average to zero. -/
theorem test_worked_alignment :
    (addAngle 81920 1393 SyncRecord.reset).firstAngle = 612 ∧ meanAngle { SyncRecord.reset with angleSum := 4840 } = 605
      ∧ (17950 : Int) + foldAngle (-17980 - 17950) = 18020 := by decide +kernel

/-- 05: the sync evaluation's angles and the measured close time. -/
theorem test_worked_sync : advanceAngle 120 85250 = 368 ∧ advanceAngle 120 85370 = 369 ∧ syncAngle 80965 81920 = -420
    ∧ foldAngle (-420 + 368) = -52 ∧ measuredTime 100341 100000 120 = 85120 := by decide +kernel

/-- The berth of the split example: modules 1 and 5 at 2,000 kVA and module 2 at 1,500 kVA, BOUND, at 1,237 kW. -/
def splitState : State :=
  let t : Tables :=
    { someTables with module := vset (vset (vset someTables.module 1 { ModuleEntry.reset with enabled := 1, rating := 2000 }) 5
      { ModuleEntry.reset with enabled := 1, rating := 2000 }) 2 { ModuleEntry.reset with enabled := 1, rating := 1500 } }
  let s : State := { live with cfs := { live.cfs with tables := t } }
  let held (s : State) (m : ModuleId) : State := s.setModule m { s.module m with state := .bound, berth := some 2 }
  let s1 := held (held (held s 1) 2) 5
  (s1.setSession 2 { s1.session 2 with state := .rampIn, share := 1237 }).formCap 2

/-- 06: the split over three modules. -/
theorem test_worked_split : (splitState.session 2).cap = 5225 ∧ splitState.powerSetpoint 1 = 451 ∧ splitState.powerSetpoint 2 = 337
    ∧ splitState.powerSetpoint 5 = 449 := by decide +kernel

/-- 09: three seconds at berth 2. -/
theorem test_worked_energy :
    let m0 : Meter :=
      { Meter.reset with running := true, price := 2350, record := some (openedRecord none none zeroTime (newEntry 2 2350 true) false false) }
    let a := accrueSecond 1500000000000 20000 2000 m0
    let b := accrueSecond 1500000000000 20000 2000 a.1
    let c := accrueSecond (-20000000000) 20000 2000 b.1
    (a.2.1, a.1.importRem, a.1.record.map (fun r => r.entries.map (fun e => (e.charge, e.carry))))
        = (3880747, 9059886484800, some [(9119, 755450)])
      ∧ (b.2.1, b.1.importRem, b.1.record.map (fun r => r.entries.map (fun e => (e.charge, e.carry))))
        = (3880748, 2658834408000, some [(18239, 513250)])
      ∧ (c.2.1, c.1.exportRem, c.1.importRem, c.1.importReg, c.1.exportReg)
        = (51743, 4656007131200, 2658834408000, 7761495, 51743) := by decide +kernel

/-- 08: the table of "a day under one tariff". -/
def dayTable : Vector (Option TariffEntry) 16 :=
  vset (vset (vset (vset (Vector.replicate 16 none) 0 (some ⟨1, 127, 0, 1800⟩)) 1 (some ⟨2, 31, 420, 2350⟩)) 2
    (some ⟨1, 31, 1320, 1800⟩)) 3 (some ⟨3, 96, 600, 2000⟩)

/-- 08: the bands of that day, and that the table is valid. -/
theorem test_worked_tariff_day :
    bandOf dayTable ⟨12, 79199, 4⟩ = ⟨2, 2350, some 1, true⟩ ∧ bandOf dayTable ⟨12, 79200, 4⟩ = ⟨1, 1800, some 2, true⟩
      ∧ bandOf dayTable ⟨13, 0, 5⟩ = ⟨1, 1800, some 0, true⟩ ∧ bandOf dayTable ⟨13, 36000, 5⟩ = ⟨3, 2000, some 3, true⟩
      ∧ tariffFault dayTable = none ∧ tariffFault (vset dayTable 0 (some ⟨1, 63, 0, 1900⟩)) = some (.gap 6) := by decide +kernel

/-- 08: the clock set that activates. -/
theorem test_worked_clock_set :
    let t : Vector (Option TariffEntry) 16 :=
      vset (vset (vset (Vector.replicate 16 none) 0 (some ⟨1, 127, 0, 1900⟩)) 1 (some ⟨2, 31, 420, 2500⟩)) 2 (some ⟨3, 32, 600, 2100⟩)
    let s : State := { live with ctu := { live.ctu with
      time := ⟨13, 3600, 5⟩, active := dayTable, pendingTable := t, activation := some (13, 36000) } }
    let u := after (exec .setClock (withHead s 5 [0, 13, 0, 0x9C, 0x40, 5]))
    u.ctu.time = ⟨13, 40000, 5⟩ ∧ u.ctu.band = ⟨3, 2100, some 2, true⟩ ∧ u.ctu.activation = none ∧ u.ctu.block = ⟨⟨13, 40000, 5⟩, 0⟩
      ∧ u.ctu.clockUnset = false := by decide +kernel

/-- 09: the release of the full ring's example, with a ring of one record standing for its oldest. -/
theorem test_worked_release :
    let e (band price imp charge : Nat) : BandEntry := ⟨band, price, imp, 0, charge, 0, true⟩
    let o : OpenRecord :=
      { session := some 4, account := none, openedAt := ⟨12, 50000, 4⟩, peakDemand := 9, substituted := 2, gap := 1, mixed := false,
        unverified := false, clockUnset := false, noTariff := false,
        entries := [e 2 2350 41250000000 96937500, e 1 1800 12600000000 22680000, e 1 1800 3150000000 5670000] }
    let d : Deferral := ⟨.bandChange, ⟨12, 79200, 4⟩, some false, 1, none⟩
    let c : ClosedRecord :=
      { number := 201, session := some 3, berth := 1, account := none, openedAt := zeroTime, closedAt := zeroTime,
        reason := .sessionEnd, entries := [], peakDemand := 0, substituted := 0, gap := 0, mixed := false, unverified := false,
        clockUnset := false, noTariff := false }
    let s0 : State := { live with ctu := { live.ctu with time := ⟨13, 1800, 5⟩ }, mbu := { live.mbu with
      ring := [c], queue := [2], nextRecord := 265 } }
    let s := s0.setMeter 2 { Meter.reset with running := true, record := some o, deferral := some d, session := some 4 }
    let u := after (exec .releaseBilling (withHead s 20 [0, 0, 0, 201]))
    u.mbu.ring.map (fun k => (k.number, k.closedAt, k.reason, k.entries.map (·.charge), k.peakDemand))
        = [(265, ⟨13, 1800, 5⟩, .bandChange, [96937500], 9)]
      ∧ u.mbu.queue = [] ∧ (u.meter 2).deferral = none
      ∧ (u.meter 2).record.map (fun r => (r.openedAt, r.entries.map (·.charge), r.substituted))
        = some (⟨12, 79200, 4⟩, [22680000, 5670000], 0) := by decide +kernel

/-! ## Steps -/

theorem test_step_idles : (after (step State.reset)).pending = [] := by decide

theorem test_reset_release_keeps_the_queue :
    (after (exec .resetRelease { live with pending := [.ringUp] })).pending = [.ringUp]
      ∧ (after (exec .resetRelease { live with pending := [.ringUp] })).rif.started = false := by decide +kernel

theorem test_boundary_wraps :
    (after (exec (.cycleBoundary true) { live with rif := { live.rif with cycle := 65535, ext := 4194303 } })).rif.ext = 0
      ∧ (after (exec (.cycleBoundary true) { live with rif := { live.rif with cycle := 65535, ext := 4194303 } })).rif.cycle = 0 := by
  decide +kernel

theorem test_cut_short_not_forwarded : (after (exec (.smpDelivery cutShort) live)).ringOut = [] := by decide +kernel

theorem test_brk_delivery_updates_and_answers :
    let t := after (exec (.brkDelivery plainOrder (goodArrival .brk 255 4 0 [1, 1, 7, 0xAA])) live)
    (t.breaker (.pb 0)).status = .closed ∧ (t.breaker (.pb 0)).offset = 7 ∧ t.ringOut.map (·.body) = [[1, 1, 7, 0]] := by
  decide +kernel

theorem test_open_session_reserves :
    let t := after (exec .openSession (withHead live 9 [0, 0, 0, 0, 9, 0, 0, 0xC3, 0x50, 0x19, 0xC8, 1]))
    (t.session 0).state = .energising ∧ (t.session 0).vnom = some 6600 ∧ (t.module 0).state = .starting ∧ t.ses.nextNumber = 2 := by
  decide +kernel

theorem test_unknown_code_refused :
    ((after (exec (.requestFrame (goodArrival .mrq 0 1 0 [0, 7, 99])) live)).mrh.responses.map (·.answer)) = [refused .unknown] := by
  decide +kernel

/-- 01, R13: at the boundary of a COMMIT's cycle a delivery marked before the commit counts, and an absence counts too; a node whose
record a repair write reset is counted from the next boundary on. -/
theorem test_health_after_reset :
    let s : State := { live with rif := { live.rif with taken := vset live.rif.taken 1 true } }
    let t := s.resetHealth.turnCycle
    let u := (live.renewHealth 3).turnCycle
    (t.health 1).counter = 0 ∧ (t.health 3).counter = 2 ∧ (u.health 3).counter = 0 ∧ (u.health 4).counter = 2 := by decide +kernel

/-- 06, R118: HANDOVER IN is refused MODE in CONFIG, whatever the berth's state. -/
theorem test_handover_in_refused_mode :
    ((after (exec .handoverIn (withHead configured 10 [0]))).mrh.responses.map (·.answer)) = [refused .mode] := by decide +kernel

/-- 04, R70: a trip finds a module in its stop phase whose breaker does not read OPEN: the PROTECTION_OPEN is issued, and the stop phase
waits for its completion. -/
theorem test_trip_reopens_in_stop_phase :
    let s := live.setModule 0
      { live.module 0 with state := .stopping, berth := some 0, stopPhase := true, run := .stop, breaker := .moving }
    let t := s.tripModules 0
    let u := t.moduleDelivery 0 ⟨.running, 0, .open, .berth 0, 0⟩
    (t.module 0).op = .protectionOpen ∧ (t.module 0).stopPhase = false ∧ (u.module 0).op = .none ∧ (u.module 0).stopPhase = true := by
  decide +kernel

/-- 09, R166: a record that an abort of the invalidity's own event closes carries UNVERIFIED: berth 0 is ENERGISING and metered, and its
PB reads OPEN without a command, so the drain is done at once. -/
theorem test_invalid_marks_record_closed_by_abort :
    let s := live.setSession 0 { live.session 0 with state := .energising, metering := true }
    let m := { s.meter 0 with
      running := true, record := some (openedRecord (some 1) none s.ctu.time (newEntry 0 0 true) false false) }
    let t := (s.setMeter 0 m).becomeInvalid
    (t.session 0).state = .idle ∧ (t.meter 0).record = none ∧ t.mbu.ring.map (·.unverified) = [true] := by decide +kernel

/-- 05: the eighth crossing of the worked alignment: 604 cd of the others' 4,236 give the mean 605, and the session is CONNECTED. -/
theorem test_worked_alignment_ends :
    let s := (aligning 7 612 4236).plugCrossing 0 (81920 + 1375)
    (s.sync 0).cableOffset = some 605 ∧ (s.sync 0).alignment = .inactive
      ∧ (s.session 0).state = .connected := by decide +kernel

/-- 07, R125: with a filter of 8 the eighth excess in a row takes the fault, and a cycle within the limit clears count and mark. -/
theorem test_overcurrent_filter :
    let s := (overloaded 7 false).superviseCurrent 0
    let calm := ((overloaded 7 true).setMeas (.bus 0) MeasRecord.reset).superviseCurrent 0
    (s.superv 0).tripKind = some .overcurrent ∧ (s.session 0).state = .faulted ∧ (calm.superv 0).overcurrent = ⟨0, false⟩ := by
  decide +kernel

theorem test_decode_spells_nothing : decodeTableWord 16 0 = none := rfl


/-! ## Witnesses: for each statement with hypotheses, states and operands that meet them, clause by clause -/

/-- A request frame. -/
def requestArrivalOf (dest source : Byte) (body : List Byte) : Arrival := goodArrival .mrq dest source 0 body

theorem witness_StepRunsFront : ({ live with pending := [.ringUp] } : State).pending = .ringUp :: [] ∧ live.pending = [] := by decide

theorem witness_ResetAndFirstFrame :
    ({ live with resetHeld := true } : State).resetHeld = true ∧ Instr.ringUp ≠ .resetRelease
      ∧ Settled State.reset ∧ State.reset.rif.started = false := by decide

theorem witness_CycleBoundary : Settled live ∧ live.rif.started = true := by decide

theorem witness_FramesPassedOn :
    Settled live ∧ cutShort.whole = false ∧ (goodArrival .smp 0 2 0 [1]).whole = true
      ∧ checksGood (kindOf 1) (arrivalFrame ((1 : BitVec 3).setWidth 4) (goodArrival .smp 0 2 0 [1])) = false := by decide +kernel

theorem witness_OwnFrameReturn :
    Settled live ∧ GoodFrame live .cyc (goodArrival .cyc 255 0 0 (List.replicate 14 0))
      ∧ GoodFrame live .mrs (goodArrival .mrs 1 0 0 [0, 0, 0, 0, 0]) ∧ GoodFrame live .evn (goodArrival .evn 1 0 0 [0, 0, 0, 0, 0])
      ∧ (goodArrival .cyc 255 0 0 (List.replicate 14 0)).source = 0 := by decide +kernel

theorem witness_FramesNotUsed :
    (Settled live ∧ GoodFrame live .brk (goodArrival .brk 255 9 0 [0, 0, 0, 0]) ∧ live.matchingNode .brk 9 = none)
      ∧ (GoodFrame live .brk (goodArrival .brk 255 4 5 [0, 0, 0, 0]) ∧ live.matchingNode .brk 4 = some 3 ∧ (5 : BitVec 16) ≠ live.rif.cycle)
      ∧ vget ({ live with rif := { live.rif with taken := vset live.rif.taken 3 true } } : State).rif.taken 3 = true := by
  decide +kernel

theorem witness_ForwardedRewritten :
    (hasSection .smp = false ∧ hasSection .brk = true ∧ lengthGood .brk 4 = true ∧ configured.operating = false)
      ∧ (live.operating = true ∧ moduleOf 0 = some 0 ∧ (live.module 0).state = .free ∧ (live.setModule 0
        { live.module 0 with state := .failed }).operating = true ∧ berthOf 0 = some 0)
      ∧ (∀ st ∈ [ModuleState.stopping, .starting, .bound],
        ((moduleIn live st).module 0).state = st ∧ ((moduleIn live st).module 0).berth = some 0)
      ∧ ((moduleIn live .bound).setSession 0 { live.session 0 with vnom := some 6600 }).operating = true
      ∧ (((moduleIn live .bound).setSession 0 { live.session 0 with vnom := some 6600 }).session 0).vnom = some 6600 := by
  decide +kernel

theorem witness_SmpDelivery :
    let f := goodArrival .smp 255 2 0 (List.replicate 12 0)
    Settled live ∧ GoodFrame live .smp f ∧ FirstOnTime live .smp 1 f ∧ live.cycleRuns = true ∧ pointsFedBy (live.nodeEntry 1) = [.bus 0] := by
  decide +kernel

theorem witness_ConfigDelivery :
    let f := goodArrival .brk 255 4 0 [0, 0, 0, 0]
    Settled configured ∧ GoodFrame configured .brk f ∧ FirstOnTime configured .brk 3 f ∧ configured.cycleRuns = false := by decide +kernel

theorem witness_UnitDeliveries :
    (GoodFrame live .mod (goodArrival .mod 255 3 0 (List.replicate 23 0)) ∧ FirstOnTime live .mod 2 (goodArrival .mod 255 3 0 (List.replicate 23 0))
        ∧ live.cycleRuns = true ∧ moduleOf (live.nodeEntry 2).target = some 0)
      ∧ GoodFrame live .brk (goodArrival .brk 255 4 0 [0, 0, 0, 0]) ∧ FirstOnTime live .brk 3 (goodArrival .brk 255 4 0 [0, 0, 0, 0])
      ∧ berthOf (live.nodeEntry 3).target = some 0 := by decide +kernel

/-- Modules and reports of the delivery rules: a serving one that fails, a starting one that runs and one that closes, a stopping one that
opens and one that stops, a failed one, and one left as it is. -/
theorem witness_UnitDeliveries_modules :
    let m (st : ModuleState) (op : ModuleOp) (phase : Bool) : State :=
      live.setModule 0 { live.module 0 with state := st, op := op, stopPhase := phase, berth := some 0 }
    (((m .bound .none false).module 0).state = .bound ∧ ((m .bound .none false).module 0).op = .none
        ∧ ((m .bound .none false).module 0).berth.map Selector.berth = some (Selector.berth 0)
        ∧ ((m .bound .none false).module 0).berth.map Selector.berth ≠ some Selector.unmatched)
      ∧ (((m .starting .none false).module 0).op = .none ∧ (m .starting .none false).mpm.switching = []
        ∧ ((m .starting .close false).module 0).op = .close ∧ ((m .starting .close false).module 0).berth = some 0)
      ∧ (((m .stopping .open false).module 0).stopPhase = false ∧ ((m .stopping .protectionOpen false).module 0).op = .protectionOpen
        ∧ ((m .stopping .none true).module 0).stopPhase = true)
      ∧ (((m .failed .open false).module 0).op ≠ .close ∧ live.roleLost .module 0 = false)
      ∧ ((m .blocked .none false).module 0).state = .blocked := by decide +kernel

/-- The plug breaker's close asked for when the closing module completes the holdings. -/
theorem witness_UnitDeliveries_holdings :
    let s := (inState live .energising).setModule 0 { live.module 0 with state := .starting, op := .close, berth := some 0 }
    let t := s.moduleDelivery 0 ⟨.running, 0, .closed, .berth 0, 0⟩
    (s.session 0).state = .energising ∧ (s.session 0).pbAsked = false ∧ t.countIn 0 .starting = 0 ∧ s.mpm.alloc = []
      ∧ (s.breaker (.pb 0)).command = .none ∧ (s.breaker (.pb 0)).status = .open := by decide +kernel

/-- Breaker records of the delivery rules, and the sessions they end at. -/
theorem witness_UnitDeliveries_breakers :
    (∀ k ∈ [Breaker.pb 0, .sb 3], ∀ c ∈ [BreakerCommand.none, .close, .open], ∀ st ∈ [BreakerStatus.open, .closed, .moving, .fault],
        let s := live.setBreaker k { BreakerRecord.reset with command := c, status := st, withdrawn := true, withdrawCycle := 4194303, measuring := true }
        (s.breaker k).command = c ∧ (s.breaker k).status = st ∧ (s.breaker k).measuring = true
          ∧ (s.ext - (s.breaker k).withdrawCycle).toNat = 1
          ∧ ({ s with rif := { s.rif with ext := 1 } } : State).ext - 4194303 = 2)
      ∧ (∀ st ∈ [SessionState.energising, .syncing, .draining, .faulted, .parting, .shore, .connected],
        ((inState live st).session 0).state = st ∧ ((inState live st).session 0).endReason ≠ some .fault)
      ∧ (let w : State := { live with cfs := { live.cfs with tables := { someTables with
          reaction := vset (vset someTables.reaction 6 0) 7 0 } } }
        w.classFor .pbFail = .warn ∧ w.classFor .sbOpened = .warn ∧ live.classFor .sbOpened ≠ .warn) := by decide +kernel

theorem witness_SiuDelivery :
    let f := goodArrival .siu 255 5 0 (List.replicate 25 0)
    Settled live ∧ GoodFrame live .siu f ∧ FirstOnTime live .siu 4 f ∧ live.cycleRuns = true
      ∧ berthOf (live.nodeEntry 4).target = some 0 := by decide +kernel

/-- Sessions that the ship's report acts on: quiet reports at the edges of the count and of the residual, RECALL and others. -/
theorem witness_SiuDelivery_reports :
    (∀ n ∈ [0, 7999, 8000], let s := live.setSession 0 { live.session 0 with state := .rampIn, quietCount := n }
        (s.session 0).state = .rampIn ∧ (s.session 0).quietCount = n)
      ∧ ((100 : Int) ≤ (live.berthEntry 0).residual.toNat ∧ ((live.berthEntry 0).residual.toNat : Int) < 101)
      ∧ ((inState live .recall).session 0).state = .recall ∧ ((inState live .shore).session 0).state ≠ .rampIn
      ∧ (live.session 0).ship ≠ .shipEsd := by decide +kernel

theorem witness_NodeHealth :
    let lost := (withDue live (.nodeLost 1)).setHealth 1 ⟨8, false, false⟩
    let back := (withDue live (.nodeRecovered 1)).setHealth 1 ⟨0, true, true⟩
    (DueNow lost (.nodeLost 1) ∧ lost.operating = true ∧ countedRole (lost.nodeEntry 1) = true ∧ (lost.health 1).lost = false
        ∧ (lost.nodeEntry 1).limit.toNat ≤ (lost.health 1).counter)
      ∧ (DueNow back (.nodeRecovered 1) ∧ (back.health 1).lost = true ∧ (back.health 1).counter = 0)
      ∧ countedRole (live.nodeEntry 0) = false ∧ berthOf (live.nodeEntry 1).target = some 0
      ∧ roleOf (live.nodeEntry 1).role = some .muBerth ∧ roleOf (live.nodeEntry 3).role = some .plugBu
      ∧ roleOf (live.nodeEntry 4).role = some .siu
      ∧ ((live.health 1).delivered = false ∧ vget live.rif.taken 1 = false ∧ vget live.rif.fresh 1 = false)
      ∧ vget ({ live with rif := { live.rif with taken := vset live.rif.taken 1 true } } : State).rif.taken 1 = true := by
  decide +kernel

theorem witness_RingContinuity :
    let down := withDue { live with rif := { live.rif with miss := 8 } } .ringDown
    let up := withDue { live with rif := { live.rif with ring := .down, ret := 8 } } .ringUp
    (DueNow down .ringDown ∧ down.rif.ring = .up ∧ 8 ≤ down.rif.miss)
      ∧ (DueNow up .ringUp ∧ up.rif.ring = .down ∧ 8 ≤ up.rif.ret) := by decide

theorem witness_NoCrossingTimeout :
    let s := (withDue live (.noCrossingTimeout (.bus 0))).setMeas (.bus 0) { MeasRecord.reset with window := ⟨triOf 0, 101⟩ }
    DueNow s (.noCrossingTimeout (.bus 0)) ∧ feedingNode s.cfs.tables (.bus 0) = some 1 ∧ 101 ≤ (s.meas (.bus 0)).window.count := by
  decide +kernel

theorem witness_MeasurementSecondEnd :
    let s := withDue live (.noCrossingTimeout (.bus 0))
    let t := s.setMeas (.bus 0) { MeasRecord.reset with window := ⟨triOf 0, 101⟩ }
    (DueNow (withDue live .measurementSecondEnd) .measurementSecondEnd ∧ live.operating = true ∧ configured.operating = false
        ∧ live.roleLost .muIncomer 0 = false)
      ∧ (Due.noCrossingTimeout (.bus 0) ∈ t.due ∧ feedingNode t.cfs.tables (.bus 0) = some 1 ∧ 101 ≤ (t.meas (.bus 0)).window.count)
      ∧ live.due = [] ∧ ({ MeasRecord.reset with tally := 4000 } : MeasRecord).tally = 4000 ∧ MeasRecord.reset.tally ≠ 4000 := by
  decide +kernel

/-- Running meters without and with items held over for the boundary, a stopped one, and sessions in RAMP_OUT at quiet seconds 0 and 1. -/
theorem witness_MeasurementSecondEnd_presented :
    let a : AcctBoundary := ⟨.dayEnd, zeroTime, 1, 2, true, false⟩
    let m : Meter := { Meter.reset with
      running := true, record := some (openedRecord none none zeroTime (newEntry 1 2 true) false false), heldFor := live.rif.ext - 1,
      heldBlock := some ⟨zeroTime, 900⟩, heldBoundary := some a }
    let s := live.setSession 0 { live.session 0 with state := .rampOut, quietSeconds := 1 }
    (m.running = true ∧ hasHeld m = true ∧ m.heldFor = live.rif.ext - 1 ∧ m.deferral.isNone = true ∧ m.record.map (·.gap) = some 0
        ∧ hasHeld Meter.reset = false ∧ Meter.reset.running = false ∧ live.mbu.ring.length < 64)
      ∧ ((s.session 0).state = .rampOut ∧ (s.session 0).share = 0 ∧ (s.meas (.bus 0)).lastPower ≤ (s.berthEntry 0).residual.toNat
        ∧ 1 ≤ (s.session 0).quietSeconds ∧ (s.breaker (.sb 0)).command = .none ∧ (s.breaker (.sb 0)).status = .open)
      ∧ live.roleLost .muBerth 0 = false ∧ (live.feedingEntry (.bus 0)).isSome = true := by decide +kernel

theorem witness_RootsAndCrossingTimes : (0 : Int) < 1 ∧ (0 : Int) ≤ 0 ∧ (-1 : Int) ≤ 0 := by decide

theorem witness_PointCycleRules :
    let r : MeasRecord := { MeasRecord.reset with lastCross := ⟨some 1000, none, none⟩ }
    r.lastCross.l1 = some 1000 ∧ ((59514 : Ticks) - 1000).toNat = 58514 ∧ ((103400 : Ticks) - 1000).toNat = 102400
      ∧ ((59513 : Ticks) - 1000).toNat < 58514 ∧ 102400 < ((103401 : Ticks) - 1000).toNat := by decide

/-- Displacements at the edges of the rotation band, for a period of 81,920 ticks, and an armed record before a crossing. -/
theorem witness_PointCycleRules_rotation :
    let r : MeasRecord := { MeasRecord.reset with
      heldV := ⟨-900, -900, -900⟩, armed := ⟨true, true, true⟩, period := 81920, stale := false, lastCross := ⟨some 1000, none, none⟩ }
    (r.lastCross.l1 = some 1000 ∧ r.stale = false ∧ MeasRecord.reset.stale = true ∧ MeasRecord.reset.lastCross.l1 = none)
      ∧ (3 * r.period ≤ 12 * 20480 ∧ 12 * 34133 ≤ 5 * r.period ∧ 12 * 20479 < 3 * r.period ∧ 5 * r.period < 12 * 34134)
      ∧ (r.heldV.l1 ≤ 0 ∧ r.armed.l1 = true ∧ (-656 : Int) < -655 ∧ (-655 : Int) ≤ -655) := by decide

theorem witness_OscillatorReset : ((live.setSession 0 { live.session 0 with fnom := some 60000 }).session 0).fnom = some 60000 := by
  decide

theorem witness_PhaseAdvance : Settled live ∧ Settled configured ∧ live.rif.started = true ∧ configured.rif.started = true := by decide

theorem witness_IncrementAndReport : (49000 ≤ 49000 ∧ 51000 ≤ 51000 ∧ 58800 ≤ 58800 ∧ 61200 ≤ 61200) ∧ 0 ≤ 61200 := by decide

theorem witness_OscillatorEvents :
    let s := (withDue live (.freeStep 0)).setOsc 0 (setSetpoint { Osc.reset with slew := 399 } 49000)
    let t := inState ((withDue live (.holdoverEntry 0)).setOsc 0 { Osc.reset with mode := .lock, watchdog := 160 }) .rampIn
    let w : State := { t with cfs := { t.cfs with tables := { t.cfs.tables with reaction := vset t.cfs.tables.reaction 12 0 } } }
    (DueNow s (.freeStep 0) ∧ (s.osc 0).mode = .free ∧ 399 ≤ (s.osc 0).slew ∧ (s.osc 0).fset = 49000)
      ∧ (DueNow w (.holdoverEntry 0) ∧ (w.osc 0).mode = .lock ∧ (w.osc 0).holdover = false
        ∧ holdoverLimit (w.osc 0).fnom ≤ (w.osc 0).watchdog ∧ (w.session 0).state ≠ .idle ∧ w.classFor .lockLost = .warn) := by
  decide +kernel

/-- The oscillator of that witness keeps the clamp law at the edge of its range. -/
theorem witness_OscillatorEvents_clamp : OscOk (setSetpoint { Osc.reset with slew := 399 } 49000) := by
  unfold OscOk NominalOk
  decide +kernel

theorem witness_LockCorrection : ({ Osc.reset with mode := .lock } : Osc).mode = .lock ∧ Osc.reset.mode ≠ .lock
    ∧ ((live.setOsc 0 { Osc.reset with mode := .track }).osc 0).mode = .track ∧ (live.osc 0).mode ≠ .track := by decide

theorem witness_ModuleLimits :
    let a := (withDue (moduleIn live .starting) (.moduleStartLimit 0))
    let b := (withDue (moduleIn live .bound) (.moduleOperateLimit 0)).setModule 0
      { (moduleIn live .bound).module 0 with op := .close, opAge := 4000 }
    let c := (withDue (moduleIn live .failed) (.moduleOperateLimit 0)).setModule 0
      { (moduleIn live .failed).module 0 with op := .protectionOpen, opAge := 4000 }
    (DueNow a (.moduleStartLimit 0) ∧ a.stageRuns 0 = true ∧ (a.module 0).startLimit ≤ (a.module 0).stageTimer)
      ∧ (DueNow b (.moduleOperateLimit 0) ∧ (b.module 0).op ≠ .none ∧ 4000 ≤ (b.module 0).opAge ∧ (b.module 0).state = .bound)
      ∧ (DueNow c (.moduleOperateLimit 0) ∧ (c.module 0).op ≠ .none ∧ 4000 ≤ (c.module 0).opAge ∧ (c.module 0).state = .failed) := by
  decide +kernel

theorem witness_CooldownEnd :
    let s := withDue (moduleIn live .cooldown) (.cooldownEnd 0)
    DueNow s (.cooldownEnd 0) ∧ (s.module 0).state = .cooldown ∧ (s.module 0).cooldown = 0 ∧ s.mpm.alloc = [] := by decide +kernel

theorem witness_SwitchingIssue :
    let e : SwitchEntry := ⟨0, .close⟩
    let s : State := withDue { live with mpm := { live.mpm with switching := [e] } } .switchingIssue
    let t : State := withDue { live with mpm := { live.mpm with switching := [e], ageStation := 1599 } } .switchingIssue
    (DueNow s .switchingIssue ∧ s.operating = true ∧ s.mpm.switching = [] ++ e :: [] ∧ s.mayIssue e = true)
      ∧ (DueNow t .switchingIssue ∧ ∀ x ∈ t.mpm.switching, t.mayIssue x = false) := by decide +kernel

theorem witness_BlockAndUnblock :
    (AtHead (withHead live 16 [8]) (requestWith 16 [8]) [] ∧ 8 ≤ (8 : Byte).toNat)
      ∧ (∀ st ∈ [ModuleState.free, .cooldown, .failed, .starting, .bound, .stopping, .blocked],
        AtHead (withHead (moduleIn live st) 16 [0]) (requestWith 16 [0]) [] ∧ ((withHead (moduleIn live st) 16 [0]).module 0).state = st)
      ∧ (AtHead (withHead live 17 [8]) (requestWith 17 [8]) [])
      ∧ (AtHead (withHead (moduleIn live .blocked) 17 [0]) (requestWith 17 [0]) []
        ∧ ((moduleIn live .blocked).module 0).op = .none ∧ (moduleIn live .blocked).mpm.alloc = []
        ∧ ((live.setModule 0 { live.module 0 with state := .blocked, op := .open }).module 0).op ≠ .none) := by decide +kernel

theorem witness_GrantOrder :
    let e : AllocEntry := ⟨0, 1, .urgent, zeroTime⟩
    let s : State := { live with mpm := { live.mpm with alloc := [e] } }
    let held (op : ModuleOp) (b : BreakerStatus) : State :=
      live.setModule 0 { live.module 0 with state := .bound, berth := some 0, op := op, breaker := b }
    live.pick 0 = some 0 ∧ e.urgency = .urgent
      ∧ ((∀ x ∈ [(⟨1, 1, .urgent, zeroTime⟩ : AllocEntry)], x.urgency = .urgent)
        ∧ ∀ x ∈ [(⟨2, 1, .normal, zeroTime⟩ : AllocEntry)], x.urgency = .normal)
      ∧ (s.mpm.alloc = e :: [] ∧ e.count ≤ s.freeCount ∧ (s.session 0).state = .idle
        ∧ ((inState s .reserving).session 0).state = .reserving ∧ ((inState s .connected).session 0).state = .connected)
      ∧ (configured.operating = false ∧ live.operating = true)
      ∧ (((held .close .moving).module 0).op = .close ∧ ((held .protectionOpen .moving).module 0).op = .protectionOpen
        ∧ ((held .none .closed).module 0).breaker ≠ .open ∧ ((held .none .open).module 0).breaker = .open
        ∧ ((held .none .open).module 0).state = .bound ∧ 0 < (held .none .open).held 0)
      ∧ (live.module 0).state ≠ .starting ∧ (live.module 0).state ≠ .bound := by decide +kernel

theorem witness_ShareSplit :
    splitState.boundModules 2 = [1, 2, 5] ∧ (splitState.module 0).state ≠ .bound ∧ (splitState.boundModules 2).head? ≠ some 5 := by
  decide +kernel

theorem witness_BreakerOperateLimit :
    let a := (withDue live (.breakerOperateLimit (.pb 0))).setBreaker (.pb 0) { BreakerRecord.reset with command := .close, limit := 0 }
    let b := (withDue live (.breakerOperateLimit (.sb 0))).setBreaker (.sb 0) { BreakerRecord.reset with command := .open, limit := 0 }
    (DueNow a (.breakerOperateLimit (.pb 0)) ∧ a.operating = true ∧ (a.breaker (.pb 0)).command = .close
        ∧ (a.breaker (.pb 0)).limit ≤ (a.ext - (a.breaker (.pb 0)).issue).toNat)
      ∧ (DueNow b (.breakerOperateLimit (.sb 0)) ∧ (b.breaker (.sb 0)).command = .open ∧ (b.breaker (.sb 0)).limitReported = false
        ∧ (b.breaker (.sb 0)).limit ≤ (b.ext - (b.breaker (.sb 0)).issue).toNat) := by decide +kernel

theorem witness_BreakerRequests :
    ∀ c ∈ [BreakerCommand.none, .close, .open], ∀ st ∈ [BreakerStatus.open, .closed, .moving, .fault], ∀ w ∈ [true, false],
      let s := live.setBreaker (.sb 0) { BreakerRecord.reset with command := c, status := st, withdrawn := w }
      (s.breaker (.sb 0)).command = c ∧ (s.breaker (.sb 0)).status = st ∧ (s.breaker (.sb 0)).withdrawn = w := by decide +kernel

theorem witness_LearnedCloseTime :
    ((live.setBreaker (.sb 0) { BreakerRecord.reset with measuring := true, mark := true }).breaker (.sb 0)).measuring = true
      ∧ AtHead (withHead live 18 [8]) (requestWith 18 [8]) [] ∧ 8 ≤ (8 : Byte).toNat
      ∧ AtHead (withHead live 18 [7]) (requestWith 18 [7]) [] ∧ breakerOf 7 = some (.sb 3) ∧ breakerOf 0 = some (.pb 0) := by decide +kernel

theorem witness_MeasuredCloseTime :
    (BreakerEntry.reset.minimum.toNat : Int) ≤ 20000 ∧ (300000 : Int) ≤ BreakerEntry.reset.maximum.toNat
      ∧ (19999 : Int) < BreakerEntry.reset.minimum.toNat ∧ (BreakerEntry.reset.maximum.toNat : Int) < 300001 := by decide

/-- A berth whose sync attempt issues its close at the next ship crossing. -/
def closingSync : State :=
  let s1 := ((inState live .syncing).setBreaker (.pb 0) { BreakerRecord.reset with status := .closed }).setBreaker (.sb 0)
    { BreakerRecord.reset with ready := true }
  let s2 := (s1.setMeas (.plug 0) { MeasRecord.reset with stale := false, period := 81920, freq := 50000, pointPermille := some 1000 }).setMeas
    (.ship 0) { MeasRecord.reset with freq := 50000, rotation := .ok, pointPermille := some 1000 }
  s2.setSync 0 { SyncRecord.reset with attempt := .evaluating, stability := 2, pNew := some 5000 }

theorem witness_SyncCloseLaw :
    (closingSync.breaker (.sb 0)).command ≠ .close ∧ ((closingSync.shipCrossing 0 5100).breaker (.sb 0)).command = .close := by
  decide +kernel

/-- Evaluations with every window held, at stability counts 2 and 1; one whose S crossing comes a period after the P reference, so that it
has no valid interval; and a crossing that only the older history entry precedes. -/
theorem witness_SyncCloseLaw_evaluation :
    let v (s : State) (t : Ticks) : SyncEval := syncEvaluation (s.meas (.plug 0)) (s.meas (.ship 0)) (s.breaker (.sb 0))
      (s.breaker (.pb 0)) (s.berthEntry 0) (s.osc 0).fnom t (s.sync 0)
    let low := closingSync.setSync 0 { closingSync.sync 0 with stability := 1 }
    (AllWindows (v closingSync 5100) ∧ (closingSync.sync 0).attempt = .evaluating ∧ (closingSync.sync 0).stability = 2)
      ∧ (AllWindows (v low 5100) ∧ (low.sync 0).attempt = .evaluating ∧ (low.sync 0).stability = 1)
      ∧ (¬ AllWindows (v closingSync (5000 + 81920)) ∧ ¬ ((5000 + 81920 - 5000 : Ticks).toNat < (closingSync.meas (.plug 0)).period))
      ∧ ((closingSync.sync 0).pNew = some 5000 ∧ 0 ≤ (5100 - 5000 : Ticks).toInt ∧ (4000 - 5000 : Ticks).toInt < 0)
      ∧ (closingSync.osc 0).fnom = 50000 ∧ (live.sync 0).attempt ≠ .evaluating := by decide +kernel

/-- Plug crossings of the alignment: with seven collected and fewer, at the edges of the displacement, and one that fails. -/
theorem witness_SyncCloseLaw_alignment :
    (((aligning 7 612 4236).sync 0).alignment = .collecting ∧ ((aligning 7 612 4236).meas (.bus 0)).stale = false
        ∧ ((aligning 7 612 4236).meas (.bus 0)).lastCross.l1 = some 81920 ∧ ((aligning 7 612 4236).sync 0).collected = 7
        ∧ ((aligning 0 0 0).sync 0).collected < 7 ∧ ((aligning 7 612 4236).session 0).state = .energising)
      ∧ (((81920 + 1375 : Ticks) - 81920).toInt = 1375 ∧ ((245759 : Ticks) - 81920).toInt < 2 * 81920
        ∧ 2 * 81920 ≤ ((245760 : Ticks) - 81920).toInt ∧ ((0 : Ticks) - 81920).toInt ≤ -81920 ∧ -81920 < ((1 : Ticks) - 81920).toInt)
      ∧ ((aligning 7 612 4236).meas (.plug 0)).rotation = .ok ∧ ((aligning 7 612 4236).meas (.plug 0)).pointPermille = some 1004
      ∧ (((aligning 7 612 4236).setMeas (.plug 0) MeasRecord.reset).meas (.plug 0)).rotation ≠ .ok := by decide +kernel

/-- The arguments of an OPEN SESSION for a 50 Hz ship of 6,600 V. -/
def openBytes (berth count : Byte) : List Byte := [berth, 0, 0, 0, 9, 0, 0, 0xC3, 0x50, 0x19, 0xC8, count]

theorem witness_OpenSession :
    (AtHead (withHead live 9 (openBytes 4 1)) (requestWith 9 (openBytes 4 1)) [] ∧ (openBytes 4 1).length = 12 ∧ berthOf 4 = none)
      ∧ (AtHead (withHead configured 9 (openBytes 0 1)) (requestWith 9 (openBytes 0 1)) [] ∧ configured.operating = false
        ∧ invalidated.cfs.invalid = true)
      ∧ (live.operating = true ∧ live.cfs.invalid = false ∧ flagOf (live.berthEntry 0).enabled = true
        ∧ flagOf (live.berthEntry 1).enabled = false ∧ ((inState live .shore).session 0).state ≠ .idle ∧ (live.session 0).state = .idle)
      ∧ ((live.setMeter 0 { Meter.reset with finalPending := true }).meter 0).finalPending = true ∧ (live.meter 0).finalPending = false
      ∧ openInRange (live.berthEntry 0) (openArgs (openBytes 0 1)) = true ∧ openInRange (live.berthEntry 0) (openArgs (openBytes 0 2)) = true
      ∧ openInRange (live.berthEntry 0) (openArgs (openBytes 0 3)) = false
      ∧ (live.berthNodeLost 0 = false ∧ (live.session 0).ship ≠ .shipEsd ∧ live.mpm.alloc = [] ∧ 1 ≤ live.freeCount
        ∧ live.freeCount < 2 ∧ 2 ≤ (live.berthEntry 0).maxModules.toNat - live.held 0) := by decide +kernel

theorem witness_HandoverRequests :
    let s := inState live .connected
    let r := s.setSession 0 { s.session 0 with ship := .readyForShore }
    let f := (inState live .syncing).setSession 0 { (inState live .syncing).session 0 with closeIssued := true }
    let c := f.setBreaker (.sb 0) { BreakerRecord.reset with command := .close }
    let p := f.setSession 0 { f.session 0 with abortPending := true }
    (AtHead (withHead live 10 [4]) (requestWith 10 [4]) [] ∧ berthOf 4 = none ∧ berthOf 3 = some 3 ∧ (live.session 3).state ≠ .connected
        ∧ live.operating = true ∧ live.cfs.invalid = false ∧ configured.operating = false ∧ invalidated.cfs.invalid = true)
      ∧ (AtHead (withHead r 10 [0]) (requestWith 10 [0]) [] ∧ (r.session 0).state = .connected ∧ (r.session 0).ship = .readyForShore
        ∧ (s.session 0).ship ≠ .readyForShore ∧ r.operating = true ∧ r.cfs.invalid = false)
      ∧ AtHead (withHead configured 10 [0]) (requestWith 10 [0]) []
      ∧ AtHead (withHead live 11 [0]) (requestWith 11 [0]) []
      ∧ (((inState live .syncing).session 0).state = .syncing ∧ ((inState live .syncing).session 0).closeIssued = false)
      ∧ ((c.session 0).closeIssued = true ∧ (c.session 0).abortPending = false ∧ (c.breaker (.sb 0)).command = .close
        ∧ (c.breaker (.sb 0)).withdrawn = false)
      ∧ ((p.session 0).closeIssued = true ∧ (p.session 0).abortPending = true) := by decide +kernel

theorem witness_HandoverOut :
    ∀ st ∈ [SessionState.shore, .parallel, .rampIn, .connected],
      let s := withHead (inState live st) 12 [0]
      AtHead s (requestWith 12 [0]) [] ∧ (s.session 0).state = st ∧ berthOf 0 = some 0 ∧ berthOf 255 = none := by decide +kernel

theorem witness_EndingRequests :
    let s := (inState live .connected).setBreaker (.pb 0) { BreakerRecord.reset with status := .closed }
    (AtHead (withHead s 13 [0]) (requestWith 13 [0]) [] ∧ (s.session 0).state = .connected ∧ (s.breaker (.pb 0)).command = .none
        ∧ (s.breaker (.pb 0)).status = .closed ∧ ∀ e ∈ s.mpm.alloc, e.berth ≠ 0)
      ∧ ((inState live .shore).session 0).state ≠ .connected
      ∧ (AtHead (withHead live 14 [0]) (requestWith 14 [0]) [] ∧ (live.session 0).state = .idle)
      ∧ ((inState configured .faulted).operating = false ∧ ((inState configured .faulted).session 0).state ≠ .idle)
      ∧ ((inState live .faulted).operating = true ∧ ((inState live .faulted).session 0).state = .faulted) := by decide +kernel

theorem witness_ClearFault :
    let s := inState live .faulted
    let latched := s.setSuperv 0 { s.superv 0 with tripClass := some .latched }
    let busy := s.setBreaker (.pb 0) { BreakerRecord.reset with command := .open }
    (AtHead (withHead s 15 [0]) (requestWith 15 [0]) [] ∧ (s.session 0).state = .faulted ∧ breakerAtRest (s.breaker (.pb 0)) = true
        ∧ breakerAtRest (s.breaker (.sb 0)) = true ∧ (s.session 0).starting = 0 ∧ (s.session 0).bound = 0)
      ∧ (AtHead (withHead live 15 [4]) (requestWith 15 [4]) [] ∧ (live.session 0).state ≠ .faulted)
      ∧ ((latched.superv 0).tripClass = some .latched ∧ latched.operating = true)
      ∧ (breakerAtRest (busy.breaker (.pb 0)) && breakerAtRest (busy.breaker (.sb 0))) = false := by decide +kernel

theorem witness_SessionLimits :
    let e := (withDue live (.pbCloseRetry 0)).setSession 0 { live.session 0 with state := .energising, pbRetry := true }
    (DueNow e (.pbCloseRetry 0) ∧ (e.session 0).state = .energising ∧ (e.session 0).pbRetry = true
        ∧ (e.breaker (.pb 0)).command = .none ∧ (e.breaker (.pb 0)).status = .open
        ∧ ((e.setBreaker (.pb 0) { BreakerRecord.reset with command := .open }).breaker (.pb 0)).command = .open
        ∧ ∀ st ∈ [BreakerStatus.moving, .fault],
          let m := e.setBreaker (.pb 0) { BreakerRecord.reset with status := st }
          (m.breaker (.pb 0)).command = .none ∧ (m.breaker (.pb 0)).status = st)
      ∧ ∀ n ∈ [0, 1], ∀ st ∈ [SessionState.reserving, .energising, .syncing, .rampIn, .recall, .rampOut, .parting],
        let s := (withDue live (.stageLimitExpiry 0)).setSession 0 { live.session 0 with state := st, strikes := n, stageTimer := 7, stageLimit := 7 }
        DueNow s (.stageLimitExpiry 0) ∧ stageRunning (s.session 0) = true ∧ (s.session 0).stageLimit ≤ (s.session 0).stageTimer
          ∧ (s.session 0).strikes = n ∧ (s.session 0).state = st ∧ (s.session 0).endReason ≠ some .fault
          ∧ s.classFor .sbFail ≠ .warn := by decide +kernel

theorem witness_SessionLimits_warn :
    ({ live with cfs := { live.cfs with tables := { someTables with reaction := vset someTables.reaction 5 0 } } } : State).classFor .sbFail
      = .warn := by decide +kernel

theorem witness_SettleAndRamp :
    let s := (withDue live (.settleEnd 0)).setSession 0 { live.session 0 with state := .parallel, settle := 0 }
    (DueNow s (.settleEnd 0) ∧ (s.session 0).state = .parallel ∧ (s.session 0).settle = 0)
      ∧ ∀ st ∈ [SessionState.rampIn, .rampOut],
        let t := (withDue live (.rampStep 0)).setSession 0 { live.session 0 with state := st, stepTimer := 399 }
        DueNow t (.rampStep 0) ∧ 399 ≤ (t.session 0).stepTimer ∧ (t.session 0).state = st := by decide +kernel

theorem witness_SettleAndRamp_budget :
    let cap := 950; let p := 0; let size := 50
    min size (cap - p) ≤ 50 ∧ 49 < min size (cap - p) ∧ min size (950 - 950) ≤ 0 := by decide

theorem witness_FaultTaken :
    let s := inState live .rampIn
    let w : State := { s with cfs := { s.cfs with tables := { someTables with reaction := vset someTables.reaction 1 0 } } }
    (live.session 0).state = .idle ∧ (w.session 0).state ≠ .idle ∧ w.classFor .busVoltage = .warn
      ∧ (s.session 0).state ≠ .idle ∧ (s.session 0).state ≠ .faulted ∧ (s.session 0).endReason ≠ some .fault
      ∧ s.classFor .busVoltage ≠ .warn ∧ (s.breaker (.pb 0)).command = .none ∧ (s.breaker (.pb 0)).status = .open
      ∧ (let f := inState live .faulted
        (f.session 0).state = .faulted ∧ (f.session 0).endReason ≠ some .fault ∧ f.classFor .busVoltage ≠ .warn) := by decide +kernel

/-- Modules that a trip finds: serving and stopping ones with every operation in force, in and out of the stop phase. -/
theorem witness_FaultTaken_modules :
    ∀ st ∈ [ModuleState.starting, .bound, .stopping], ∀ op ∈ [ModuleOp.none, .close, .open, .protectionOpen], ∀ p ∈ [true, false],
      let s := (inState live .rampIn).setModule 0 { live.module 0 with state := st, berth := some 0, op := op, stopPhase := p }
      (s.session 0).state ≠ .idle ∧ s.classFor .busVoltage ≠ .warn ∧ (s.module 0).berth = some 0 ∧ (s.module 0).state = st
        ∧ (s.module 0).op = op ∧ (s.module 0).stopPhase = p := by decide +kernel

theorem witness_SupervisionTimers :
    let a := (withDue live (.blankEnd 0)).setSuperv 0 { Supervision.reset with blank := 1 }
    let b := (withDue (inState live .faulted) (.restartDue 0)).setSuperv 0 { Supervision.reset with tripClass := some .restart }
    let c := (withDue (inState live .faulted) (.restart 0)).setSuperv 0
      { Supervision.reset with tripClass := some .restart, restartDue := true }
    let d := withDue (inState configured .faulted) (.restart 0)
    (DueNow a (.blankEnd 0) ∧ (a.superv 0).blank = 1)
      ∧ (DueNow b (.restartDue 0) ∧ b.operating = true ∧ (b.session 0).state = .faulted ∧ (b.superv 0).tripClass = some .restart
        ∧ (b.superv 0).restartTimer = 0)
      ∧ (DueNow c (.restart 0) ∧ (c.session 0).state = .faulted ∧ (c.superv 0).tripClass = some .restart
        ∧ (c.superv 0).restartDue = true ∧ c.restartConditions 0 = true)
      ∧ (DueNow d (.restart 0) ∧ d.restartConditions 0 = false) := by decide +kernel

/-- Berths that the protection functions judge, with the filters below, at and past the fault, and berths outside the spans. -/
theorem witness_SupervisionTimers_filters :
    (((overloaded 6 false).superv 0).armed = true ∧ ((overloaded 6 false).session 0).state ≠ .idle ∧ ((overloaded 6 false).superv 0).blank = 0
        ∧ ((overloaded 6 false).berthEntry 0).iTrip.toNat < ((overloaded 6 false).meas (.bus 0)).peak
        ∧ 6 + 1 < ((overloaded 6 false).berthEntry 0).ocFilter.toNat ∧ ((overloaded 7 false).berthEntry 0).ocFilter.toNat ≤ 7 + 1
        ∧ ((overloaded 8 true).superv 0).overcurrent.raised = true ∧ (live.superv 0).armed = false)
      ∧ (let s := (overloaded 0 false).setMeas (.bus 0) { MeasRecord.reset with permille := triOf (some 899), freq := 49249 }
        let u := s.setSession 0 { s.session 0 with fnom := some 50000 }
        (u.meas (.bus 0)).permille = ⟨some 899, some 899, some 899⟩ ∧ 899 < (u.berthEntry 0).vLow.toNat
          ∧ ¬ 900 < (u.berthEntry 0).vLow.toNat ∧ (u.session 0).fnom = some 50000 ∧ (u.meas (.bus 0)).freq < 50000 - 50000 * 15 / 1000
          ∧ (u.superv 0).armed = true ∧ (u.session 0).state = .shore ∧ (live.meas (.bus 0)).permille.l1 = none
          ∧ ((u.setBreaker (.pb 0) { BreakerRecord.reset with status := .closed }).breaker (.pb 0)).status = .closed
          ∧ (u.breaker (.pb 0)).status ≠ .closed)
      ∧ (∀ st ∈ [SessionState.parallel, .rampIn, .recall, .rampOut], ((inState live st).session 0).state = st)
      ∧ (-201 : Int) < -(((live.berthEntry 0).reverse.toNat : Nat) : Int) ∧ ¬ (-200 : Int) < -((live.berthEntry 0).reverse.toNat : Int) := by
  decide +kernel

/-- The work of a tick that activated. -/
def activatedTick : TickWork := ⟨false, true, Band.noTariff⟩

/-- A running meter with an open record. -/
def runningMeter : Meter :=
  { Meter.reset with running := true, blockSum := 5, record := some (openedRecord none none zeroTime (newEntry 1 2 true) false false) }

/-- A state with one event due and the work of a tick held. -/
def withTick (s : State) (d : Due) : State := withDue { s with ctu := { s.ctu with tick := some activatedTick } } d

theorem witness_SecondEvents :
    let a : State := withDue { live with ctu := { live.ctu with phaseCount := 3999, time := ⟨3, 86398, 2⟩ } } .secondTick
    let z : State := withDue { live with ctu := { live.ctu with phaseCount := 3999, time := ⟨65535, 86399, 6⟩ } } .secondTick
    let b : State := withTick { live with ctu := { live.ctu with activation := some (0, 0) } } .tariffActivation
    (DueNow a .secondTick ∧ 3999 ≤ a.ctu.phaseCount ∧ a.ctu.time.second < 86399 ∧ hasHeld runningMeter = false)
      ∧ (DueNow z .secondTick ∧ z.ctu.time.second = 86399)
      ∧ (DueNow b .tariffActivation ∧ activationDue b.ctu = true ∧ TickLaw b ∧ Due.demandBlockEnd ∉ b.due) := by decide +kernel

/-- Clocks at the edges of the clock law, with an activation held. -/
theorem witness_SecondEvents_clock :
    let s : State := { live with ctu := { live.ctu with phaseCount := 3999, time := ⟨65535, 86399, 6⟩, activation := some (5, 0) } }
    ClockLaw s ∧ ClockLaw live ∧ s.ctu.activation = some (5, 0) := by
  unfold ClockLaw
  decide +kernel

theorem witness_SecondEvents_blockEnd :
    let c := (withTick live .demandBlockEnd).setMeter 0 runningMeter
    let taken : Meter := { runningMeter with lastTag := some (c.rif.ext - 1) }
    (TickLaw c ∧ c.ctu.tick = some activatedTick ∧ DueNow c .demandBlockEnd)
      ∧ (hasHeld (c.meter 0) = false ∧ (c.meter 0).running = true ∧ (c.meter 0).lastTag ≠ some (c.rif.ext - 1)
        ∧ (c.meter 1).running = false ∧ (c.meter 0).record.isSome = true)
      ∧ taken.lastTag = some (c.rif.ext - 1) ∧ taken.deferral.isNone = true ∧ c.mbu.ring.length ≤ 57 := by decide +kernel

theorem witness_SecondEvents_heldOver :
    let d := (withDue live (.heldOverApply 0)).setMeter 0 { runningMeter with heldBlock := some ⟨zeroTime, 900⟩ }
    let e := d.setMeter 0 { d.meter 0 with heldBoundary := some ⟨.dayEnd, zeroTime, 1, 2, true, false⟩ }
    (DueNow d (.heldOverApply 0) ∧ hasHeld (d.meter 0) = true ∧ (d.meter 0).running = true ∧ (d.meter 0).heldBlock.isSome = true
        ∧ (d.meter 0).heldBoundary.isNone = true)
      ∧ (DueNow e (.heldOverApply 0) ∧ (e.meter 0).running = true ∧ (e.meter 0).heldBlock.isSome = true
        ∧ (e.meter 0).heldBoundary.isSome = true ∧ (e.meter 0).record.isSome = true ∧ (e.meter 0).deferral.isNone = true) := by
  decide +kernel

/-- An event named while the checks of a tick are still due. -/
theorem witness_SecondEvents_order :
    let s : State := { withTick live .ringUp with due := [.tariffActivation, .demandBlockEnd, .ringUp] }
    let u : State := { s with due := [.demandBlockEnd, .ringUp] }
    (TickLaw s ∧ s.resetHeld = false ∧ dueOf .ringUp = some .ringUp ∧ dueOf .demandBlockEnd = some .demandBlockEnd
        ∧ Due.ringUp ∈ s.due ∧ Due.tariffActivation ∈ s.due)
      ∧ (TickLaw u ∧ Due.tariffActivation ∉ u.due ∧ Due.demandBlockEnd ∈ u.due ∧ Due.ringUp ∈ u.due) := by decide +kernel

theorem witness_BandInForce :
    (∀ i, vget (Vector.replicate 16 (none : Option TariffEntry)) i = none)
      ∧ ∃ i e, vget dayTable i = some e ∧ (e.mask.getLsbD 4 && decide (e.start ≤ 79199 / 60)) = true :=
  ⟨by decide +kernel, 1, ⟨2, 31, 420, 2350⟩, by decide +kernel⟩

theorem witness_ClockRequests :
    let held : State := { live with ctu := { live.ctu with activation := some (13, 36000) } }
    let loaded : State := { live with ctu := { live.ctu with pendingTable := dayTable } }
    (AtHead (withHead live 5 [0, 13, 1, 0x51, 0x80, 6]) (requestWith 5 [0, 13, 1, 0x51, 0x80, 6]) []
        ∧ natOf (field [0, 13, 1, 0x51, 0x80, 6] 2 3) = 86400 ∧ natOf (field [0, 13, 1, 0x51, 0x7F, 6] 2 3) = 86399)
      ∧ (AtHead (withHead held 5 [0, 13, 0, 0x9C, 0x40, 5]) (requestWith 5 [0, 13, 0, 0x9C, 0x40, 5]) []
        ∧ timeAtOrBefore 13 36000 ⟨13, 40000, 5⟩ = true ∧ timeAtOrBefore 13 36000 ⟨13, 35999, 5⟩ = false)
      ∧ (AtHead (withHead live 6 [0, 1, 1, 127, 0, 0, 7, 8]) (requestWith 6 [0, 1, 1, 127, 0, 0, 7, 8]) []
        ∧ tariffArgument [0, 1, 1, 127, 0, 0, 7, 8] = some (0, some ⟨1, 127, 0, 1800⟩) ∧ tariffArgument [16, 0, 0, 0, 0, 0, 0, 0] = none
        ∧ live.ctu.activation = none ∧ held.ctu.activation ≠ none)
      ∧ (AtHead (withHead loaded 7 [0, 13, 0, 0x8C, 0xA0]) (requestWith 7 [0, 13, 0, 0x8C, 0xA0]) []
        ∧ tariffFault loaded.ctu.pendingTable = none ∧ tariffFault live.ctu.pendingTable = some (.gap 0)
        ∧ natOf (field [0, 13, 1, 0x51, 0x80] 2 3) = 86400)
      ∧ AtHead (withHead held 8 []) (requestWith 8 []) [] := by decide +kernel

/-- Meters at a SET CLOCK with room in the ring, without room, and deferred; and tables whose first failure is a gap or an overlap. -/
theorem witness_ClockRequests_meters :
    let s := (withHead live 5 [0, 13, 0, 0x9C, 0x40, 5]).setMeter 0 runningMeter
    let full : State := { s with mbu := { s.mbu with nextRecord := 4294967296 } }
    (AtHead s (requestWith 5 [0, 13, 0, 0x9C, 0x40, 5]) [] ∧ hasHeld (s.meter 0) = false ∧ (s.meter 0).running = true
        ∧ (s.meter 0).record.isSome = true ∧ (s.meter 0).deferral.isNone = true ∧ s.mbu.ring.length ≤ 57 ∧ s.mbu.nextRecord ≤ 4294967289)
      ∧ (4294967295 < full.mbu.nextRecord ∧ (full.meter 0).running = true ∧ (s.meter 1).running = false)
      ∧ ({ runningMeter with deferral := some ⟨.dayEnd, zeroTime, none, 1, none⟩ } : Meter).deferral.isSome = true := by decide +kernel

theorem witness_ClockRequests_tables :
    OpensDay dayTable 0 ∧ ¬ OpensDay (Vector.replicate 16 none) 0
      ∧ ¬ StartsApart (vset (vset (Vector.replicate 16 none) 2 (some ⟨1, 127, 0, 5⟩)) 7 (some ⟨2, 127, 0, 6⟩)) 0 := by
  refine ⟨?_, ?_, ?_⟩
  · exact ⟨0, ⟨1, 127, 0, 1800⟩, by decide, by decide, rfl⟩
  · rintro ⟨i, e, h, -⟩
    have : ∀ i : Slot, vget (Vector.replicate 16 (none : Option TariffEntry)) i = none := by decide
    rw [this i] at h
    cases h
  · intro h
    exact h 2 7 ⟨1, 127, 0, 5⟩ ⟨2, 127, 0, 6⟩ (by decide) (by decide) (by decide) (by decide) (by decide) rfl

theorem witness_EnergyAndCharge :
    let m : Meter := { Meter.reset with record := some (openedRecord none none zeroTime (newEntry 2 2350 true) false false) }
    (0 : Int) < 1 ∧ (-1 : Int) < 0 ∧ m.record.map (·.entries) = some ([] ++ [newEntry 2 2350 true])
      ∧ m.importReg + (accrueSecond 1 1 1 m).2.1 < 2 ^ 64 := by decide +kernel

theorem witness_BillingRequests :
    let c : ClosedRecord :=
      { number := 201, session := none, berth := 1, account := none, openedAt := zeroTime, closedAt := zeroTime, reason := .sessionEnd,
        entries := [], peakDemand := 0, substituted := 0, gap := 0, mixed := false, unverified := false, clockUnset := false,
        noTariff := false }
    let s : State := { live with mbu := { live.mbu with ring := [c] } }
    let q := ({ s with mbu := { s.mbu with queue := [2], nextRecord := 4294967295 } } : State).setMeter 2
      { Meter.reset with
        record := some (openedRecord none none zeroTime (newEntry 2 2350 true) false false)
        deferral := some ⟨.bandChange, zeroTime, some false, 1, none⟩ }
    (AtHead (withHead live 19 []) (requestWith 19 []) [] ∧ live.mbu.ring = [] ∧ s.mbu.ring = c :: [])
      ∧ (AtHead (withHead s 20 [0, 0, 0, 201]) (requestWith 20 [0, 0, 0, 201]) [] ∧ c.number = natOf [0, 0, 0, 201]
        ∧ c.number ≠ natOf [0, 0, 0, 202] ∧ s.mbu.queue = [])
      ∧ (q.mbu.queue = 2 :: [] ∧ q.mbu.nextRecord ≤ 4294967295 ∧ (q.meter 2).record.isSome = true ∧ (q.meter 2).deferral.isSome = true) := by
  decide +kernel

/-- The meters of the account boundaries, starts and ends of metering: one that runs with room and with none, one in a deferred record
below four entries and at four, one whose deferred record is final, one with a block end held over, and one that does not run. -/
theorem witness_BillingRequests_meters :
    let x := newEntry 2 2350 true
    let o := openedRecord none none zeroTime x false false
    let m : Meter := { Meter.reset with running := true, record := some o }
    let d : Deferral := ⟨.bandChange, zeroTime, some false, 1, none⟩
    let full : State := { live with mbu := { live.mbu with nextRecord := 4294967296 } }
    (Meter.reset.running = false ∧ hasHeld m = false ∧ m.finalPending = false ∧ m.deferral = none)
      ∧ (live.mbu.ring.length < 64 ∧ live.mbu.nextRecord ≤ 4294967295 ∧ 4294967295 < full.mbu.nextRecord)
      ∧ (({ m with deferral := some d } : Meter).deferral ≠ none ∧ o.entries.length < 4
        ∧ ({ o with entries := [x, x, x, x] } : OpenRecord).entries = [x, x, x, x])
      ∧ (let f : Meter := { Meter.reset with record := some o, deferral := some d, finalPending := true }
        f.finalPending = true ∧ hasHeld f = false)
      ∧ ({ m with heldBlock := some ⟨zeroTime, 900⟩ } : Meter).heldBlock.isSome = true := by decide +kernel

theorem witness_ConfigurationRequests :
    let image := moduleImage ModuleEntry.reset
    (AtHead (withHead configured 2 (3 :: 0 :: image)) (requestWith 2 (3 :: 0 :: image)) [] ∧ imageSize 3 = some image.length
        ∧ entryNamed 3 0 = some (.module 0) ∧ entryNamed 3 8 = none ∧ configured.operating = false
        ∧ entryInRange (setEntryImage configured.cfs.tables (.module 0) image) (.module 0) = true
        ∧ entryInRange (setEntryImage configured.cfs.tables (.module 0) [2, 0, 0, 0, 0]) (.module 0) = false)
      ∧ (live.operating = true ∧ live.cfs.invalid = false ∧ invalidated.operating = true ∧ invalidated.cfs.invalid = true)
      ∧ (let t := setEntryImage invalidated.cfs.tables (.node 5) (nodeImage (nodeEntryOf 2 0))
        entryInRange t (.node 5) = true ∧ invalidated.repairConflict t (.node 5) = true)
      ∧ (∀ e ∈ [EntryRef.station, .node 1, .node 5, .berth 0, .module 0, .breaker (.pb 0), .reaction 12],
        entryInRange (setEntryImage invalidated.cfs.tables e (entryImage someTables e)) e = true
          ∧ invalidated.repairConflict (setEntryImage invalidated.cfs.tables e (entryImage someTables e)) e = false)
      ∧ ((moduleIn invalidated .bound).module 0).state = .bound ∧ ((moduleIn invalidated .bound).module 0).berth = some 0
      ∧ AtHead (withHead configured 3 [0, 0, 0, 0]) (requestWith 3 [0, 0, 0, 0]) []
      ∧ firstInconsistent Tables.reset = some .station ∧ firstInconsistent { someTables with station := { StationEntry.reset with controller := 1 } } = none
      ∧ AtHead (withHead live 4 []) (requestWith 4 []) [] ∧ (∀ b, (live.session b).state = .idle ∨ (live.session b).state = .faulted)
      ∧ ((inState live .shore).session 0).state ≠ .idle := by decide +kernel

/-- Four argument bytes can carry the image's signature, and another value than it. -/
theorem witness_ConfigurationRequests_signature (x : BitVec 32) :
    x = BitVec.ofNat 32 (natOf (bytesOf 4 x.toNat)) ∧ x ≠ x + 1 := by
  constructor
  · simp [bytesOf, natOf]; bv_omega
  · bv_omega

theorem witness_ConfigEvents :
    let a : State := withDue { configured with cfs := { configured.cfs with timer := some 0 } } .configTimeout
    let scrub (st : WalkerState) (n : Nat) : State :=
      withDue { live with cfs := { live.cfs with walker := ⟨st, n, 3, 0, 0, none⟩ } } .scrubRead
    (DueNow a .configTimeout ∧ a.operating = false ∧ a.cfs.timer = some 0)
      ∧ (∀ st ∈ [WalkerState.running, .verifying], ∀ n ∈ [0, 63, 64],
        DueNow (scrub st n) .scrubRead ∧ (scrub st n).operating = true ∧ (scrub st n).cfs.walker.state ≠ .stopped
          ∧ 3 ≤ (scrub st n).cfs.walker.spacing ∧ (allEntries[(scrub st n).cfs.walker.position]?).isSome = true)
      ∧ (scrub .running 64).cfs.signature ≠ some 0 := by decide +kernel

theorem witness_ConfigEvents_match :
    let crc := crc32Fold 0 (entryImage someTables (.reaction 12))
    ({ live with cfs := { live.cfs with signature := some (~~~ crc) } } : State).cfs.signature = some (~~~ crc) := by decide +kernel

theorem witness_EntryImages :
    (∀ e ∈ [(0, 0), (1, 1), (1, 31), (2, 3), (3, 7), (4, 0), (4, 7), (5, 12)],
        (entryNamed (BitVec.ofNat 8 e.1) (BitVec.ofNat 8 e.2)).isSome = true)
      ∧ imageSize 2 = some (List.replicate 45 (0 : Byte)).length ∧ EntryRef.node 3 ≠ .station := by decide

theorem witness_RequestIntake :
    (Settled live ∧ (requestArrivalOf 5 1 [0, 7, 19]).whole = true
        ∧ checksGood .mrq (arrivalFrame (nibbleOf .mrq) (requestArrivalOf 5 1 [0, 7, 19])) = true ∧ (5 : Byte) ≠ 0)
      ∧ ((requestArrivalOf 0 1 [0, 7, 19]).dest = 0 ∧ (requestArrivalOf 0 1 [0, 7, 19]).source ≠ 0 ∧ live.mrh.responses.length < 16)
      ∧ (let r : Response := ⟨1, 1, 1, done⟩
        16 ≤ ({ live with mrh := { live.mrh with responses := List.replicate 16 r } } : State).mrh.responses.length
          ∧ ({ live with mrh := { live.mrh with responses := List.replicate 15 r } } : State).mrh.responses.length < 16)
      ∧ live.sourceAccepted 2 = false ∧ live.sourceAccepted 1 = true ∧ State.reset.sourceAccepted 2 = true
      ∧ (1 ≤ (26 : Byte).toNat ∧ (26 : Byte).toNat ≤ 26) ∧ ¬ (1 ≤ (27 : Byte).toNat ∧ (27 : Byte).toNat ≤ 26) := by decide +kernel

/-- Requests with other lengths than their codes require, a WRITE TABLE ENTRY among them. -/
theorem witness_RequestIntake_lengths :
    (AtHead (withHead live 1 [5]) (requestWith 1 [5]) [] ∧ ([5] : List Byte).length ≠ 2)
      ∧ (AtHead (withHead live 4 [0]) (requestWith 4 [0]) [] ∧ ([0] : List Byte).length ≠ 0)
      ∧ (AtHead (withHead live 2 [5, 0]) (requestWith 2 [5, 0]) [] ∧ imageSize 5 = some 1 ∧ ([5, 0] : List Byte).length ≠ 1 + 2)
      ∧ AtHead (withHead live 2 [6, 0]) (requestWith 2 [6, 0]) [] ∧ imageSize 6 = none := by decide +kernel

theorem witness_ReadRequests :
    (AtHead (withHead live 1 [5, 12]) (requestWith 1 [5, 12]) [] ∧ entryNamed 5 12 = some (.reaction 12) ∧ entryNamed 5 13 = none)
      ∧ (AtHead (withHead live 21 [3]) (requestWith 21 [3]) [] ∧ berthOf 3 = some 3 ∧ berthOf 4 = none)
      ∧ AtHead (withHead live 22 []) (requestWith 22 []) []
      ∧ (AtHead (withHead live 23 [0, 7]) (requestWith 23 [0, 7]) [] ∧ scopeOf (0 : Byte).toNat = some .station
        ∧ scopeOf (4 : Byte).toNat = some (.berth 3) ∧ (live.statusSection .station 7).isSome = true
        ∧ live.statusSection .station 8 = none ∧ live.statusSection (.berth 3) 5 = none ∧ 4 < (5 : Byte).toNat)
      ∧ AtHead (withHead live 24 [4]) (requestWith 24 [4]) [] := by decide +kernel

theorem witness_EventFlags :
    let m := { live.mrh with latched := live.mrh.latched.set .station 1, masked := live.mrh.masked.set .station 2 }
    ((m.latched.get .station).getLsbD 0 = true ∧ (m.latched.get .station).getLsbD 1 = false ∧ (m.masked.get .station).getLsbD 1 = true
        ∧ (m.masked.get .station).getLsbD 13 = false)
      ∧ (AtHead (withHead live 25 [4, 0, 1]) (requestWith 25 [4, 0, 1]) [] ∧ scopeOf (4 : Byte).toNat = some (.berth 3) ∧ 4 < (5 : Byte).toNat)
      ∧ AtHead (withHead live 26 [0, 0, 1]) (requestWith 26 [0, 0, 1]) [] := by decide +kernel

/-- A scope's notice queued between two others, with and without the flag. -/
theorem witness_EventFlags_notices :
    let l : List Notice := [⟨.berth 1, [0]⟩, ⟨.station, [3]⟩, ⟨.berth 0, [5]⟩]
    l = [⟨.berth 1, [0]⟩] ++ ⟨.station, [3]⟩ :: [⟨.berth 0, [5]⟩]
      ∧ (∀ y ∈ ([⟨.berth 1, [0]⟩] ++ [⟨.berth 0, [5]⟩] : List Notice), y.scope ≠ .station) ∧ 2 ∉ [3] ∧ 3 ∈ [3]
      ∧ ∀ x ∈ l, x.scope ≠ .berth 2 := by decide

/-- Two steps from states that meet the laws: the idle step, and a cycle boundary of a live station. -/
theorem witness_steps : step State.reset = .next State.reset
    ∧ ∃ t, step { live with pending := [.cycleBoundary false] } = .next t := by
  refine ⟨?_, ?_⟩
  · simp only [step, show State.reset.pending = [] from rfl]
  · simp only [step, exec, execCycleBoundary]
    exact ⟨_, rfl⟩

theorem witness_ClampKept : (∀ b : Berth, (State.reset.osc b).fnom = 50000 ∧ (State.reset.session b).fnom = none)
    ∧ ∃ t, step State.reset = .next t := ⟨by decide, _, witness_steps.1⟩

theorem witness_ShoreShareKept : (∀ b : Berth, (State.reset.session b).share = 0) ∧ ∃ t, step State.reset = .next t :=
  ⟨by decide, _, witness_steps.1⟩

/-- A queue of two notices that keeps the notice law. -/
theorem witness_NoticeLaw :
    let s : State := { live with mrh := { live.mrh with notices := [⟨.station, [3, 4]⟩, ⟨.berth 0, [5]⟩] } }
    NoticeLaw s ∧ NoticeLaw State.reset := by
  unfold NoticeLaw
  decide +kernel

theorem witness_QueuesRingAndClockKept :
    (State.reset.mrh.count = 0 ∧ State.reset.mbu.ring = [] ∧ State.reset.ctu.time = zeroTime ∧ TickLaw State.reset)
      ∧ ∃ t, step State.reset = .next t :=
  ⟨by decide, _, witness_steps.1⟩

end Sys2Proof.Tests
end

/-! PROOFS. The oscillator bank: the operations that leave the oscillator records as they are. Each lemma says that one operation
returns the bank it was given, so that no proof about oscillators opens these operations again. -/

namespace Sys2Proof.Machine

open Sys2Proof

/-! ## Changes made for each member of a list or for each number -/

/-- A change made for each member of a list keeps what each single change keeps. -/
theorem foldl_keeps {ι α : Type} (part : State → α) (f : State → ι → State) (h : ∀ s i, part (f s i) = part s) (l : List ι)
    (s : State) : part (l.foldl f s) = part s := by
  induction l generalizing s with
  | nil => rfl
  | cons i l ih => exact (ih _).trans (h s i)

/-- A change made for each number keeps the bank when each single change does. -/
theorem forEach_rob {n : Nat} (f : Fin n → State → State) (h : ∀ i s, (f i s).rob = s.rob) (s : State) :
    (forEach f s).rob = s.rob := foldl_keeps State.rob _ (fun s i => h i s) _ s

/-! ## The meter (09) -/

@[simp] theorem placeRecord_rob (s : State) (b : Berth) (r : OpenRecord) (closedAt : StationTime) (reason : CloseReason) :
    (s.placeRecord b r closedAt reason).rob = s.rob := by
  simp [State.placeRecord]

@[simp] theorem deferClosure_rob (s : State) (b : Berth) (d : Deferral) : (s.deferClosure b d).rob = s.rob := by
  simp [State.deferClosure]

@[simp] theorem applyBoundary_rob (s : State) (b : Berth) (a : AcctBoundary) : (s.applyBoundary b a).rob = s.rob := by
  simp only [State.applyBoundary]
  split
  · split <;> simp
  · simp
  · rfl

@[simp] theorem flushHeld_rob (s : State) (b : Berth) : (s.flushHeld b).rob = s.rob := by
  simp only [State.flushHeld]
  split <;> simp

@[simp] theorem startMetering_rob (s : State) (b : Berth) (session : Option Nat) (account : Option (BitVec 32)) (restart : Bool) :
    (s.startMetering b session account restart).rob = s.rob := by
  simp only [State.startMetering]
  split <;> simp

@[simp] theorem endMetering_rob (s : State) (b : Berth) (reason : CloseReason) : (s.endMetering b reason).rob = s.rob := by
  simp only [State.endMetering]
  split
  · split
    · split <;> split <;> simp
    · simp
    · simp
  · rfl

@[simp] theorem substitutedCycle_rob (s : State) (b : Berth) (n : Ext) : (s.substitutedCycle b n).rob = s.rob := by
  simp only [State.substitutedCycle]
  split <;> split <;> simp

@[simp] theorem mbuConfigEntry_rob (s : State) : s.mbuConfigEntry.rob = s.rob :=
  forEach_rob _ (fun b s => endMetering_rob s b .fault) s

/-! ## The breakers (05) -/

@[simp] theorem concludeMeasurement_rob (s : State) (k : Breaker) (result : Option Nat) :
    (s.concludeMeasurement k result).rob = s.rob := by
  simp only [State.concludeMeasurement]
  split <;> simp

@[simp] theorem issueOpen_rob (s : State) (k : Breaker) : (s.issueOpen k).rob = s.rob := setBreaker_rob _ _ _

@[simp] theorem issueClose_rob (s : State) (k : Breaker) : (s.issueClose k).rob = s.rob := setBreaker_rob _ _ _

@[simp] theorem closeRequest_rob (s : State) (k : Breaker) : (s.closeRequest k).1.rob = s.rob := by
  simp only [State.closeRequest]
  split <;> simp

@[simp] theorem tripBreaker_rob (s : State) (k : Breaker) : (s.tripBreaker k).rob = s.rob := by
  simp only [State.tripBreaker]
  split
  · simp
  · split <;> simp
  · rfl

@[simp] theorem tripBreakers_rob (s : State) (b : Berth) : (s.tripBreakers b).rob = s.rob := by
  simp [State.tripBreakers]

@[simp] theorem breakerConfigEntry_rob (k : Breaker) (s : State) : (s.breakerConfigEntry k).rob = s.rob := by
  simp only [State.breakerConfigEntry]
  split <;> simp

@[simp] theorem bsyConfigEntry_rob (s : State) : s.bsyConfigEntry.rob = s.rob :=
  (forEach_rob _ (fun _ _ => setSync_rob _ _ _) _).trans
    ((forEach_rob _ (fun _ s => breakerConfigEntry_rob _ s) _).trans (forEach_rob _ (fun _ s => breakerConfigEntry_rob _ s) s))

/-! ## The session's cap and the plug breaker's close (06) -/

@[simp] theorem formCap_rob (s : State) (b : Berth) : (s.formCap b).rob = s.rob := rfl

@[simp] theorem pbCloseComplete_rob (s : State) (b : Berth) : (s.pbCloseComplete b).rob = s.rob := by
  simp only [State.pbCloseComplete]
  split <;> simp

@[simp] theorem presentPbClose_rob (s : State) (b : Berth) : (s.presentPbClose b).rob = s.rob := by
  simp only [State.presentPbClose]
  split <;> simp

/-! ## The modules (04) -/

@[simp] theorem issueProtection_rob (s : State) (m : ModuleId) : (s.issueProtection m).rob = s.rob := rfl

@[simp] theorem protect_rob (s : State) (m : ModuleId) : (s.protect m).rob = s.rob := by
  simp only [State.protect]
  split
  · rfl
  · split <;> simp

@[simp] theorem removeOps_rob (s : State) (m : ModuleId) : (s.removeOps m).rob = s.rob := rfl

@[simp] theorem queueOp_rob (s : State) (m : ModuleId) (op : QueuedOp) : (s.queueOp m op).rob = s.rob := rfl

@[simp] theorem beginStopPhase_rob (s : State) (m : ModuleId) : (s.beginStopPhase m).rob = s.rob := rfl

@[simp] theorem releaseOne_rob (s : State) (m : ModuleId) : (s.releaseOne m).rob = s.rob := by
  simp only [State.releaseOne]
  split
  · split
    · simp
    · simp
    · simp
    · split <;> simp
  · rfl

@[simp] theorem tripModule_rob (s : State) (m : ModuleId) : (s.tripModule m).rob = s.rob := by
  simp only [State.tripModule]
  split
  · split <;> simp
  · split <;> split <;> simp

@[simp] theorem startModule_rob (s : State) (m : ModuleId) (b : Berth) : (s.startModule m b).rob = s.rob := rfl

@[simp] theorem pickAll_rob (s : State) (b : Berth) (n : Nat) : (s.pickAll b n).1.rob = s.rob := by
  induction n generalizing s with
  | zero => rfl
  | succ n ih =>
    simp only [State.pickAll]
    split
    · exact (ih _).trans (startModule_rob s _ b)
    · rfl

@[simp] theorem mpmConfigEntry_rob (s : State) : s.mpmConfigEntry.rob = s.rob := rfl

/-! ## The records of points and nodes (01, 02) -/

@[simp] theorem resetPoints_rob (s : State) (l : List Point) : (s.resetPoints l).rob = s.rob :=
  foldl_keeps State.rob _ (fun s p => setMeas_rob s p _) l s

@[simp] theorem renewHealth_rob (s : State) (n : NodeIx) : (s.renewHealth n).rob = s.rob := rfl

@[simp] theorem addDueOnce_rob (s : State) (d : Due) : (s.addDueOnce d).rob = s.rob := by
  simp only [State.addDueOnce]
  split <;> rfl

/-! ## The configuration store (10) -/

@[simp] theorem repairEffects_rob (s : State) (old : Tables) (e : EntryRef) : (s.repairEffects old e).rob = s.rob := by
  cases e with
  | node n =>
    simp only [State.repairEffects]
    split <;> split <;> simp
  | module m =>
    simp only [State.repairEffects]
    split <;> simp
  | berth b => simp [State.repairEffects]
  | station | breaker _ | reaction _ => rfl

@[simp] theorem acceptWrite_rob (s : State) (e : EntryRef) (t : Tables) : (s.acceptWrite e t).rob = s.rob := by
  simp only [State.acceptWrite]
  split <;> simp

@[simp] theorem writeEntry_rob (s : State) (table entry : Byte) (image : List Byte) :
    (s.writeEntry table entry image).1.rob = s.rob := by
  simp only [State.writeEntry]
  split
  · rfl
  · split
    · rfl
    · split
      · rfl
      · split <;> simp

@[simp] theorem enterOperate_rob (s : State) (sig : BitVec 32) : (s.enterOperate sig).rob = s.rob := rfl

@[simp] theorem commitTables_rob (s : State) (sig : BitVec 32) : (s.commitTables sig).1.rob = s.rob := by
  simp only [State.commitTables]
  split
  · rfl
  · split
    · rfl
    · split
      · rfl
      · split
        · rfl
        · simp

@[simp] theorem enterConfig_rob (s : State) : s.enterConfig.rob = s.rob := by
  simp [State.enterConfig, State.resetHealth, State.resetMeas]

@[simp] theorem configTimeout_rob (s : State) : s.configTimeout.rob = s.rob := by
  simp only [State.configTimeout]
  split <;> simp

end Sys2Proof.Machine

/-! PROOFS. The oscillator bank under operations that change oscillator modes. `tones` is the bank without what a change of mode may
write: phase, increment, setpoint and nominal frequency of each oscillator stay in it. Operations that enter sessions into states other
than RESERVING keep `tones`. A point cycle without samples cannot cross, so the one way it reaches an oscillator is a trip by its peak
current; it keeps `tones` as well (R20, R39, R125, R130). -/

namespace Sys2Proof.Machine

open Sys2Proof

/-- An oscillator record with what a change of mode may write put to its reset value (R39). -/
def toneOf (o : Osc) : Osc := { o with mode := .free, slew := 0, watchdog := 0, holdover := false }

/-- The bank with what changes of mode may write put to its reset value. -/
def tones (v : Vector Osc 4) : Vector Osc 4 := vmapIx (fun _ o => toneOf o) v

/-- Two banks have the same tones exactly when each oscillator has the same phase, increment, setpoint and nominal frequency. -/
theorem tones_eq_iff (s t : State) : tones t.rob = tones s.rob ↔ ∀ b,
    (t.osc b).phase = (s.osc b).phase ∧ (t.osc b).k = (s.osc b).k ∧ (t.osc b).fset = (s.osc b).fset
      ∧ (t.osc b).fnom = (s.osc b).fnom := by
  constructor
  · intro h b
    have hb : toneOf (t.osc b) = toneOf (s.osc b) := by
      simpa [tones, State.osc] using congrArg (fun v => vget v b) h
    simpa [toneOf] using hb
  · intro h
    refine vget_ext fun b => ?_
    simpa [tones, toneOf, State.osc] using h b

/-! ## Changes of mode (R39) -/

/-- A change of mode touches neither phase, increment, setpoint nor nominal frequency (R39). -/
theorem toneOf_changeMode (o : Osc) (m : OscMode) : toneOf (changeMode o m) = toneOf o := by
  unfold changeMode
  split <;> rfl

/-- The entry of a session into any state but RESERVING changes at most a mode (R39, R40). -/
@[simp] theorem enterState_tones (s : State) (b : Berth) {st : SessionState} (h : st ≠ .reserving) :
    tones (s.enterState b st).rob = tones s.rob := by
  refine vget_ext fun c => ?_
  simp only [tones, vget_vmapIx]
  by_cases hc : c = b
  · subst hc
    exact (congrArg toneOf (enterState_osc_self s c st h)).trans (toneOf_changeMode _ _)
  · exact congrArg toneOf (enterState_osc_ne s st hc)

/-! ## Holdings, releases and grants (04, 06) -/

@[simp] theorem idleEntry_tones (s : State) (b : Berth) : tones (s.idleEntry b).rob = tones s.rob := by
  simp [State.idleEntry]

@[simp] theorem tryIdle_tones (s : State) (b : Berth) : tones (s.tryIdle b).rob = tones s.rob := by
  simp only [State.tryIdle]
  split <;> simp

@[simp] theorem changeOfHoldings_tones (s : State) (b : Berth) : tones (s.changeOfHoldings b).rob = tones s.rob := by
  simp only [State.changeOfHoldings]
  split <;> simp

@[simp] theorem releaseModules_tones (s : State) (b : Berth) (l : List ModuleId) :
    tones (s.releaseModules b l).rob = tones s.rob := by
  have released : (l.foldl State.releaseOne s).rob = s.rob := foldl_keeps State.rob _ releaseOne_rob l s
  simp only [State.releaseModules]
  split <;> simp [released]

@[simp] theorem releaseBerth_tones (s : State) (b : Berth) : tones (s.releaseBerth b).rob = tones s.rob :=
  releaseModules_tones s b _

@[simp] theorem grantPresented_tones (s : State) (b : Berth) (l : List ModuleId) :
    tones (s.grantPresented b l).rob = tones s.rob := by
  simp only [State.grantPresented]
  split <;> simp

@[simp] theorem grantHead_tones (s : State) (e : AllocEntry) : tones (s.grantHead e).rob = tones s.rob := by
  simp [State.grantHead]

@[simp] theorem grantLoop_tones (s : State) (n : Nat) : tones (s.grantLoop n).rob = tones s.rob := by
  induction n generalizing s with
  | zero => rfl
  | succ n ih =>
    simp only [State.grantLoop]
    split
    · split
      · exact (ih _).trans (grantHead_tones s _)
      · rfl
    · rfl

@[simp] theorem grantEvaluation_tones (s : State) : tones s.grantEvaluation.rob = tones s.rob := by
  simp only [State.grantEvaluation]
  split <;> simp

@[simp] theorem cancelAlloc_tones (s : State) (b : Berth) : tones (s.cancelAlloc b).rob = tones s.rob := by
  simp only [State.cancelAlloc]
  split
  · split <;> simp
  · rfl

/-! ## Trips (R80, R117, R130, R131) -/

@[simp] theorem drainReturn_tones (s : State) (b : Berth) : tones (s.drainReturn b).rob = tones s.rob := by
  simp only [State.drainReturn]
  split <;> simp

@[simp] theorem pbDrained_tones (s : State) (b : Berth) : tones (s.pbDrained b).rob = tones s.rob := by
  simp [State.pbDrained]

@[simp] theorem pbOpenComplete_tones (s : State) (b : Berth) : tones (s.pbOpenComplete b).rob = tones s.rob := by
  simp only [State.pbOpenComplete]
  split
  · split <;> simp
  · split <;> simp
  · rfl

@[simp] theorem tripPbComplete_tones (s : State) (b : Berth) : tones (s.tripPbComplete b).rob = tones s.rob := by
  simp only [State.tripPbComplete]
  split <;> simp

@[simp] theorem tripModules_tones (s : State) (b : Berth) : tones (s.tripModules b).rob = tones s.rob :=
  (changeOfHoldings_tones _ b).trans (congrArg tones (foldl_keeps State.rob _ tripModule_rob _ s))

@[simp] theorem enterFaulted_tones (s : State) (b : Berth) : tones (s.enterFaulted b).rob = tones s.rob := by
  simp only [State.enterFaulted]
  split <;> simp

@[simp] theorem setRestartTimer_rob (s : State) (b : Berth) : (s.setRestartTimer b).rob = s.rob := setSuperv_rob s b _

@[simp] theorem warnFault_rob (s : State) (b : Berth) (k : FaultKind) : (s.warnFault b k).rob = s.rob := by
  simp [State.warnFault]

@[simp] theorem trip_tones (s : State) (b : Berth) (k : FaultKind) (c : FaultClass) :
    tones (s.trip b k c).rob = tones s.rob := by
  simp [State.trip]

@[simp] theorem laterFault_tones (s : State) (b : Berth) (k : FaultKind) (c : FaultClass) :
    tones (s.laterFault b k c).rob = tones s.rob := by
  simp [State.laterFault]

/-- A fault of any class touches neither phase, increment, setpoint nor nominal frequency of any oscillator. -/
@[simp] theorem fault_tones (s : State) (b : Berth) (k : FaultKind) : tones (s.fault b k).rob = tones s.rob := by
  simp only [State.fault]
  split
  · rfl
  · split
    · simp
    · split <;> simp

@[simp] theorem faultIf_tones (s : State) (raised : Bool) (b : Berth) (k : FaultKind) :
    tones (s.faultIf raised b k).rob = tones s.rob := by
  simp only [State.faultIf]
  split <;> simp

/-! ## Point cycles without samples (R20, R32) -/

@[simp] theorem superviseCurrent_tones (s : State) (b : Berth) : tones (s.superviseCurrent b).rob = tones s.rob := by
  simp only [State.superviseCurrent]
  split <;> simp

@[simp] theorem presentEveryCycle_tones (s : State) (p : Point) (n : Ext) (substituted : Bool) :
    tones (s.presentEveryCycle p n substituted).rob = tones s.rob := by
  cases p with
  | bus b =>
    simp only [State.presentEveryCycle]
    split <;> simp
  | plug b | ship b | incomer => rfl

/-- A sample that repeats the one before it does not cross (R20, R22). -/
theorem crosses_self (z : Int) (armed : Bool) : crosses z z armed = false := by
  have : ¬ (z ≤ 0 ∧ 0 < z) := by omega
  simp_all [crosses]

/-- A point cycle without a delivery presents no crossing (R20). -/
theorem pointCycle_none_validCross (p : Point) (n : Ext) (e : NodeEntry) (vnom : Option Nat) (r : MeasRecord) :
    (pointCycle p n e vnom none r).validCross = none := by
  simp [pointCycle, crosses_self]

/-- A point cycle without a delivery reaches no oscillator but by a trip, which changes its mode at most (R20, R32, R39). -/
@[simp] theorem runCycle_none_tones (s : State) (p : Point) (n : Ext) (e : NodeEntry) :
    tones (s.runCycle p n e none).rob = tones s.rob := by
  simp only [State.runCycle, pointCycle_none_validCross]
  split <;> simp

@[simp] theorem undelivered_tones (n : Ext) (s : State) (p : Point) : tones (s.undelivered n p).rob = tones s.rob := by
  simp only [State.undelivered]
  split
  · split <;> simp
  · rfl

/-- The point cycles that a boundary makes up for keep each oscillator's phase, increment, setpoint and nominal frequency. -/
@[simp] theorem undeliveredCycles_tones (s : State) : tones s.undeliveredCycles.rob = tones s.rob := by
  simp only [State.undeliveredCycles]
  split
  · exact foldl_keeps (fun s => tones s.rob) _ (undelivered_tones s.rif.ext) _ s
  · rfl

end Sys2Proof.Machine

/-! PROOFS. The statements about the reset and the phase of the reference oscillators (03). -/

namespace Sys2Proof.Machine

open Sys2Proof

/-! ## What a boundary does to the oscillators (R36, R41, R44) -/

/-- The boundary's counting takes each oscillator through its own boundary work, in both modes. -/
@[simp] theorem counted_osc (s : State) (b : Berth) : s.counted.osc b = boundaryOsc (s.osc b) := by
  have counts : s.counted.rob = s.countAlways.rob := by
    simp only [State.counted]
    split <;> rfl
  calc s.counted.osc b = s.countAlways.osc b := congrArg (fun v => vget v b) counts
    _ = boundaryOsc (s.osc b) := vget_vmapIx _ s.rob b

/-- In every mode the boundary advances the phase by the increment in force (R36). -/
@[simp] theorem boundaryOsc_phase (o : Osc) : (boundaryOsc o).phase = o.phase + o.k := by
  unfold boundaryOsc
  split <;> rfl

/-- In every mode the increment stays (R36). -/
@[simp] theorem boundaryOsc_k (o : Osc) : (boundaryOsc o).k = o.k := by
  unfold boundaryOsc
  split <;> rfl

/-- In every mode the setpoint stays (R36). -/
@[simp] theorem boundaryOsc_fset (o : Osc) : (boundaryOsc o).fset = o.fset := by
  unfold boundaryOsc
  split <;> rfl

@[simp] theorem turnCycle_osc (s : State) (b : Berth) : s.turnCycle.osc b = s.osc b := by
  simp only [State.turnCycle, State.concludeHealths, State.osc]

@[simp] theorem emission_rob (s : State) : s.emission.rob = s.rob := rfl

/-- A boundary counts on the state that the undelivered point cycles leave. -/
theorem boundaryWork_rob (s : State) : s.boundaryWork.rob = s.undeliveredCycles.turnCycle.counted.rob := by
  simp only [State.boundaryWork]

/-- A whole boundary does to an oscillator what its counting does on the state that the undelivered point cycles leave; the
emission, at once or deferred, touches no oscillator. -/
theorem boundary_osc (s : State) (deferEmission : Bool) (b : Berth) :
    (s.boundary deferEmission).osc b = boundaryOsc (s.undeliveredCycles.osc b) := by
  have work : (s.boundary deferEmission).rob = s.boundaryWork.rob := by
    simp only [State.boundary]
    split <;> simp
  calc (s.boundary deferEmission).osc b = s.undeliveredCycles.turnCycle.counted.osc b :=
        congrArg (fun v => vget v b) (work.trans (boundaryWork_rob s))
    _ = boundaryOsc (s.undeliveredCycles.osc b) := by rw [counted_osc, turnCycle_osc]

/-- CYCLE_BOUNDARY on a settled part that has sent its first cycle frame takes the boundary at once. -/
theorem exec_cycleBoundary_of_settled {s : State} (h : Settled s) (started : s.rif.started = true) (d : Bool) :
    exec (.cycleBoundary d) s = .next (s.quiet.boundary d) := by
  have taken : s.outside (fun u => if u.rif.started then u.boundary d else u) = s.quiet.boundary d := by
    rw [outside_of_settled h]
    exact if_pos started
  exact congrArg Host.Outcome.next taken

/-! ## The statements -/

/-- Settles O20: the reset bank holds the reset record; the changes of mode, the commits, the table writes and the configuration
timeout return the bank as it was; the counting advances the phase; the entry into RESERVING reinitialises. -/
theorem oscillatorReset : Obligations.OscillatorReset := by
  refine ⟨fun b => ?_, fun s => ⟨?_, ?_, ?_, ?_⟩, fun s b => ?_, fun s b f hf => ?_⟩
  · exact vget_replicate Osc.reset b
  · exact enterConfig_rob s
  · exact configTimeout_rob s
  · exact commitTables_rob s
  · exact writeEntry_rob s
  · rw [counted_osc, boundaryOsc_phase]
  · rw [enterState_osc_reserving, hf]
    rfl

/-- Settles O21: what a boundary does before it counts keeps phase, increment and setpoint (`undeliveredCycles_tones`), and the
counting advances the phase alone. -/
theorem phaseAdvance : Obligations.PhaseAdvance := by
  intro s d b settled started
  refine ⟨s.quiet.boundary d, exec_cycleBoundary_of_settled settled started d, ?_⟩
  obtain ⟨phase, k, fset, -⟩ := (tones_eq_iff _ _).mp (undeliveredCycles_tones s.quiet) b
  simp only [boundary_osc, boundaryOsc_phase, boundaryOsc_k, boundaryOsc_fset, phase, k, fset, quiet_osc, and_self]

end Sys2Proof.Machine

/-! PROOFS. The breakers (05): what each operation on a breaker record makes of it, one equation for each case of R77, R78 and R82, and
the statements about requests and about learning put together from them. -/

namespace Sys2Proof.Machine

open Sys2Proof

/-! ## Requests (R77, R78) -/

/-- A close request on an open breaker with no command in force issues a CLOSE (R77). -/
theorem closeRequest_none_open {s : State} {k : Breaker} (idle : (s.breaker k).command = .none)
    (st : (s.breaker k).status = .open) : s.closeRequest k = (s.issueClose k, .issued) := by
  simp only [State.closeRequest, idle, st]

/-- A close request on a closed breaker with no command in force is complete (R77). -/
theorem closeRequest_none_closed {s : State} {k : Breaker} (idle : (s.breaker k).command = .none)
    (st : (s.breaker k).status = .closed) : s.closeRequest k = (s, .complete) := by
  simp only [State.closeRequest, idle, st]

/-- With no command in force, a breaker that reads neither OPEN nor CLOSED refuses a close (R77). -/
theorem closeRequest_none_unsettled {s : State} {k : Breaker} (idle : (s.breaker k).command = .none)
    (st : (s.breaker k).status = .moving ∨ (s.breaker k).status = .fault) : s.closeRequest k = (s, .refused) := by
  rcases st with moving | fault
  · simp only [State.closeRequest, idle, moving]
  · simp only [State.closeRequest, idle, fault]

/-- A close request on a CLOSE in force has no effect (R77). -/
theorem closeRequest_close {s : State} {k : Breaker} (closing : (s.breaker k).command = .close) :
    s.closeRequest k = (s, .unchanged) := by
  simp only [State.closeRequest, closing]

/-- A close request on an OPEN in force is refused (R77). -/
theorem closeRequest_open {s : State} {k : Breaker} (opening : (s.breaker k).command = .open) :
    s.closeRequest k = (s, .refused) := by
  simp only [State.closeRequest, opening]

/-- An open request on an open breaker with no command in force is complete (R78). -/
theorem openRequest_none_open {s : State} {k : Breaker} (idle : (s.breaker k).command = .none)
    (st : (s.breaker k).status = .open) : s.openRequest k = (s, true) := by
  simp only [State.openRequest, idle, st, if_true]

/-- An open request on a breaker that does not read OPEN, with no command in force, issues an OPEN (R78). -/
theorem openRequest_none_notOpen {s : State} {k : Breaker} (idle : (s.breaker k).command = .none)
    (st : (s.breaker k).status ≠ .open) : s.openRequest k = (s.issueOpen k, false) := by
  simp only [State.openRequest, idle, st, if_false]

/-- An open request on an OPEN in force has no effect (R78). -/
theorem openRequest_open {s : State} {k : Breaker} (opening : (s.breaker k).command = .open) :
    s.openRequest k = (s, false) := by
  simp only [State.openRequest, opening]

/-- An open request on a withdrawn CLOSE has no effect (R78). -/
theorem openRequest_withdrawn {s : State} {k : Breaker} (closing : (s.breaker k).command = .close)
    (withdrawn : (s.breaker k).withdrawn = true) : s.openRequest k = (s, false) := by
  simp only [State.openRequest, closing, withdrawn, if_true]

/-- An open request on any other CLOSE withdraws it and leaves it in force (R78). -/
theorem openRequest_close {s : State} {k : Breaker} (closing : (s.breaker k).command = .close)
    (kept : (s.breaker k).withdrawn = false) :
    s.openRequest k = (s.setBreaker k { s.breaker k with withdrawn := true, withdrawCycle := s.ext }, false) := by
  simp [State.openRequest, closing, kept]

/-- A withdrawn CLOSE is written as no command (R76). -/
theorem breakerCode_withdrawn {r : BreakerRecord} (closing : r.command = .close) (withdrawn : r.withdrawn = true) :
    breakerCode r = 0 := by
  simp only [breakerCode, closing, withdrawn, if_true]

/-! ## The conclusion of a measurement (R81, R82) -/

/-- The record that a concluded measurement leaves (R81, R82). -/
theorem concludeMeasurement_breaker {s : State} {k : Breaker} (measuring : (s.breaker k).measuring = true) (v : Option Nat) :
    (s.concludeMeasurement k v).breaker k =
      { s.breaker k with
        measuring := false, lastMeasured := v, mark := false
        learned := if (s.breaker k).mark then v.getD (s.breaker k).learned else (s.breaker k).learned } := by
  simp only [State.concludeMeasurement, measuring, if_true, latchBerth_breaker, setBreaker_breaker_self]

/-- A plausible result of a marked breaker becomes its learned close time (R82). -/
theorem concludeMeasurement_learns {s : State} {k : Breaker} (measuring : (s.breaker k).measuring = true)
    (marked : (s.breaker k).mark = true) (n : Nat) : ((s.concludeMeasurement k (some n)).breaker k).learned = n := by
  simp only [concludeMeasurement_breaker measuring, marked, if_true, Option.getD_some]

/-- Without the mark, or without a plausible result, the learned close time stays (R82). -/
theorem concludeMeasurement_keeps {s : State} {k : Breaker} (measuring : (s.breaker k).measuring = true) {v : Option Nat}
    (keep : (s.breaker k).mark = false ∨ v = none) :
    ((s.concludeMeasurement k v).breaker k).learned = (s.breaker k).learned := by
  rw [concludeMeasurement_breaker measuring]
  rcases keep with unmarked | rfl
  · simp [unmarked]
  · simp

/-! ## MARK BREAKER (R82, R195) -/

/-- The breaker bytes 0 to 3 name the plug breakers (R195). -/
theorem breakerOf_pb (b : Berth) : breakerOf (BitVec.ofNat 8 b.val) = some (.pb b) := by
  have val : (BitVec.ofNat 8 b.val).toNat = b.val := by
    rw [BitVec.toNat_ofNat]
    omega
  simp only [breakerOf, val, b.isLt, dif_pos]

/-- The breaker bytes 4 to 7 name the ships' shore breakers (R195). -/
theorem breakerOf_sb (b : Berth) : breakerOf (BitVec.ofNat 8 (4 + b.val)) = some (.sb b) := by
  have val : (BitVec.ofNat 8 (4 + b.val)).toNat = 4 + b.val := by
    rw [BitVec.toNat_ofNat]
    omega
  have high : ¬ 4 + b.val < 4 := by omega
  simp only [breakerOf, val, high, Nat.add_sub_cancel_left, b.isLt, dif_neg, dif_pos, not_false_eq_true]

/-- No other byte names a breaker (R195). -/
theorem breakerOf_eq_none {a : Byte} (h : 8 ≤ a.toNat) : breakerOf a = none := by
  have notPlug : ¬ a.toNat < 4 := by omega
  have notShore : ¬ a.toNat - 4 < 4 := by omega
  simp only [breakerOf, notPlug, notShore, dif_neg, not_false_eq_true]

theorem otherBreaker_ne (k : Breaker) : otherBreaker k ≠ k := by
  cases k <;> simp [otherBreaker]

/-- The state with a breaker marked and its berth's other breaker not (R82). -/
def State.marked (s : State) (k : Breaker) : State :=
  (s.setBreaker k { s.breaker k with mark := true }).setBreaker (otherBreaker k)
    { s.breaker (otherBreaker k) with mark := false }

@[simp] theorem marked_mrh (s : State) (k : Breaker) : (s.marked k).mrh = s.mrh := by
  simp only [State.marked, setBreaker_mrh]

@[simp] theorem setBreaker_bsySync (s : State) (k : Breaker) (r : BreakerRecord) : (s.setBreaker k r).bsy.sync = s.bsy.sync := by
  cases k <;> rfl

@[simp] theorem marked_bsySync (s : State) (k : Breaker) : (s.marked k).bsy.sync = s.bsy.sync := by
  simp only [State.marked, setBreaker_bsySync]

/-- The breaker named carries the mark. -/
theorem marked_breaker_self (s : State) (k : Breaker) : (s.marked k).breaker k = { s.breaker k with mark := true } := by
  simp only [State.marked, setBreaker_breaker_ne _ _ _ (otherBreaker_ne k).symm, setBreaker_breaker_self]

/-- Its berth's other breaker carries none. -/
theorem marked_breaker_other (s : State) (k : Breaker) :
    (s.marked k).breaker (otherBreaker k) = { s.breaker (otherBreaker k) with mark := false } := by
  simp only [State.marked, setBreaker_breaker_self]

/-- The breakers of the other berths stay. -/
theorem marked_breaker_ne (s : State) {k i : Breaker} (notNamed : i ≠ k) (notOther : i ≠ otherBreaker k) :
    (s.marked k).breaker i = s.breaker i := by
  simp only [State.marked, setBreaker_breaker_ne _ _ _ notOther, setBreaker_breaker_ne _ _ _ notNamed]

/-- MARK BREAKER with a breaker's number marks it. -/
theorem reqMarkBreaker_of_some {a : Byte} {k : Breaker} (h : breakerOf a = some k) (s : State) :
    reqMarkBreaker [a] s = (s.marked k, done) := by
  have named : breakerOf (byteAt [a] 0) = some k := h
  simp only [reqMarkBreaker, named, State.marked, setBreaker_breaker_ne _ _ _ (otherBreaker_ne k)]

/-- MARK BREAKER with any other number is refused. -/
theorem reqMarkBreaker_of_none {a : Byte} (h : breakerOf a = none) (s : State) :
    reqMarkBreaker [a] s = (s, refused .range) := by
  have unnamed : breakerOf (byteAt [a] 0) = none := h
  simp only [reqMarkBreaker, unnamed, refuse]

/-- MARK BREAKER at the head of the queue is answered as the block says, on the state the block leaves (R183). -/
theorem exec_markBreaker_of_head {s : State} {r : Request} {l : List Request} {a : Byte} (head : AtHead s r l) (code : r.code = 18)
    (args : r.args = [a]) {t : State} {answer : Answer} (owner : reqMarkBreaker [a] s.quiet = (t, answer))
    (queue : t.mrh = s.mrh) : exec .markBreaker s = .next (t.answered r l answer) := by
  have fits : lengthFits r = true := by
    simp [lengthFits, argLength, code, args]
  have answers : reqMarkBreaker r.args s.quiet = (t, answer) := args ▸ owner
  have queued : (reqMarkBreaker r.args s.quiet).1.mrh.requests = r :: l := by
    obtain ⟨-, -, requests⟩ := head
    rw [answers, queue, requests]
  calc exec .markBreaker s = .next (s.requestCommand 18 reqMarkBreaker) := rfl
    _ = .next (s.quiet.execute r reqMarkBreaker) := by rw [requestCommand_of_head head code]
    _ = .next (t.answered r l answer) := by rw [execute_of_fits fits _ queued, answers]

/-! ## Entry into OPERATE (R74, R82) -/

/-- Whatever the command in force, a breaker's learned close time is the configured one again (R74). -/
@[simp] theorem operateBreaker_learned (now : Ext) (e : BreakerEntry) (r : BreakerRecord) :
    (operateBreaker now e r).learned = e.configured.toNat := by
  unfold operateBreaker
  split <;> rfl

@[simp] theorem bsyOperateEntry_breaker (s : State) (k : Breaker) :
    s.bsyOperateEntry.breaker k = operateBreaker s.ext (s.breakerEntry k) (s.breaker k) := by
  cases k with
  | pb b => exact vget_vmapIx _ s.bsy.pb b
  | sb b => exact vget_vmapIx _ s.bsy.sb b

/-- The entry into OPERATE by a COMMIT does to a breaker what its block does there; the rest of the entry touches no breaker and no
table. -/
theorem enterOperate_breaker (s : State) (sig : BitVec 32) (k : Breaker) :
    (s.enterOperate sig).breaker k = operateBreaker s.ext (s.breakerEntry k) (s.breaker k) := by
  cases k with
  | pb b => exact bsyOperateEntry_breaker s (.pb b)
  | sb b => exact bsyOperateEntry_breaker s (.sb b)

/-! ## The reset (R82) -/

theorem reset_breaker (k : Breaker) : State.reset.breaker k = BreakerRecord.reset := by
  cases k with
  | pb b => exact vget_replicate BreakerRecord.reset b
  | sb b => exact vget_replicate BreakerRecord.reset b

/-! ## The statements -/

/-- Settles O32: each record state has one outcome of a close request and one of an open request. -/
theorem breakerRequests : Obligations.BreakerRequests := by
  refine ⟨fun s k => ⟨closeRequest_none_open, closeRequest_none_closed, closeRequest_close, closeRequest_open,
      closeRequest_none_unsettled⟩,
    fun s k => ⟨openRequest_none_open, openRequest_none_notOpen, openRequest_open, openRequest_withdrawn,
      fun closing kept => ?_⟩⟩
  have taken := openRequest_close closing kept
  refine ⟨taken, breakerCode_withdrawn ?_ ?_⟩
  · simp only [taken, setBreaker_breaker_self, closing]
  · simp only [taken, setBreaker_breaker_self]

/-- Settles O33: the record that a conclusion leaves (`concludeMeasurement_breaker`), the pair of breakers that MARK BREAKER leaves
(`State.marked`), and the learned close time at reset and at the entry into OPERATE. -/
theorem learnedCloseTime : Obligations.LearnedCloseTime := by
  refine ⟨fun s k v measuring => ⟨?mark, ?measuring, ?last, ?learns, concludeMeasurement_keeps measuring⟩, ?refused, ?marks,
    fun b => ⟨breakerOf_pb b, breakerOf_sb b⟩, ?reset, ?operate⟩
  case mark => rw [concludeMeasurement_breaker measuring]
  case measuring => rw [concludeMeasurement_breaker measuring]
  case last => rw [concludeMeasurement_breaker measuring]
  case learns =>
    rintro marked n rfl
    exact concludeMeasurement_learns measuring marked n
  case refused =>
    intro s r l a head code args range
    exact exec_markBreaker_of_head head code args (reqMarkBreaker_of_none (breakerOf_eq_none range) s.quiet) rfl
  case marks =>
    intro s r l a k head code args named
    refine ⟨_, exec_markBreaker_of_head head code args (reqMarkBreaker_of_some named s.quiet) (marked_mrh _ k), ?_, ?_, ?_, ?_, ?_⟩
    · rw [answered_breaker, marked_breaker_self, quiet_breaker]
    · rw [answered_breaker, marked_breaker_other, quiet_breaker]
    · intro i notNamed notOther
      rw [answered_breaker, marked_breaker_ne _ notNamed notOther, quiet_breaker]
    · rw [answered_responses, marked_mrh, quiet_mrh]
    · rw [answered_bsy, marked_bsySync, quiet_bsy]
  case reset =>
    intro k
    rw [reset_breaker]
    rfl
  case operate =>
    intro s sig k
    rw [enterOperate_breaker, operateBreaker_learned]

end Sys2Proof.Machine

/-! PROOFS. The laws of the sessions, the oscillators and the record ring: the relation that every operation is in with its result, and
the primitive writes. -/

namespace Sys2Proof.Machine

open Sys2Proof


/-- The shore share law, the clamp law and the record ring law carry over from one state to another, each by itself. -/
structure LawsKept (s t : State) : Prop where
  share : ShoreShareLaw s → ShoreShareLaw t
  clamp : ClampLaw s → ClampLaw t
  ring : RecordRingLaw s → RecordRingLaw t

theorem LawsKept.refl (s : State) : LawsKept s s := ⟨id, id, id⟩

theorem LawsKept.trans {s t u : State} (h : LawsKept s t) (k : LawsKept t u) : LawsKept s u :=
  ⟨k.share ∘ h.share, k.clamp ∘ h.clamp, k.ring ∘ h.ring⟩

/-- What of a session record the laws speak of. -/
abbrev Session.terms (r : Session) : SessionState × Nat × Nat × Option Nat := (r.state, r.share, r.cap, r.fnom)

section
variable {s₀ s t : State}

/-- A state with the sessions' terms, the oscillators and the record ring of another keeps what that one keeps. -/
theorem LawsKept.of_same (h : LawsKept s₀ s) (hses : t.ses.berth = s.ses.berth) (hrob : t.rob = s.rob)
    (hring : t.mbu.ring = s.mbu.ring) : LawsKept s₀ t := by
  refine h.trans ⟨fun k b => ?_, fun k b => ?_, fun k => ?_⟩
  · have := k b
    simpa only [State.session, hses] using this
  · have := k b
    simpa only [State.session, State.osc, hses, hrob] using this
  · simpa only [RecordRingLaw, hring] using k

theorem LawsKept.foldl {ι : Type} {f : State → ι → State} (hf : ∀ t i, LawsKept s₀ t → LawsKept s₀ (f t i)) (l : List ι)
    (h : LawsKept s₀ s) : LawsKept s₀ (l.foldl f s) := by
  induction l generalizing s with
  | nil => exact h
  | cons i l ih => exact ih (hf s i h)

theorem LawsKept.forEach {n : Nat} {f : Fin n → State → State} (hf : ∀ i t, LawsKept s₀ t → LawsKept s₀ (f i t))
    (h : LawsKept s₀ s) : LawsKept s₀ (forEach f s) := LawsKept.foldl (fun t i => hf i t) _ h

theorem LawsKept.setSession_of {b : Berth} {r : Session} (h : LawsKept s₀ s) (hs : ShareOk (s.session b) → ShareOk r)
    (hf : ∀ f, r.fnom = some f → NominalOk f ∨ (s.session b).fnom = some f := by exact fun _ => .inr) :
    LawsKept s₀ (s.setSession b r) := by
  refine h.trans ⟨fun k c => ?_, fun k c => ⟨(k c).1, fun f hr => ?_⟩, id⟩ <;> obtain rfl | hc := eq_or_ne c b
  · simpa using hs (k c)
  · simpa [setSession_session_ne _ _ _ hc] using k c
  · exact (hf f (by simpa using hr)).elim id ((k c).2 f)
  · exact (k c).2 f (by simpa [setSession_session_ne _ _ _ hc] using hr)

/-- A session record replaced by one with the same terms. -/
theorem LawsKept.setSession {b : Berth} {r : Session} (h : LawsKept s₀ s) (hr : r.terms = (s.session b).terms := by simp only [Session.terms]) :
    LawsKept s₀ (s.setSession b r) := by
  simp only [Session.terms, Prod.mk.injEq] at hr
  obtain ⟨hstate, hshare, hcap, hnom⟩ := hr
  exact h.setSession_of (by simp only [ShareOk, hstate, hshare, hcap, imp_self]) (by simp only [hnom]; exact fun _ => .inr)

theorem LawsKept.setOsc {b : Berth} {o : Osc} (h : LawsKept s₀ s)
    (ho : OscOk (s.osc b) → (∀ f, (s.session b).fnom = some f → NominalOk f) → OscOk o) : LawsKept s₀ (s.setOsc b o) := by
  refine h.trans ⟨id, fun k c => ⟨?_, (k c).2⟩, id⟩
  obtain rfl | hc := eq_or_ne c b
  · simpa using ho (k c).1 (k c).2
  · simpa [setOsc_osc_ne _ _ _ hc] using (k c).1

theorem LawsKept.addRecord {r : ClosedRecord} {q : List Berth} {n : Nat} {m : Vector Meter 4} (h : LawsKept s₀ s)
    (hr : RecordRingLaw s₀ → s.mbu.ring.length ≤ 63) : LawsKept s₀ { s with mbu := ⟨m, s.mbu.ring ++ [r], q, n⟩ } :=
  ⟨h.share, h.clamp, fun k => by simpa [RecordRingLaw] using Nat.lt_succ_of_le (hr k)⟩
theorem LawsKept.mpm (h : LawsKept s₀ s) (x : Mpm) : LawsKept s₀ { s with mpm := x } := h.of_same rfl rfl rfl
theorem LawsKept.bsy (h : LawsKept s₀ s) (x : Bsy) : LawsKept s₀ { s with bsy := x } := h.of_same rfl rfl rfl
theorem LawsKept.sup (h : LawsKept s₀ s) (x : Vector Supervision 4) : LawsKept s₀ { s with sup := x } := h.of_same rfl rfl rfl
theorem LawsKept.setModule (h : LawsKept s₀ s) (m : ModuleId) (r : ModuleRecord) : LawsKept s₀ (s.setModule m r) := h.of_same rfl rfl rfl
theorem LawsKept.setBreaker (h : LawsKept s₀ s) (k : Breaker) (r : BreakerRecord) : LawsKept s₀ (s.setBreaker k r) :=
  h.of_same (by simp) (by simp) (by simp)
theorem LawsKept.setSync (h : LawsKept s₀ s) (b : Berth) (r : SyncRecord) : LawsKept s₀ (s.setSync b r) := h.of_same rfl rfl rfl
theorem LawsKept.setSuperv (h : LawsKept s₀ s) (b : Berth) (r : Supervision) : LawsKept s₀ (s.setSuperv b r) := h.of_same rfl rfl rfl
theorem LawsKept.setHealth (h : LawsKept s₀ s) (n : NodeIx) (r : Health) : LawsKept s₀ (s.setHealth n r) := h.of_same rfl rfl rfl
theorem LawsKept.setMeter (h : LawsKept s₀ s) (b : Berth) (r : Meter) : LawsKept s₀ (s.setMeter b r) := h.of_same rfl rfl rfl
theorem LawsKept.latchStation (h : LawsKept s₀ s) (f : StationFlag) : LawsKept s₀ (s.latchStation f) := h.of_same rfl rfl rfl
theorem LawsKept.latchBerth (h : LawsKept s₀ s) (b : Berth) (f : BerthFlag) : LawsKept s₀ (s.latchBerth b f) := h.of_same rfl rfl rfl

theorem LawsKept.ite {p : Prop} [Decidable p] (ha : LawsKept s₀ s) (hb : LawsKept s₀ t) : LawsKept s₀ (if p then s else t) := by
  split <;> assumption

/-- The headroom record's own fields are in no law. -/
theorem LawsKept.headroom (h : LawsKept s₀ s) (n k : Nat) (i : Int) (m : Bool) :
    LawsKept s₀ { s with ses := ⟨s.ses.berth, n, k, i, m⟩ } := h.of_same rfl rfl rfl

end
end Sys2Proof.Machine

/-! PROOFS. What the operations of the berths' blocks keep of the three laws, operation by operation in the order of the model. -/

namespace Sys2Proof.Machine

open Sys2Proof

section
variable {s₀ s t : State}

/-! ### Billing -/

theorem LawsKept.placeRecord (h : LawsKept s₀ s) (hr : RecordRingLaw s₀ → s.mbu.ring.length ≤ 63) (b : Berth) (r : OpenRecord) (n : StationTime)
    (c : CloseReason) : LawsKept s₀ (s.placeRecord b r n c) := .latchStation (.addRecord h hr) _

theorem LawsKept.deferClosure (h : LawsKept s₀ s) (b : Berth) (d : Deferral) : LawsKept s₀ (s.deferClosure b d) :=
  h.of_same rfl rfl rfl

/-- A closure that can be made at once finds a free slot (R158). -/
theorem ring_le_of_canPlace {m : Mbu} (h : m.canPlace = true) : m.ring.length ≤ 63 := by
  simp only [Mbu.canPlace, Bool.and_eq_true, decide_eq_true_eq] at h
  exact Nat.le_of_lt_succ h.1

theorem LawsKept.applyBoundary (h : LawsKept s₀ s) (b : Berth) (a : AcctBoundary) : LawsKept s₀ (s.applyBoundary b a) := by
  unfold State.applyBoundary
  dsimp only
  split
  · split
    case isTrue hc => exact .setMeter (.placeRecord h (fun _ => ring_le_of_canPlace hc) _ _ _ _) _ _
    case isFalse => exact .setMeter (.deferClosure h _ _) _ _
  · exact h.setMeter _ _
  · exact h

theorem LawsKept.flushHeld (h : LawsKept s₀ s) (b : Berth) : LawsKept s₀ (s.flushHeld b) := by
  unfold State.flushHeld
  dsimp only
  split
  · exact .applyBoundary (.setMeter h _ _) _ _
  · exact h.setMeter _ _

theorem LawsKept.flushStale (h : LawsKept s₀ s) (b : Berth) : LawsKept s₀ (s.flushStale b) := .ite (h.flushHeld b) h

theorem LawsKept.tickBlockEnd (h : LawsKept s₀ s) (e : BlockEnd) (b : Berth) : LawsKept s₀ (s.tickBlockEnd e b) :=
  .ite (.setMeter (.flushStale h b) _ _) (.setMeter (.flushStale h b) _ _)

theorem LawsKept.tickBoundary (h : LawsKept s₀ s) (a : AcctBoundary) (b : Berth) : LawsKept s₀ (s.tickBoundary a b) :=
  .ite (.setMeter (.flushStale h b) _ _) (.applyBoundary (.flushStale h b) _ _)

theorem LawsKept.clockSetRestart (h : LawsKept s₀ s) (b : Berth) : LawsKept s₀ (s.clockSetRestart b) :=
  .setMeter (.flushHeld h b) _ _

theorem LawsKept.startMetering (h : LawsKept s₀ s) (b : Berth) (n : Option Nat) (a : Option (BitVec 32)) (restart : Bool) :
    LawsKept s₀ (s.startMetering b n a restart) := by
  unfold State.startMetering
  dsimp only
  split <;> exact .setMeter (.flushHeld h b) _ _

theorem LawsKept.endMetering (h : LawsKept s₀ s) (b : Berth) (c : CloseReason) : LawsKept s₀ (s.endMetering b c) := by
  refine .ite ?_ h
  cases (s.meter b).heldBlock
  all_goals
    dsimp only
    split
    · split
      case isTrue hc => exact .setMeter (.placeRecord (.setMeter h _ _) (fun _ => ring_le_of_canPlace hc) _ _ _ _) _ _
      case isFalse => exact .setMeter (.deferClosure (.setMeter h _ _) _ _) _ _
    · exact .setMeter (.setMeter h _ _) _ _
    · exact h.setMeter _ _

theorem LawsKept.secondEndMeter (h : LawsKept s₀ s) (b : Berth) (e : NodeEntry) : LawsKept s₀ (s.secondEndMeter b e) :=
  .ite (.flushHeld (.setMeter (.flushStale h b) _ _) b) (.flushStale h b)

theorem LawsKept.substitutedCycle (h : LawsKept s₀ s) (b : Berth) (n : Ext) : LawsKept s₀ (s.substitutedCycle b n) :=
  .ite (.setMeter (.ite (.flushHeld h b) h) _ _) (.ite (.flushHeld h b) h)

theorem placeRecord_meter (b c : Berth) (r : OpenRecord) (n : StationTime) (x : CloseReason) :
    (s.placeRecord b r n x).meter c = s.meter c := rfl

/-- An account boundary places a record only for a meter without a deferred closure, and defers none with it (R158, R162). -/
theorem applyBoundary_ring_or_deferral (s : State) (b : Berth) (a : AcctBoundary) :
    (s.applyBoundary b a).mbu.ring = s.mbu.ring ∨ ((s.applyBoundary b a).meter b).deferral = none := by
  unfold State.applyBoundary
  dsimp only
  split
  case h_1 hdef =>
    split
    · right
      simpa [placeRecord_meter] using hdef
    · exact .inl rfl
  · exact .inl rfl
  · exact .inl rfl

theorem flushHeld_ring_or_deferral (s : State) (b : Berth) :
    (s.flushHeld b).mbu.ring = s.mbu.ring ∨ ((s.flushHeld b).meter b).deferral = none := by
  unfold State.flushHeld
  dsimp only
  split
  · exact applyBoundary_ring_or_deferral _ _ _
  · exact .inl rfl

/-- A deferred closure placed in the slot that a release has freed (R164). -/
theorem LawsKept.placeDeferred (h : LawsKept s₀ s) (hr : RecordRingLaw s₀ → s.mbu.ring.length ≤ 63) (b : Berth) :
    LawsKept s₀ (s.placeDeferred b) := by
  have h0 := h.flushHeld b
  unfold State.placeDeferred
  dsimp only
  split
  case h_1 hdef =>
    have hring : RecordRingLaw s₀ → (s.flushHeld b).mbu.ring.length ≤ 63 := by
      rcases flushHeld_ring_or_deferral s b with h1 | h1
      · rwa [h1]
      · simp [h1] at hdef
    have hq : LawsKept s₀ { s.flushHeld b with mbu := { (s.flushHeld b).mbu with queue := (s.flushHeld b).mbu.queue.tail } } :=
      h0.of_same rfl rfl rfl
    split
    · exact .setMeter (.placeRecord hq hring _ _ _ _) _ _
    · split
      · exact .deferClosure (.setMeter (.placeRecord hq hring _ _ _ _) _ _) _ _
      · exact .setMeter (.placeRecord hq hring _ _ _ _) _ _
  · exact h0

theorem LawsKept.releaseOldest (h : LawsKept s₀ s) : LawsKept s₀ s.releaseOldest := by
  have hr : RecordRingLaw s₀ → s.mbu.ring.tail.length ≤ 63 := fun k => by
    rw [List.length_tail]
    exact Nat.sub_le_of_le_add (h.ring k)
  have h1 : LawsKept s₀ { s with mbu := { s.mbu with ring := s.mbu.ring.tail } } :=
    h.trans ⟨id, id, fun k => (List.length_tail ▸ Nat.sub_le _ _ : s.mbu.ring.tail.length ≤ _).trans k⟩
  unfold State.releaseOldest
  dsimp only
  split
  · exact .ite h1 (.placeDeferred h1 hr _)
  · exact h1

theorem LawsKept.markUnverified (h : LawsKept s₀ s) : LawsKept s₀ s.markUnverified :=
  .forEach (fun b _ k => .setMeter (.flushHeld k b) _ _) h

theorem LawsKept.mbuConfigEntry (h : LawsKept s₀ s) : LawsKept s₀ s.mbuConfigEntry :=
  .forEach (fun b _ k => .endMetering k b _) h

/-! ### Breakers and supervision records -/

theorem LawsKept.startBlanking (h : LawsKept s₀ s) (b : Berth) : LawsKept s₀ (s.startBlanking b) := h.setSuperv _ _

theorem LawsKept.moduleClosedReport (h : LawsKept s₀ s) (b : Berth) : LawsKept s₀ (s.moduleClosedReport b) :=
  .ite (.startBlanking h b) (.setSuperv (.startBlanking h b) _ _)

theorem LawsKept.concludeMeasurement (h : LawsKept s₀ s) (k : Breaker) (r : Option Nat) :
    LawsKept s₀ (s.concludeMeasurement k r) := .ite (.latchBerth (.setBreaker h _ _) _ _) h

theorem LawsKept.issueOpen (h : LawsKept s₀ s) (k : Breaker) : LawsKept s₀ (s.issueOpen k) := h.setBreaker _ _

theorem LawsKept.issueClose (h : LawsKept s₀ s) (k : Breaker) : LawsKept s₀ (s.issueClose k) := h.setBreaker _ _

theorem LawsKept.closeRequest (h : LawsKept s₀ s) (k : Breaker) : LawsKept s₀ (s.closeRequest k).1 := by
  unfold State.closeRequest
  dsimp only
  split
  · exact h.issueClose k
  all_goals exact h

theorem LawsKept.openRequest (h : LawsKept s₀ s) (k : Breaker) : LawsKept s₀ (s.openRequest k).1 := by
  unfold State.openRequest
  dsimp only
  split
  · split
    · exact h
    · exact h.issueOpen k
  · exact h
  · split
    · exact h
    · exact h.setBreaker _ _

theorem LawsKept.tripBreaker (h : LawsKept s₀ s) (k : Breaker) : LawsKept s₀ (s.tripBreaker k) := by
  unfold State.tripBreaker
  dsimp only
  split
  · exact .issueOpen (.concludeMeasurement h k none) k
  · exact .ite h (h.issueOpen k)
  · exact h

theorem LawsKept.breakerConfigEntry (h : LawsKept s₀ s) (k : Breaker) : LawsKept s₀ (s.breakerConfigEntry k) :=
  .ite (.latchBerth (.setBreaker h _ _) _ _) (.setBreaker h _ _)

theorem LawsKept.bsyConfigEntry (h : LawsKept s₀ s) : LawsKept s₀ s.bsyConfigEntry :=
  .forEach (fun b _ k => k.setSync b _)
    (.forEach (fun b _ k => k.breakerConfigEntry (.sb b)) (.forEach (fun b _ k => k.breakerConfigEntry (.pb b)) h))

theorem LawsKept.bsyOperateEntry (h : LawsKept s₀ s) : LawsKept s₀ s.bsyOperateEntry := h.bsy _

/-! ### Entering a state, the cap and the holdings -/

theorem LawsKept.oscEntry (h : LawsKept s₀ s) (b : Berth) (st : SessionState) : LawsKept s₀ (s.oscEntry b st) := by
  unfold State.oscEntry
  split
  · refine h.setOsc fun ho hnom => reinitialise_ok ?_
    cases hf : (s.session b).fnom with
    | none => exact ho.1
    | some f => exact hnom f hf
  · exact h.setOsc fun ho _ => changeMode_ok ho _

/-- A session entering a state keeps no share outside the ramps (R95). -/
theorem shareOk_sessionAtEntry {e : BerthEntry} {st : SessionState} {r : Session} (h : ShareOk r) :
    ShareOk (sessionAtEntry e st r) := by
  unfold ShareOk sessionAtEntry
  cases keepsShare st
  · simp
  · simpa using h.1

theorem LawsKept.enterState (h : LawsKept s₀ s) (b : Berth) (st : SessionState) : LawsKept s₀ (s.enterState b st) :=
  .setSuperv (.oscEntry (.setSync (.setSession_of h shareOk_sessionAtEntry) _ _) b st) _ _

theorem LawsKept.formCap (h : LawsKept s₀ s) (b : Berth) : LawsKept s₀ (s.formCap b) :=
  .setSession_of h (fun k => ⟨min_le_right _ _, fun hs => by simp [k.2 hs]⟩)

theorem LawsKept.pbCloseComplete (h : LawsKept s₀ s) (b : Berth) : LawsKept s₀ (s.pbCloseComplete b) :=
  .ite (.setSync (.startMetering (.setSession h) _ _ _ _) _ _) h

theorem LawsKept.presentPbClose (h : LawsKept s₀ s) (b : Berth) : LawsKept s₀ (s.presentPbClose b) := by
  have hx := h.closeRequest (.pb b)
  unfold State.presentPbClose
  dsimp only
  split
  · exact .setSession hx
  · exact .setSession hx
  · exact .pbCloseComplete (.setSession hx) b
  · exact .setSession hx

theorem LawsKept.idleEntry (h : LawsKept s₀ s) (b : Berth) : LawsKept s₀ (s.idleEntry b) :=
  .latchBerth (.setSession_of (.enterState h b .idle) (fun _ => ⟨le_rfl, fun _ => rfl⟩) (by simp [idleSession, Session.reset])) _ _

theorem LawsKept.tryIdle (h : LawsKept s₀ s) (b : Berth) : LawsKept s₀ (s.tryIdle b) := .ite (h.idleEntry b) h

theorem LawsKept.changeOfHoldings (h : LawsKept s₀ s) (b : Berth) : LawsKept s₀ (s.changeOfHoldings b) :=
  .tryIdle (.ite (.presentPbClose (.formCap (.setSession h) b) b) (.formCap (.setSession h) b)) b

/-! ### The module pool -/

theorem LawsKept.zeroAges (h : LawsKept s₀ s) (m : ModuleId) : LawsKept s₀ (s.zeroAges m) := h.mpm _
theorem LawsKept.queueOp (h : LawsKept s₀ s) (m : ModuleId) (op : QueuedOp) : LawsKept s₀ (s.queueOp m op) := h.mpm _
theorem LawsKept.removeOps (h : LawsKept s₀ s) (m : ModuleId) : LawsKept s₀ (s.removeOps m) := h.mpm _

theorem LawsKept.protect (h : LawsKept s₀ s) (m : ModuleId) : LawsKept s₀ (s.protect m) :=
  .ite h (.ite (.zeroAges (.setModule h _ _) m) h)

theorem LawsKept.beginStopPhase (h : LawsKept s₀ s) (m : ModuleId) : LawsKept s₀ (s.beginStopPhase m) := h.setModule _ _

theorem LawsKept.releaseOne (h : LawsKept s₀ s) (m : ModuleId) : LawsKept s₀ (s.releaseOne m) := by
  unfold State.releaseOne
  split
  · dsimp only
    split
    · exact .setModule (.removeOps h m) _ _
    · exact .queueOp (.setModule (.removeOps h m) _ _) _ _
    · exact .queueOp (.setModule (.removeOps h m) _ _) _ _
    · exact .ite (.beginStopPhase (.setModule (.removeOps h m) _ _) _) (.queueOp (.setModule (.removeOps h m) _ _) _ _)
  · exact h

theorem LawsKept.releaseModules (h : LawsKept s₀ s) (b : Berth) (l : List ModuleId) : LawsKept s₀ (s.releaseModules b l) :=
  have hl := LawsKept.foldl (fun _ m k => k.releaseOne m) l h
  .ite (hl.changeOfHoldings b) hl

theorem LawsKept.releaseBerth (h : LawsKept s₀ s) (b : Berth) : LawsKept s₀ (s.releaseBerth b) := h.releaseModules b _

theorem LawsKept.startModule (h : LawsKept s₀ s) (m : ModuleId) (b : Berth) : LawsKept s₀ (s.startModule m b) := h.setModule _ _

theorem LawsKept.grantPresented (h : LawsKept s₀ s) (b : Berth) (l : List ModuleId) : LawsKept s₀ (s.grantPresented b l) := by
  unfold State.grantPresented
  split
  · exact h.enterState b _
  iterate 3 exact h.releaseModules b l
  exact h

theorem LawsKept.pickAll (h : LawsKept s₀ s) (b : Berth) (n : Nat) : LawsKept s₀ (s.pickAll b n).1 := by
  induction n generalizing s with
  | zero => exact h
  | succ n ih =>
    unfold State.pickAll
    split
    · exact ih (h.startModule _ b)
    · exact h

theorem LawsKept.grantHead (h : LawsKept s₀ s) (e : AllocEntry) : LawsKept s₀ (s.grantHead e) :=
  .changeOfHoldings (.grantPresented (.mpm (.pickAll h _ _) _) _ _) _

theorem LawsKept.grantLoop (h : LawsKept s₀ s) (n : Nat) : LawsKept s₀ (s.grantLoop n) := by
  induction n generalizing s with
  | zero => exact h
  | succ n ih =>
    unfold State.grantLoop
    split
    · exact .ite (ih (h.grantHead _)) h
    · exact h

theorem LawsKept.grantEvaluation (h : LawsKept s₀ s) : LawsKept s₀ s.grantEvaluation := .ite (h.grantLoop _) h

theorem LawsKept.allocRequest (h : LawsKept s₀ s) (b : Berth) (n : Nat) (u : Urgency) : LawsKept s₀ (s.allocRequest b n u) :=
  .ite (h.mpm _) (.ite h (.grantEvaluation (h.mpm _)))

theorem LawsKept.cancelAlloc (h : LawsKept s₀ s) (b : Berth) : LawsKept s₀ (s.cancelAlloc b) := by
  unfold State.cancelAlloc
  dsimp only
  split
  · exact .ite (.grantEvaluation (.mpm h _)) (.mpm h _)
  · exact h.mpm _

theorem LawsKept.cooldownEntry (h : LawsKept s₀ s) (m : ModuleId) : LawsKept s₀ (s.cooldownEntry m) := by
  unfold State.cooldownEntry
  dsimp only
  split
  · exact .changeOfHoldings (.setModule h _ _) _
  · exact h.setModule _ _

theorem LawsKept.failureHoldings (h : LawsKept s₀ s) (b : Berth) (old : ModuleState) :
    LawsKept s₀ (s.failureHoldings b old) :=
  have h1 : LawsKept s₀ (if old = .bound then s.latchBerth b .capacityLost else s) := .ite (h.latchBerth _ _) h
  .changeOfHoldings (.ite (.allocRequest h1 _ _ _) h1) _

theorem LawsKept.failModule (h : LawsKept s₀ s) (m : ModuleId) (c : FailureCause) : LawsKept s₀ (s.failModule m c) := by
  unfold State.failModule
  dsimp only
  split
  iterate 3 exact .failureHoldings (.latchStation (.setModule (.protect (.removeOps h m) m) _ _) _) _ _
  exact .latchStation (.setModule (.protect (.removeOps h m) m) _ _) _

theorem LawsKept.failedToCooldown (h : LawsKept s₀ s) (m : ModuleId) : LawsKept s₀ (s.failedToCooldown m) :=
  .ite (h.cooldownEntry m) h

theorem LawsKept.moduleNodeLost (h : LawsKept s₀ s) (m : ModuleId) : LawsKept s₀ (s.moduleNodeLost m) :=
  .ite (h.failModule m _) h

theorem LawsKept.tripModule (h : LawsKept s₀ s) (m : ModuleId) : LawsKept s₀ (s.tripModule m) := by
  have h1 := (h.removeOps m).protect m
  unfold State.tripModule
  dsimp only
  exact .ite (.beginStopPhase (.ite (h1.setModule _ _) (.ite (h1.setModule _ _) h1)) m)
    (.ite (h1.setModule _ _) (.ite (h1.setModule _ _) h1))

theorem LawsKept.tripModules (h : LawsKept s₀ s) (b : Berth) : LawsKept s₀ (s.tripModules b) :=
  .changeOfHoldings (.foldl (fun _ m k => k.tripModule m) _ h) b

theorem LawsKept.moduleDelivered (h : LawsKept s₀ s) (m : ModuleId) (op : ModuleOp) (p : Bool) :
    LawsKept s₀ (s.moduleDelivered m op p) := by
  unfold State.moduleDelivered
  dsimp only
  split
  · split
    · split
      · exact .moduleClosedReport (.changeOfHoldings (.setModule h _ _) _) _
      · exact h.setModule _ _
    · exact .ite (h.queueOp m _) h
  · exact .ite (.ite (h.cooldownEntry m) h) (.ite (h.beginStopPhase m) h)
  · exact h.failedToCooldown m
  all_goals exact h

theorem LawsKept.moduleDelivery (h : LawsKept s₀ s) (m : ModuleId) (d : ModuleReport) : LawsKept s₀ (s.moduleDelivery m d) := by
  unfold State.moduleDelivery
  dsimp only
  split
  · exact .failModule (.setModule h _ _) _ _
  · exact .moduleDelivered (.setModule h _ _) _ _ _

theorem LawsKept.switchingIssue (h : LawsKept s₀ s) : LawsKept s₀ s.switchingIssue := by
  unfold State.switchingIssue
  split
  · split
    · exact .zeroAges (.setModule (.mpm h _) _ _) _
    · exact h
  · exact h

theorem LawsKept.moduleStartLimit (h : LawsKept s₀ s) (m : ModuleId) : LawsKept s₀ (s.moduleStartLimit m) :=
  .ite (h.failModule m _) h

theorem LawsKept.moduleOperateLimit (h : LawsKept s₀ s) (m : ModuleId) : LawsKept s₀ (s.moduleOperateLimit m) := by
  unfold State.moduleOperateLimit
  dsimp only
  split
  · split
    iterate 3 exact h.failModule m _
    all_goals exact h.setModule _ _
  · exact h

theorem LawsKept.cooldownEnd (h : LawsKept s₀ s) (m : ModuleId) : LawsKept s₀ (s.cooldownEnd m) :=
  .ite (.grantEvaluation (.setModule h _ _)) h

theorem LawsKept.mpmConfigEntry (h : LawsKept s₀ s) : LawsKept s₀ s.mpmConfigEntry := h.mpm _

/-! ### The sessions' outcomes -/

theorem LawsKept.drainReturn (h : LawsKept s₀ s) (b : Berth) : LawsKept s₀ (s.drainReturn b) :=
  .releaseBerth (.setSession (.ite (h.endMetering b _) h)) b

theorem LawsKept.pbDrained (h : LawsKept s₀ s) (b : Berth) : LawsKept s₀ (s.pbDrained b) :=
  .tryIdle (.drainReturn (.setSession h) b) b

theorem LawsKept.drainPb (h : LawsKept s₀ s) (b : Berth) : LawsKept s₀ (s.drainPb b) :=
  .ite (.pbDrained (.openRequest (.setSession h) _) b) (.openRequest (.setSession h) _)

theorem LawsKept.sbDrained (h : LawsKept s₀ s) (b : Berth) : LawsKept s₀ (s.sbDrained b) :=
  .ite (.tryIdle (.setSession h) b) (h.drainPb b)

theorem LawsKept.enterDraining (h : LawsKept s₀ s) (b : Berth) (reason : EndReason) (sbFirst : Bool) :
    LawsKept s₀ (s.enterDraining b reason sbFirst) := by
  have h2 : LawsKept s₀
      (((s.cancelAlloc b).setSession b { (s.cancelAlloc b).session b with endReason := some reason }).enterState b .draining) :=
    .enterState (.setSession (.cancelAlloc h b)) b _
  exact .ite (.ite (.sbDrained (.openRequest (.setSession h2) _) b) (.openRequest (.setSession h2) _)) (h2.drainPb b)

theorem LawsKept.abortSession (h : LawsKept s₀ s) (b : Berth) (reason : EndReason) : LawsKept s₀ (s.abortSession b reason) := by
  unfold State.abortSession
  split
  · exact .setSession (.cancelAlloc h b)
  · exact h.enterDraining b reason true

theorem LawsKept.shipReturned (h : LawsKept s₀ s) (b : Berth) : LawsKept s₀ (s.shipReturned b) :=
  .latchBerth (.enterState h b _) _ _

theorem LawsKept.partShip (h : LawsKept s₀ s) (b : Berth) : LawsKept s₀ (s.partShip b) :=
  have h1 := (h.enterState b .parting).openRequest (.sb b)
  .ite (h1.shipReturned b) h1

theorem LawsKept.sbCloseComplete (h : LawsKept s₀ s) (b : Berth) : LawsKept s₀ (s.sbCloseComplete b) :=
  .ite (.ite (h.enterState b _) (h.enterState b _)) h

theorem LawsKept.sbOpenComplete (h : LawsKept s₀ s) (b : Berth) : LawsKept s₀ (s.sbOpenComplete b) := by
  unfold State.sbOpenComplete
  split
  · exact .ite (h.enterState b _) h
  · exact h.shipReturned b
  · exact .ite (h.sbDrained b) h
  · exact h

theorem LawsKept.pbOpenComplete (h : LawsKept s₀ s) (b : Berth) : LawsKept s₀ (s.pbOpenComplete b) := by
  unfold State.pbOpenComplete
  split
  · exact .ite (h.pbDrained b) h
  · exact .ite (.setSession (.endMetering h b _)) h
  · exact h

theorem LawsKept.closeComplete (h : LawsKept s₀ s) (k : Breaker) : LawsKept s₀ (s.closeComplete k) := by
  cases k with
  | pb b => exact h.pbCloseComplete b
  | sb b => exact h.sbCloseComplete b

theorem LawsKept.openComplete (h : LawsKept s₀ s) (k : Breaker) : LawsKept s₀ (s.openComplete k) := by
  cases k with
  | pb b => exact h.pbOpenComplete b
  | sb b => exact h.sbOpenComplete b

theorem LawsKept.uncommandedOpen (h : LawsKept s₀ s) (k : Breaker) : LawsKept s₀ (s.uncommandedOpen k) := by
  cases k with
  | pb b => exact .ite (h.enterDraining b _ _) (.ite (.drainReturn (.setSession h) b) h)
  | sb b => exact .ite (h.enterState b _) h

theorem LawsKept.syncCloseIssued (h : LawsKept s₀ s) (b : Berth) : LawsKept s₀ (s.syncCloseIssued b) := .setSession h

theorem LawsKept.alignmentSuccess (h : LawsKept s₀ s) (b : Berth) : LawsKept s₀ (s.alignmentSuccess b) :=
  .ite (.latchBerth (.enterState h b _) _ _) h

theorem LawsKept.enterFaulted (h : LawsKept s₀ s) (b : Berth) : LawsKept s₀ (s.enterFaulted b) :=
  .ite h (.setSession (.enterState (.cancelAlloc h b) b _) (by simp only [Session.terms, faultedFlags]))

theorem LawsKept.invalidAborts (h : LawsKept s₀ s) : LawsKept s₀ s.invalidAborts := by
  refine .forEach (fun b t k => .ite (k.abortSession b _) k) ?_
  unfold State.cancelAborted
  dsimp only
  split
  · exact .ite (.grantEvaluation (.mpm h _)) (.mpm h _)
  · exact h.mpm _

/-! ### The ramp, the headroom and the ship's reports -/

theorem LawsKept.rampInStep (h : LawsKept s₀ s) {b : Berth} (hst : keepsShare (s.session b).state = true) :
    LawsKept s₀ (s.rampInStep b) := by
  refine .ite (.headroom (.setSession_of h ?_) _ _ _ _) h
  rintro ⟨hle, -⟩
  exact ⟨by dsimp only; omega, fun hk => by simp [hst] at hk⟩

theorem LawsKept.rampOutStep (h : LawsKept s₀ s) {b : Berth} (hst : keepsShare (s.session b).state = true) :
    LawsKept s₀ (s.rampOutStep b) :=
  .setSession_of h (fun k => ⟨(Nat.sub_le _ _).trans k.1, fun hk => by simp [hst] at hk⟩)

theorem LawsKept.rampStep (h : LawsKept s₀ s) (b : Berth) : LawsKept s₀ (s.rampStep b) := by
  unfold State.rampStep
  dsimp only
  split
  case isTrue hst =>
    have h1 : LawsKept s₀ ((s.setSession b { s.session b with stepTimer := 0 }).formCap b) := .formCap (.setSession h) b
    exact .ite (h1.rampInStep (by simp [hst.1])) (h1.rampOutStep (by simp [hst.1]))
  case isFalse => exact h

theorem LawsKept.settleEnd (h : LawsKept s₀ s) (b : Berth) : LawsKept s₀ (s.settleEnd b) :=
  .ite (.setSession_of (.enterState h b _) (fun _ => ⟨Nat.zero_le _, fun _ => rfl⟩)) h

theorem LawsKept.refresh (h : LawsKept s₀ s) : LawsKept s₀ s.refresh :=
  .ite (.ite (.latchStation (.headroom h _ _ _ _) _) (.headroom h _ _ _ _)) h

theorem LawsKept.recallEnd (h : LawsKept s₀ s) (b : Berth) : LawsKept s₀ (s.recallEnd b) :=
  .setSession_of (.enterState h b _)
    (fun _ => ⟨by simp [sessionAtEntry], by simp [sessionAtEntry, keepsShare]⟩)

theorem LawsKept.shipReport (h : LawsKept s₀ s) (b : Berth) (ship : ShipState) (output : Int) :
    LawsKept s₀ (s.shipReport b ship output) := by
  have h1 : LawsKept s₀ (s.setSession b { s.session b with ship := ship, shipOutput := output }) := .setSession h
  unfold State.shipReport
  dsimp only
  split
  · have h2 := h1.setSession (b := b)
      (r := quietReport (s.berthEntry b).residual.toNat output ((s.setSession b { s.session b with ship := ship, shipOutput := output }).session b)) (by unfold quietReport; split <;> rfl)
    exact .ite (.latchBerth (.enterState h2 b _) _ _) h2
  · exact .ite (h1.recallEnd b) h1
  · exact h1

theorem LawsKept.secondEndSession (h : LawsKept s₀ s) (b : Berth) : LawsKept s₀ (s.secondEndSession b) :=
  .ite (.ite (.partShip (.setSession h) b) (.setSession h)) h

/-! ### Faults -/

theorem LawsKept.setRestartTimer (h : LawsKept s₀ s) (b : Berth) : LawsKept s₀ (s.setRestartTimer b) := h.setSuperv _ _

theorem LawsKept.tripBreakers (h : LawsKept s₀ s) (b : Berth) : LawsKept s₀ (s.tripBreakers b) :=
  .setSync (.tripBreaker (.tripBreaker h _) _) _ _

theorem LawsKept.tripPbComplete (h : LawsKept s₀ s) (b : Berth) : LawsKept s₀ (s.tripPbComplete b) := .ite (h.pbOpenComplete b) h

theorem LawsKept.trip (h : LawsKept s₀ s) (b : Berth) (k : FaultKind) (c : FaultClass) : LawsKept s₀ (s.trip b k c) :=
  .setRestartTimer
    (.latchBerth (.tripPbComplete (.tripModules (.enterFaulted (.tripBreakers (.setSuperv h _ _) b) b) b) b) _ _) b

theorem LawsKept.laterFault (h : LawsKept s₀ s) (b : Berth) (k : FaultKind) (c : FaultClass) : LawsKept s₀ (s.laterFault b k c) :=
  .latchBerth (.setRestartTimer (.tripPbComplete (.tripModules (.tripBreakers (.setSuperv h _ _) b) b) b) b) _ _

theorem LawsKept.fault (h : LawsKept s₀ s) (b : Berth) (k : FaultKind) : LawsKept s₀ (s.fault b k) := by
  unfold State.fault
  split
  · exact h
  · split
    · exact .latchBerth (.setSuperv h _ _) _ _
    · exact .ite (h.laterFault b k _) (h.trip b k _)

theorem LawsKept.faultIf (h : LawsKept s₀ s) (p : Bool) (b : Berth) (k : FaultKind) : LawsKept s₀ (s.faultIf p b k) :=
  .ite (h.fault b k) h

theorem LawsKept.superviseCurrent (h : LawsKept s₀ s) (b : Berth) : LawsKept s₀ (s.superviseCurrent b) :=
  .ite (.faultIf (.setSuperv h _ _) _ _ _) h

theorem LawsKept.superviseVoltage (h : LawsKept s₀ s) (p : Point) : LawsKept s₀ (s.superviseVoltage p) := by
  unfold State.superviseVoltage
  split
  · exact .ite (.faultIf (.setSuperv h _ _) _ _ _) h
  · exact h

theorem LawsKept.superviseFrequency (h : LawsKept s₀ s) (p : Point) : LawsKept s₀ (s.superviseFrequency p) := by
  unfold State.superviseFrequency
  split
  · split
    · exact .ite (.faultIf (.setSuperv h _ _) _ _ _) h
    · exact h
  · exact h

theorem LawsKept.superviseReverse (h : LawsKept s₀ s) (b : Berth) : LawsKept s₀ (s.superviseReverse b) :=
  .ite (.faultIf (.setSuperv h _ _) _ _ _) h

theorem LawsKept.uncommandedOpenFault (h : LawsKept s₀ s) (k : Breaker) (was : SessionState) :
    LawsKept s₀ (s.uncommandedOpenFault k was) := by
  cases k with
  | pb b => exact .ite h (h.fault b _)
  | sb b => exact .ite (h.fault b _) h

theorem LawsKept.breakerReport (h : LawsKept s₀ s) (p : Bool) (k : Breaker) (old : BreakerRecord) (st : BreakerStatus) :
    LawsKept s₀ (s.breakerReport p k old st) := by
  unfold State.breakerReport
  dsimp only
  split
  · exact .ite h (.ite (h.startBlanking _) (.fault (.startBlanking h _) _ _))
  · exact .ite (.ite (.uncommandedOpen (.uncommandedOpenFault h k _) k) (.uncommandedOpenFault (.uncommandedOpen h k) k _)) h
  · exact .ite h (h.fault _ _)
  · exact h

theorem LawsKept.clearClose (h : LawsKept s₀ s) (k : Breaker) : LawsKept s₀ (s.clearClose k) := h.setBreaker _ _

theorem LawsKept.commandEnd (h : LawsKept s₀ s) (k : Breaker) : LawsKept s₀ (s.commandEnd k) := by
  unfold State.commandEnd
  dsimp only
  split
  · have h1 := (h.concludeMeasurement k
      (plausible (s.breakerEntry k) (measuredTime s.ext (s.breaker k).issue (s.breaker k).offset))).clearClose k
    exact .closeComplete (.ite (h1.issueOpen k) h1) k
  · exact .ite (.openComplete (.clearClose (.concludeMeasurement h k none) k) k) h
  · exact .openComplete (.setBreaker h _ _) k
  · exact h

theorem LawsKept.breakerDelivery (h : LawsKept s₀ s) (p : Bool) (k : Breaker) (d : BreakerReport) :
    LawsKept s₀ (s.breakerDelivery p k d) := .commandEnd (.breakerReport (.setBreaker h _ _) _ _ _ _) _

theorem LawsKept.breakerLimit (h : LawsKept s₀ s) (k : Breaker) : LawsKept s₀ (s.breakerLimit k) := by
  unfold State.breakerLimit
  dsimp only
  split
  · split
    · have h1 := (h.concludeMeasurement k none).clearClose k
      exact .fault (.ite (h1.issueOpen k) h1) _ _
    · exact .fault (.setBreaker h _ _) _ _
    · exact h
  · exact h

theorem LawsKept.pbCloseRetry (h : LawsKept s₀ s) (b : Berth) : LawsKept s₀ (s.pbCloseRetry b) := .ite (h.presentPbClose b) h

theorem LawsKept.holdoverEntry (h : LawsKept s₀ s) (b : Berth) : LawsKept s₀ (s.holdoverEntry b) :=
  .ite (.fault (.setOsc h fun ⟨hnom, hlow, hhigh, hk⟩ _ => ⟨hnom, hlow, hhigh, hk⟩) _ _) h

theorem LawsKept.presentLoss (h : LawsKept s₀ s) (e : NodeEntry) : LawsKept s₀ (s.presentLoss e) := by
  unfold State.presentLoss
  split
  · split
    · exact h.moduleNodeLost _
    · exact h
  iterate 3
    · split
      · exact h.fault _ _
      · exact h
  · exact h.headroom _ _ _ _
  all_goals exact h

theorem LawsKept.presentRecovery (h : LawsKept s₀ s) (e : NodeEntry) : LawsKept s₀ (s.presentRecovery e) := by
  unfold State.presentRecovery
  split
  · split
    · exact h.failedToCooldown _
    · exact h
  · exact h.headroom _ _ _ _
  all_goals exact h

theorem LawsKept.nodeLost (h : LawsKept s₀ s) (n : NodeIx) : LawsKept s₀ (s.nodeLost n) :=
  .ite (.presentLoss (.latchStation (.setHealth h _ _) _) _) h

theorem LawsKept.nodeRecovered (h : LawsKept s₀ s) (n : NodeIx) : LawsKept s₀ (s.nodeRecovered n) :=
  .ite (.presentRecovery (.latchStation (.setHealth h _ _) _) _) h

theorem LawsKept.firstStrike (h : LawsKept s₀ s) (b : Berth) : LawsKept s₀ (s.firstStrike b) :=
  .ite (.allocRequest (.latchBerth (.setSession h) _ _) _ _ _) (.latchBerth (.setSession h) _ _)

theorem LawsKept.secondStrike (h : LawsKept s₀ s) (b : Berth) : LawsKept s₀ (s.secondStrike b) := by
  have h1 : LawsKept s₀ (s.setSession b { s.session b with strikes := 2 }) := .setSession h
  unfold State.secondStrike
  dsimp only
  split
  · exact .idleEntry (.setSession (.cancelAlloc h1 b)) b
  · exact h1.enterDraining b _ _
  iterate 3 exact .latchBerth (.enterState h1 b _) _ _
  · exact .partShip (.latchBerth h1 _ _) b
  · exact h1.fault b _
  all_goals exact h1

theorem LawsKept.stageExpiry (h : LawsKept s₀ s) (b : Berth) : LawsKept s₀ (s.stageExpiry b) := by
  unfold State.stageExpiry
  dsimp only
  split
  · exact .ite (h.firstStrike b) (h.secondStrike b)
  · exact h

theorem LawsKept.blankEnd (h : LawsKept s₀ s) (b : Berth) : LawsKept s₀ (s.blankEnd b) := .ite (h.setSuperv _ _) h

theorem LawsKept.restartDue (h : LawsKept s₀ s) (b : Berth) : LawsKept s₀ (s.restartDue b) := .ite (h.setSuperv _ _) h

theorem LawsKept.restart (h : LawsKept s₀ s) (b : Berth) : LawsKept s₀ (s.restart b) :=
  .ite (.latchBerth (.allocRequest (.enterState (.setSuperv h _ _) b _) _ _ _) _ _) h

theorem LawsKept.openingFaults (h : LawsKept s₀ s) (b : Berth) : LawsKept s₀ (s.openingFaults b) :=
  .faultIf (.faultIf (.faultIf (.faultIf h _ _ _) _ _ _) _ _ _) _ _ _

theorem LawsKept.siuReport (h : LawsKept s₀ s) (b : Berth) (ship : ShipState) (output : Int) :
    LawsKept s₀ (s.siuReport b ship output) := .faultIf (.shipReport h b ship output) _ _ _

end
end Sys2Proof.Machine

/-! PROOFS. What crossings, second ends, the clock, the configuration store and the requests keep of the three laws. -/

namespace Sys2Proof.Machine

open Sys2Proof

section
variable {s₀ s t : State}

/-! ### Crossings, point cycles and second ends -/

theorem lockCorrection_ok {o : Osc} (h : OscOk o) (n : Ext) (t : Ticks) (f : Nat) : OscOk (lockCorrection n t f o) := by
  unfold lockCorrection
  split
  · obtain ⟨h1, h2, h3, h4⟩ := setSetpoint_ok (o := { o with
      phase := o.phase - BitVec.ofInt 32 ((crossingPhase o (n.setWidth 32 * 1024 - t).toNat).tdiv 16) }) h.1 f
    exact ⟨h1, h2, h3, h4⟩
  · exact h

theorem trackUpdate_ok {o : Osc} (h : OscOk o) (slip f : Nat) : OscOk (trackUpdate slip f o) := by
  unfold trackUpdate
  split
  · exact setSetpoint_ok h.1 _
  · exact h

/-- The slew count is in no law. -/
theorem oscOk_slew {o : Osc} (h : OscOk o) (n : Nat) : OscOk { o with slew := n } := h

theorem freeStepOsc_ok {o : Osc} (h : OscOk o) : OscOk (freeStepOsc o) := by
  unfold freeStepOsc
  extract_lets f
  clear_value f
  split
  · exact oscOk_slew h 0
  · exact oscOk_slew (setSetpoint_ok h.1 f) 0

theorem boundaryOsc_ok {o : Osc} (h : OscOk o) : OscOk (boundaryOsc o) := by
  unfold boundaryOsc
  dsimp only
  split <;> exact h

theorem LawsKept.lockCrossing (h : LawsKept s₀ s) (b : Berth) (n : Ext) (t : Ticks) : LawsKept s₀ (s.lockCrossing b n t) :=
  h.setOsc fun k _ => lockCorrection_ok k _ _ _

theorem LawsKept.trackCrossing (h : LawsKept s₀ s) (b : Berth) : LawsKept s₀ (s.trackCrossing b) :=
  h.setOsc fun k _ => trackUpdate_ok k _ _

theorem LawsKept.plugCrossing (h : LawsKept s₀ s) (b : Berth) (t : Ticks) : LawsKept s₀ (s.plugCrossing b t) := by
  unfold State.plugCrossing
  dsimp only
  split
  · exact .alignmentSuccess (.setSync h _ _) b
  · exact .fault (.setSync h _ _) b _
  · exact h.setSync _ _

theorem LawsKept.issueSyncClose (h : LawsKept s₀ s) (b : Berth) : LawsKept s₀ (s.issueSyncClose b) :=
  .syncCloseIssued (.setSync (.closeRequest h _) _ _) b

theorem LawsKept.shipCrossing (h : LawsKept s₀ s) (b : Berth) (t : Ticks) : LawsKept s₀ (s.shipCrossing b t) :=
  .ite (.ite (.issueSyncClose (.setSync h _ _) b) (.setSync h _ _)) h

theorem LawsKept.presentCrossing (h : LawsKept s₀ s) (p : Point) (n : Ext) (t : Ticks) : LawsKept s₀ (s.presentCrossing p n t) := by
  unfold State.presentCrossing
  split
  · exact .superviseFrequency (.superviseVoltage (.lockCrossing h _ n t) _) _
  · exact .superviseFrequency (.superviseVoltage (.plugCrossing h _ t) _) _
  · exact .superviseFrequency (.superviseVoltage (.shipCrossing (.trackCrossing h _) _ t) _) _
  · exact h

theorem LawsKept.presentEveryCycle (h : LawsKept s₀ s) (p : Point) (n : Ext) (u : Bool) :
    LawsKept s₀ (s.presentEveryCycle p n u) := by
  cases p with
  | bus b => exact .superviseCurrent (.ite (h.substitutedCycle b n) h) b
  | plug b | ship b | incomer => exact h

theorem LawsKept.setMeas (h : LawsKept s₀ s) (p : Point) (r : MeasRecord) : LawsKept s₀ (s.setMeas p r) :=
  h.of_same (by simp) (by simp) (by simp)

theorem LawsKept.addDueOnce (h : LawsKept s₀ s) (d : Due) : LawsKept s₀ (s.addDueOnce d) := .ite h (h.of_same rfl rfl rfl)

theorem LawsKept.runCycle (h : LawsKept s₀ s) (p : Point) (n : Ext) (e : NodeEntry) (x : Option (Tri Int × Tri Int)) :
    LawsKept s₀ (s.runCycle p n e x) := by
  unfold State.runCycle
  dsimp only
  refine .presentEveryCycle ?_ _ _ _
  split
  · exact .presentCrossing (.ite (.addDueOnce (.setMeas h _ _) _) (.setMeas h _ _)) _ _ _
  · exact .ite (.addDueOnce (.setMeas h _ _) _) (.setMeas h _ _)

theorem LawsKept.noCrossing (h : LawsKept s₀ s) (p : Point) : LawsKept s₀ (s.noCrossing p) := by
  unfold State.noCrossing
  split
  · exact .ite (.superviseVoltage (.setMeas h _ _) _) h
  · exact h

theorem LawsKept.due (h : LawsKept s₀ s) (l : List Due) : LawsKept s₀ { s with due := l } := h.of_same rfl rfl rfl

theorem LawsKept.takeTimeout (h : LawsKept s₀ s) (p : Point) : LawsKept s₀ (s.takeTimeout p) := .ite (.noCrossing (.due h _) p) h

theorem LawsKept.takeTimeouts (h : LawsKept s₀ s) : LawsKept s₀ s.takeTimeouts := .foldl (fun _ p k => k.takeTimeout p) _ h

theorem LawsKept.undeliveredCycles (h : LawsKept s₀ s) : LawsKept s₀ s.undeliveredCycles := by
  refine .ite (.foldl (fun t p k => ?_) _ h) h
  unfold State.undelivered
  split
  · exact .ite k (k.runCycle _ _ _ _)
  · exact k

theorem LawsKept.closeBus (h : LawsKept s₀ s) (b : Berth) : LawsKept s₀ (s.closeBus b) := by
  unfold State.closeBus
  dsimp only
  split
  · exact .ite (.superviseReverse (.secondEndSession (.secondEndMeter (.setMeas h _ _) b _) b) b) (.setMeas h _ _)
  · exact h.setMeas _ _

theorem LawsKept.secondEnd (h : LawsKept s₀ s) (first : Bool) : LawsKept s₀ (s.secondEnd first) := by
  have h1 : LawsKept s₀ (if first then s.takeTimeouts.refresh else s.takeTimeouts) := .ite (.refresh (.takeTimeouts h)) (.takeTimeouts h)
  have h2 := (LawsKept.forEach (fun b _ k => k.closeBus b) h1).setMeas .incomer
  exact .ite (h2 _) (.refresh (h2 _))

/-! ### The station clock -/

theorem LawsKept.ctu (h : LawsKept s₀ s) (x : Ctu) : LawsKept s₀ { s with ctu := x } := h.of_same rfl rfl rfl
theorem LawsKept.cfs (h : LawsKept s₀ s) (x : Cfs) : LawsKept s₀ { s with cfs := x } := h.of_same rfl rfl rfl
theorem LawsKept.rif (h : LawsKept s₀ s) (x : Rif) : LawsKept s₀ { s with rif := x } := h.of_same rfl rfl rfl
theorem LawsKept.mrh (h : LawsKept s₀ s) (x : Mrh) : LawsKept s₀ { s with mrh := x } := h.of_same rfl rfl rfl
theorem LawsKept.send (h : LawsKept s₀ s) (l : List RingFrame) : LawsKept s₀ (s.send l) := h.of_same rfl rfl rfl

theorem LawsKept.activate (h : LawsKept s₀ s) : LawsKept s₀ s.activate := .ctu (.latchStation (.ctu h _) _) _

theorem LawsKept.finishTick (h : LawsKept s₀ s) : LawsKept s₀ s.finishTick := by
  refine .ite h ?_
  unfold State.tickAccount
  split
  · exact h
  · dsimp only
    split
    · exact .forEach (fun b _ k => k.tickBoundary _ b) (.ctu h _)
    · exact h.ctu _

theorem LawsKept.secondTick (h : LawsKept s₀ s) : LawsKept s₀ s.secondTick :=
  .finishTick (.ite (h.of_same rfl rfl rfl) (h.of_same rfl rfl rfl))

theorem LawsKept.tickActivation (h : LawsKept s₀ s) : LawsKept s₀ s.tickActivation :=
  .ite (.finishTick (.ctu (.activate h) _)) (.finishTick (h.ctu _))

theorem LawsKept.blockEnd (h : LawsKept s₀ s) : LawsKept s₀ s.blockEnd :=
  .finishTick (.ctu (.forEach (fun b _ k => k.tickBlockEnd _ b) h) _)

theorem LawsKept.setClockTo (h : LawsKept s₀ s) (t : StationTime) : LawsKept s₀ (s.setClockTo t) := by
  have h2 : LawsKept s₀ (Machine.forEach (fun b (x : State) => x.clockSetRestart b)
      { s with ctu := { s.ctu with time := t, clockUnset := false, block := ⟨t, 0⟩ } }).recomputeBand :=
    .ctu (.forEach (fun b _ k => k.clockSetRestart b) (.ctu h _)) _
  exact .forEach (fun b _ k => k.applyBoundary b _) (.ite (.activate h2) h2)

/-! ### The configuration store -/

theorem LawsKept.resetPoints (h : LawsKept s₀ s) (l : List Point) : LawsKept s₀ (s.resetPoints l) :=
  .foldl (fun _ p k => k.setMeas p _) l h

theorem LawsKept.repairEffects (h : LawsKept s₀ s) (old : Tables) (e : EntryRef) : LawsKept s₀ (s.repairEffects old e) := by
  unfold State.repairEffects
  split
  · have h1 (n : NodeIx) : LawsKept s₀ (s.renewHealth n) := h.of_same rfl rfl rfl
    exact .ite (.resetPoints (.ite (h1 _) h) _) (.ite (h1 _) h)
  · exact h.formCap _
  · split
    · exact h.formCap _
    · exact h
  all_goals exact h

theorem LawsKept.writeEntry (h : LawsKept s₀ s) (table entry : Byte) (image : List Byte) :
    LawsKept s₀ (s.writeEntry table entry image).1 := by
  unfold State.writeEntry
  split
  · exact h
  · split
    · exact h
    · dsimp only
      split
      · exact h
      · split
        · exact h
        · exact .ite (.repairEffects (.cfs (.cfs h _) _) _ _) (.cfs (.cfs h _) _)

theorem LawsKept.commitTables (h : LawsKept s₀ s) (sig : BitVec 32) : LawsKept s₀ (s.commitTables sig).1 := by
  unfold State.commitTables
  split
  · exact h
  · split
    · exact h
    · split
      · exact h
      · split <;> exact h.of_same rfl rfl rfl

theorem LawsKept.resetHealth (h : LawsKept s₀ s) : LawsKept s₀ s.resetHealth := h.of_same rfl rfl rfl
theorem LawsKept.resetMeas (h : LawsKept s₀ s) : LawsKept s₀ s.resetMeas := h.of_same rfl rfl rfl

theorem LawsKept.enterConfig (h : LawsKept s₀ s) : LawsKept s₀ s.enterConfig :=
  .mbuConfigEntry (.bsyConfigEntry (.mpmConfigEntry (.resetMeas (.resetHealth (.cfs h _)))))

theorem LawsKept.requestConfig (h : LawsKept s₀ s) : LawsKept s₀ s.requestConfig.1 := by
  unfold State.requestConfig
  split
  · split
    · dsimp only
      exact h.enterConfig
    · exact h
  · exact h

theorem LawsKept.configTimeout (h : LawsKept s₀ s) : LawsKept s₀ s.configTimeout :=
  .ite (.bsyConfigEntry (.mpmConfigEntry (.latchStation (.cfs h _) _))) h

theorem LawsKept.endPass (h : LawsKept s₀ s) (reg : BitVec 32) : LawsKept s₀ (s.endPass reg) :=
  .ite (.ite (.latchStation (.cfs (.cfs h _) _) _) (.cfs h _))
    (.ite (.invalidAborts (.markUnverified (.latchStation (.cfs (.cfs h _) _) _))) (.cfs h _))

theorem LawsKept.scrubRead (h : LawsKept s₀ s) : LawsKept s₀ s.scrubRead := by
  unfold State.scrubRead
  dsimp only
  split
  · split
    · exact .ite (h.endPass _) (h.cfs _)
    · exact h
  · exact h

/-! ### Requests -/

theorem LawsKept.openedSession (h : LawsKept s₀ s) (b : Berth) {a : OpenArgs} (ha : NominalOk a.fnom) :
    LawsKept s₀ (s.openedSession b a) := by
  unfold State.openedSession
  extract_lets c1 s1 r1 s2 r2 s3
  have h1 : LawsKept s₀ s1 := h.headroom _ _ _ _
  have h2 : LawsKept s₀ s2 := by
    refine h1.setSession_of (fun k => ⟨k.1, k.2⟩) ?_
    rintro f ⟨rfl⟩
    exact .inl ha
  exact .openingFaults (.allocRequest (.enterState (h2.setSuperv _ _) _ _) _ _ _) _

/-- A request that names a berth leaves the state as it is or does what it does for a berth. -/
theorem onBerth_fst {P : State → Prop} {args : List Byte} {f : Berth → State → State × Answer} (h : P s) (hf : ∀ b, P (f b s).1) :
    P (onBerth args s f).1 := by
  unfold onBerth
  split
  · exact hf _
  · exact h

/-- A request that names a module leaves the state as it is or does what it does for a module. -/
theorem onModule_fst {P : State → Prop} {args : List Byte} {f : ModuleId → State → State × Answer} (h : P s)
    (hf : ∀ m, P (f m s).1) : P (onModule args s f).1 := by
  unfold onModule
  split
  · exact hf _
  · exact h

/-- A request that names a scope leaves the state as it is or does what it does for a scope. -/
theorem onScope_fst {P : State → Prop} {args : List Byte} {f : Scope → State → State × Answer} (h : P s)
    (hf : ∀ c, P (f c s).1) : P (onScope args s f).1 := by
  unfold onScope
  split
  · exact hf _
  · exact h

/-- Of a state with an answer, the state. -/
theorem answer_fst {P : State → Prop} {a : Answer} (h : P s) : P (s, a).1 := h

/-- Of the two outcomes of a test, the state's part. -/
theorem ite_fst {P : State → Prop} {p : Prop} [Decidable p] {x y : State × Answer} (hx : p → P x.1) (hy : ¬p → P y.1) :
    P (if p then x else y).1 := by
  split
  case isTrue hp => exact hx hp
  case isFalse hp => exact hy hp

theorem LawsKept.reqSetClock (h : LawsKept s₀ s) (args : List Byte) : LawsKept s₀ (reqSetClock args s).1 :=
  ite_fst (fun _ => answer_fst (h.setClockTo _)) fun _ => h

theorem LawsKept.reqWriteTariffEntry (h : LawsKept s₀ s) (args : List Byte) : LawsKept s₀ (reqWriteTariffEntry args s).1 := by
  unfold Machine.reqWriteTariffEntry
  split
  · exact h
  · exact ite_fst (fun _ => h) fun _ => h.ctu _

theorem LawsKept.reqActivateTariff (h : LawsKept s₀ s) (args : List Byte) : LawsKept s₀ (reqActivateTariff args s).1 := by
  refine ite_fst (fun _ => ite_fst (fun _ => h) fun _ => ?_) fun _ => h
  split
  · exact h
  · exact h.ctu _

theorem LawsKept.reqOpenSession (h : LawsKept s₀ s) (args : List Byte) : LawsKept s₀ (reqOpenSession args s).1 := by
  refine onBerth_fst h fun b => ite_fst (fun _ => h) fun _ => ite_fst (fun _ => h) fun _ => ite_fst (fun _ => h) fun _ =>
    ite_fst (fun hr => h.openedSession b ?_) fun _ => h
  simp only [openInRange, Bool.and_eq_true, Bool.or_eq_true, beq_iff_eq] at hr
  exact hr.1.1

theorem LawsKept.reqHandoverIn (h : LawsKept s₀ s) (args : List Byte) : LawsKept s₀ (reqHandoverIn args s).1 :=
  onBerth_fst h fun b => ite_fst (fun _ => h) fun _ => ite_fst (fun _ => h.enterState b _) fun _ => h

theorem LawsKept.withdrawClose (h : LawsKept s₀ s) (b : Berth) : LawsKept s₀ (s.withdrawClose b) :=
  .ite (.sbOpenComplete (.openRequest (.setSession h) _) b) (.openRequest (.setSession h) _)

theorem LawsKept.reqAbortHandover (h : LawsKept s₀ s) (args : List Byte) : LawsKept s₀ (reqAbortHandover args s).1 :=
  onBerth_fst h fun b => ite_fst (fun _ => ite_fst (fun _ => h.enterState b _) fun _ => ite_fst (fun _ => h) fun _ =>
    h.withdrawClose b) fun _ => h

theorem LawsKept.rampOutIdle (h : LawsKept s₀ s) (b : Berth) : LawsKept s₀ (s.rampOutIdle b) :=
  .setSession_of (.enterState h b _) (fun _ => ⟨Nat.zero_le _, fun _ => rfl⟩)

theorem LawsKept.reqHandoverOut (h : LawsKept s₀ s) (args : List Byte) : LawsKept s₀ (reqHandoverOut args s).1 := by
  refine onBerth_fst h fun b => ?_
  split
  · exact .setSession (.enterState h b _)
  · exact h.rampOutIdle b
  · exact h.enterState b _
  · exact h

theorem LawsKept.reqCloseSession (h : LawsKept s₀ s) (args : List Byte) : LawsKept s₀ (reqCloseSession args s).1 :=
  onBerth_fst h fun b => ite_fst (fun _ => answer_fst (h.enterDraining b _ _)) fun _ => h

theorem LawsKept.dropClass (h : LawsKept s₀ s) (b : Berth) : LawsKept s₀ (s.dropClass b) := h.setSuperv _ _

theorem LawsKept.reqAbortSession (h : LawsKept s₀ s) (args : List Byte) : LawsKept s₀ (reqAbortSession args s).1 :=
  onBerth_fst h fun b => ite_fst (fun _ => h) fun _ => ite_fst (fun _ => h) fun _ =>
    answer_fst (.abortSession (.ite (h.dropClass b) h) b _)

theorem LawsKept.reqClearFault (h : LawsKept s₀ s) (args : List Byte) : LawsKept s₀ (reqClearFault args s).1 :=
  onBerth_fst h fun b => ite_fst (fun _ => h) fun _ => ite_fst (fun _ => h) fun _ =>
    ite_fst (fun _ => answer_fst (.tryIdle (.setSession (.dropClass h b)) b)) fun _ => h

theorem LawsKept.reqBlockModule (h : LawsKept s₀ s) (args : List Byte) : LawsKept s₀ (reqBlockModule args s).1 := by
  refine onModule_fst h fun m => ?_
  split
  iterate 3 exact h.setModule _ _
  all_goals exact h

theorem LawsKept.reqUnblockModule (h : LawsKept s₀ s) (args : List Byte) : LawsKept s₀ (reqUnblockModule args s).1 :=
  onModule_fst h fun _ => ite_fst (fun _ => ite_fst (fun _ => .grantEvaluation (.setModule h _ _)) fun _ => h) fun _ => h

theorem LawsKept.reqMarkBreaker (h : LawsKept s₀ s) (args : List Byte) : LawsKept s₀ (reqMarkBreaker args s).1 := by
  unfold Machine.reqMarkBreaker
  split
  · exact .setBreaker (.setBreaker h _ _) _ _
  · exact h

theorem LawsKept.reqReleaseBilling (h : LawsKept s₀ s) (args : List Byte) : LawsKept s₀ (reqReleaseBilling args s).1 := by
  unfold Machine.reqReleaseBilling
  split
  · exact ite_fst (fun _ => h.releaseOldest) fun _ => h
  · exact h

/-- The owner of every code keeps the laws. -/
theorem LawsKept.owner (h : LawsKept s₀ s) (code : Nat) (args : List Byte) : LawsKept s₀ (ownerOf code args s).1 := by
  unfold ownerOf
  split
  · unfold reqReadTableEntry; split <;> exact h
  · exact h.writeEntry _ _ _
  · exact h.commitTables _
  · exact h.requestConfig
  · exact h.reqSetClock args
  · exact h.reqWriteTariffEntry args
  · exact h.reqActivateTariff args
  · exact ite_fst (fun _ => h.ctu _) fun _ => h
  · exact h.reqOpenSession args
  · exact h.reqHandoverIn args
  · exact h.reqAbortHandover args
  · exact h.reqHandoverOut args
  · exact h.reqCloseSession args
  · exact h.reqAbortSession args
  · exact h.reqClearFault args
  · exact h.reqBlockModule args
  · exact h.reqUnblockModule args
  · exact h.reqMarkBreaker args
  · unfold reqReadBilling; split <;> exact h
  · exact h.reqReleaseBilling args
  · exact onBerth_fst h fun _ => h
  · exact h
  · refine onScope_fst h fun _ => ?_
    split <;> exact h
  · exact onScope_fst h fun _ => h
  · exact onScope_fst h fun _ => h.mrh _
  · exact onScope_fst h fun _ => h.mrh _
  · exact h

end
end Sys2Proof.Machine

/-! PROOFS. What every act of the part keeps, every step keeps; with it the clamp law and the shore share law. -/

namespace Sys2Proof.Machine

open Sys2Proof


/-! ### Every step -/

/-- A predicate that every treatment of an arriving frame keeps. -/
structure ArrivalsKeep (P : State → Prop) : Prop where
  send : ∀ {s}, P s → ∀ l, P (s.send l)
  survey : ∀ {s}, P s → ∀ k f, P (s.survey k f)
  unknownSource : ∀ {s}, P s → ∀ k f, P (s.unknownSource k f)
  ownReturn : ∀ {s}, P s → ∀ k f, P (s.ownReturn k f)
  requestArrival : ∀ {s}, P s → ∀ r, P (s.requestArrival r)
  deliver : ∀ {s}, P s → ∀ o k n body, P (s.deliver o k n body)

/-- A predicate that every act of the part keeps: the events, the requests with their answers, the arriving frames, the boundary and
the first frame; that the queue outside the part, the events due, what is sent and the reset line are not in; and that the reset
state has. -/
structure ActsKeep (P : State → Prop) : Prop extends ArrivalsKeep P where
  mantle : ∀ {s}, P s → ∀ l d f r, P { s with pending := l, due := d, ringOut := f, resetHeld := r }
  runDue : ∀ {s}, P s → ∀ first d, P (s.runDue first d)
  owner : ∀ {s}, P s → ∀ code args, P (ownerOf code args s).1
  answerHead : ∀ {s}, P s → ∀ a, P (s.answerHead a)
  boundary : ∀ {s}, P s → ∀ e, P (s.boundary e)
  firstFrame : ∀ {s}, P s → P s.firstFrame
  reset : P State.reset

section
variable {P : State → Prop} {s : State}

theorem ArrivalsKeep.requestFrame (k : ArrivalsKeep P) (h : P s) (f : RingFrame) : P (s.requestFrame f) := by
  unfold State.requestFrame
  split
  · exact k.requestArrival h _
  · exact k.send h _

theorem ArrivalsKeep.checkSource (k : ArrivalsKeep P) (h : P s) (o : DeliveryOrder) (q : FrameKind) (f : RingFrame) :
    P (s.checkSource o q f) := by
  unfold State.checkSource
  split
  · exact k.ownReturn h q f
  · split
    · exact k.requestFrame h f
    · split
      · unfold State.passedSource
        dsimp only
        split
        · exact k.send h _
        · exact k.send (k.deliver h o q _ _) _
      · exact k.unknownSource h q f

theorem ArrivalsKeep.arrive (k : ArrivalsKeep P) (h : P s) (o : DeliveryOrder) (b : BitVec 4) (a : Arrival) : P (s.arrive o b a) := by
  unfold State.arrive State.checkFrame
  dsimp only
  split
  · split
    · exact k.send h _
    · split
      · split
        · exact k.checkSource (k.survey h _ _) o _ _
        · split
          · exact k.requestFrame h _
          · exact k.send h _
      · exact k.send h _
  · exact h

theorem ActsKeep.takeDue (k : ActsKeep P) (h : P s) (first : Bool) (d : Due) : P (s.takeDue first d) :=
  k.runDue (k.mantle h s.pending (s.due.erase d) s.ringOut s.resetHeld) first d

theorem ActsKeep.takeIfDue (k : ActsKeep P) (h : P s) (first : Bool) (d : Due) : P (s.takeIfDue first d) := by
  unfold State.takeIfDue
  split
  · refine k.takeDue ?_ first d
    generalize tickChecksBefore d = l
    clear * - k h
    induction l generalizing s with
    | nil => exact h
    | cons c l ih =>
      refine ih ?_
      unfold State.takeCheck
      split
      · exact k.takeDue h _ _
      · exact h
  · exact h

theorem ActsKeep.drainDue (k : ActsKeep P) (h : P s) (n : Nat) : P (s.drainDue n) := by
  induction n generalizing s with
  | zero => exact h
  | succ n ih =>
    unfold State.drainDue
    split
    · exact ih (k.takeDue h _ _)
    · exact h

theorem ActsKeep.execute (k : ActsKeep P) (h : P s) (r : Request) (code : Nat) : P (s.execute r (ownerOf code)) := by
  unfold State.execute
  split
  · exact k.answerHead (k.owner h _ _) _
  · exact k.answerHead h _

theorem ActsKeep.executeHead (k : ActsKeep P) (h : P s) : P s.executeHead := by
  unfold State.executeHead
  split
  · split
    · exact k.execute h _ _
    · exact k.answerHead h _
  · exact h

theorem ActsKeep.executeCode (k : ActsKeep P) (h : P s) (c : Byte) (code : Nat) : P (s.executeCode c (ownerOf code)) := by
  unfold State.executeCode
  split
  · split
    · exact k.execute h _ _
    · exact h
  · exact h

theorem ActsKeep.settle (k : ActsKeep P) (h : P s) : P s.settle := by
  have h1 : P s.settleDue := k.drainDue h _
  unfold State.settle
  dsimp only
  generalize s.settleDue.mrh.requests.length = n
  generalize s.settleDue = t at h1
  induction n generalizing t with
  | zero => exact h1
  | succ n ih => exact ih _ (k.executeHead h1)

theorem ActsKeep.quiet (k : ActsKeep P) (h : P s) : P s.quiet := k.mantle h s.pending s.due [] s.resetHeld

theorem ActsKeep.outside (k : ActsKeep P) (h : P s) {f : State → State} (hf : ∀ t, P t → P (f t)) : P (s.outside f) := by
  unfold State.outside
  split
  · exact k.quiet h
  · exact hf _ (k.settle (k.quiet h))

theorem ActsKeep.inside (k : ActsKeep P) (h : P s) {f : State → State} (hf : ∀ t, P t → P (f t)) : P (s.inside f) := by
  unfold State.inside
  split
  · exact k.quiet h
  · exact hf _ (k.quiet h)

theorem ActsKeep.frameCommand (k : ActsKeep P) (h : P s) (o : DeliveryOrder) (b : BitVec 4) (f : Arrival) :
    P (s.frameCommand o b f) := k.outside h fun _ ht => k.toArrivalsKeep.arrive ht o b f

theorem ActsKeep.requestCommand (k : ActsKeep P) (h : P s) (c : Byte) (code : Nat) : P (s.requestCommand c (ownerOf code)) :=
  k.inside h fun _ ht => k.executeCode (k.drainDue ht _) c code

theorem ActsKeep.eventCommand (k : ActsKeep P) (h : P s) (d : Due) : P (s.eventCommand d) :=
  k.inside h fun _ ht => k.takeIfDue ht false d

/-- Every command answers a next state that has what every act keeps. -/
theorem ActsKeep.exec (k : ActsKeep P) (h : P s) (c : Instr) : Answers (exec c s) P := by
  cases c
  case resetAssert => exact ⟨_, rfl, k.mantle h s.pending s.due [] true⟩
  case resetRelease => exact ⟨_, rfl, k.mantle k.reset s.pending [] [] false⟩
  case cycleBoundary e =>
    refine ⟨_, rfl, k.outside h fun t ht => ?_⟩
    split
    · exact k.boundary ht e
    · exact ht
  case firstCycleFrame => exact ⟨_, rfl, k.outside h fun _ ht => k.firstFrame ht⟩
  case measurementSecondEnd first => exact ⟨_, rfl, k.inside h fun _ ht => k.takeIfDue ht first _⟩
  case cycReturn | ownFrameReturn | foreignFrame | corruptFrame | smpDelivery | modDelivery | brkDelivery | siuDelivery
      | requestFrame => exact ⟨_, rfl, k.frameCommand h _ _ _⟩
  case readTableEntry => exact ⟨_, rfl, k.requestCommand h 1 1⟩
  case writeTableEntry => exact ⟨_, rfl, k.requestCommand h 2 2⟩
  case commit => exact ⟨_, rfl, k.requestCommand h 3 3⟩
  case enterConfiguration => exact ⟨_, rfl, k.requestCommand h 4 4⟩
  case setClock => exact ⟨_, rfl, k.requestCommand h 5 5⟩
  case writeTariffEntry => exact ⟨_, rfl, k.requestCommand h 6 6⟩
  case activateTariff => exact ⟨_, rfl, k.requestCommand h 7 7⟩
  case cancelActivation => exact ⟨_, rfl, k.requestCommand h 8 8⟩
  case openSession => exact ⟨_, rfl, k.requestCommand h 9 9⟩
  case handoverIn => exact ⟨_, rfl, k.requestCommand h 10 10⟩
  case abortHandover => exact ⟨_, rfl, k.requestCommand h 11 11⟩
  case handoverOut => exact ⟨_, rfl, k.requestCommand h 12 12⟩
  case closeSession => exact ⟨_, rfl, k.requestCommand h 13 13⟩
  case abortSession => exact ⟨_, rfl, k.requestCommand h 14 14⟩
  case clearFault => exact ⟨_, rfl, k.requestCommand h 15 15⟩
  case blockModule => exact ⟨_, rfl, k.requestCommand h 16 16⟩
  case unblockModule => exact ⟨_, rfl, k.requestCommand h 17 17⟩
  case markBreaker => exact ⟨_, rfl, k.requestCommand h 18 18⟩
  case readBilling => exact ⟨_, rfl, k.requestCommand h 19 19⟩
  case releaseBilling => exact ⟨_, rfl, k.requestCommand h 20 20⟩
  case readMeter => exact ⟨_, rfl, k.requestCommand h 21 21⟩
  case ringSurvey => exact ⟨_, rfl, k.requestCommand h 22 22⟩
  case readStatus => exact ⟨_, rfl, k.requestCommand h 23 23⟩
  case readEvents => exact ⟨_, rfl, k.requestCommand h 24 24⟩
  case clearEvents => exact ⟨_, rfl, k.requestCommand h 25 25⟩
  case setEventMask => exact ⟨_, rfl, k.requestCommand h 26 26⟩
  all_goals exact ⟨_, rfl, k.eventCommand h _⟩

theorem ActsKeep.step (k : ActsKeep P) (h : P s) {t : State} (hst : step s = .next t) : P t := by
  unfold Machine.step at hst
  split at hst
  · obtain ⟨u, hu, hP⟩ := k.exec (k.mantle h _ s.due s.ringOut s.resetHeld) _
    rw [State.withPending, hu, Host.Outcome.next.injEq] at hst
    exact hst ▸ hP
  · rw [Host.Outcome.next.injEq] at hst
    exact hst ▸ h

end

/-! ### The laws of the sessions, the oscillators and the record ring -/

section
variable {s₀ s : State}

theorem LawsKept.emission (h : LawsKept s₀ s) : LawsKept s₀ s.emission := h.of_same rfl rfl rfl

theorem LawsKept.runDue (h : LawsKept s₀ s) (first : Bool) (d : Due) : LawsKept s₀ (s.runDue first d) := by
  unfold State.runDue
  split
  · exact h.emission
  · exact h.nodeLost _
  · exact h.nodeRecovered _
  iterate 2 exact .ite (.latchStation (.rif h _) _) h
  · exact h.noCrossing _
  · exact h.secondEnd _
  · exact .ite (h.setOsc fun k _ => freeStepOsc_ok k) h
  · exact h.holdoverEntry _
  · exact h.moduleStartLimit _
  · exact h.moduleOperateLimit _
  · exact h.cooldownEnd _
  · exact h.switchingIssue
  · exact h.breakerLimit _
  · exact h.pbCloseRetry _
  · exact h.stageExpiry _
  · exact h.settleEnd _
  · exact h.rampStep _
  · exact h.blankEnd _
  · exact h.restartDue _
  · exact h.restart _
  · exact .ite h.secondTick h
  · exact h.tickActivation
  · exact h.blockEnd
  · exact .ite (h.flushHeld _) h
  · exact h.configTimeout
  · exact h.scrubRead

theorem LawsKept.deliver (h : LawsKept s₀ s) (o : DeliveryOrder) (k : FrameKind) (n : NodeIx) (body : List Byte) :
    LawsKept s₀ (s.deliver o k n body) := by
  have h1 : LawsKept s₀ (s.markDelivered n) := .rif (.setHealth h _ _) _
  refine .ite ?_ h1
  unfold State.handOn
  split
  · exact .foldl (fun _ p k => k.runCycle p _ _ _) _ h1
  · split
    · exact h1.moduleDelivery _ _
    · exact h1
  · split
    · exact h1.breakerDelivery _ _ _
    · exact h1
  · unfold State.shipDelivery
    split
    · exact .breakerDelivery
        (.siuReport (.takeTimeout (.runCycle (.takeTimeout (.runCycle h1 _ _ _ _) _) _ _ _ _) _) _ _ _) _ _ _
    · exact h1
  all_goals exact h1

theorem LawsKept.answerHead (h : LawsKept s₀ s) (a : Answer) : LawsKept s₀ (s.answerHead a) := by
  unfold State.answerHead
  split
  · exact h.mrh _
  · exact h

theorem LawsKept.requestArrival (h : LawsKept s₀ s) (r : Request) : LawsKept s₀ (s.requestArrival r) := by
  refine .ite (.latchStation (.mrh h _) _) (.ite ?_ (h.mrh _))
  unfold State.answerUnknown
  split
  · exact .ite (h.mrh _) (.answerHead (.mrh h _) _)
  · exact h.mrh _

theorem countOperate_session (s : State) (b : Berth) : s.countOperate.session b = boundarySession (s.session b) :=
  vget_vmapIx _ _ _

theorem countAlways_osc (s : State) (b : Berth) : s.countAlways.osc b = boundaryOsc (s.osc b) := vget_vmapIx _ _ _

/-- The counting of a boundary keeps the terms of every session and the clamp law of every oscillator. -/
theorem LawsKept.counted (h : LawsKept s₀ s) : LawsKept s₀ s.counted := by
  have h1 : LawsKept s₀ s.countAlways :=
    h.trans ⟨id, fun k b => ⟨by simpa only [countAlways_osc] using boundaryOsc_ok (k b).1, (k b).2⟩, id⟩
  refine .ite (h1.trans ⟨fun k b => ?_, fun k b => ⟨(k b).1, ?_⟩, id⟩) (h1.cfs _)
  · rw [countOperate_session]
    exact k b
  · rw [countOperate_session]
    exact (k b).2

theorem LawsKept.boundary (h : LawsKept s₀ s) (e : Bool) : LawsKept s₀ (s.boundary e) := by
  have h0 : LawsKept s₀ s.undeliveredCycles.turnCycle := .rif (.rif (.undeliveredCycles h) _) _
  have h1 : LawsKept s₀ s.boundaryWork := h0.counted.due _
  exact .ite (h1.due _) h1.emission

theorem reset_session (b : Berth) : State.reset.session b = Session.reset := vget_replicate _ b

theorem reset_osc (b : Berth) : State.reset.osc b = Osc.reset := vget_replicate _ b

/-- Settles O57: each law read off the reset records. -/
theorem resetLawful : Obligations.ResetLawful := by
  refine ⟨fun b => ?_, fun b => ⟨?_, fun f hf => ?_⟩, Nat.zero_le _, Nat.zero_le _,
    by unfold ClockLaw; decide, by decide, List.nodup_nil, by simp [State.reset, Mrh.reset]⟩
  · rw [reset_session]
    exact ⟨le_rfl, fun _ => rfl⟩
  · rw [reset_osc]
    exact ⟨.inl rfl, by decide, by decide, by decide⟩
  · simp [reset_session, Session.reset] at hf

theorem actsKeep_lawsKept (s₀ : State) : ActsKeep (LawsKept s₀) where
  mantle h _ _ _ _ := h.of_same rfl rfl rfl
  send h := h.send
  runDue h := h.runDue
  owner h := h.owner
  answerHead h := h.answerHead
  survey h _ _ := .ite (h.rif _) h
  unknownSource h _ _ := .send (.latchStation (.rif h _) _) _
  ownReturn h _ _ := .ite (h.rif _) h
  requestArrival h := h.requestArrival
  deliver h := h.deliver
  boundary h := h.boundary
  firstFrame h := .ite h (.emission (.rif h _))
  reset := ⟨fun _ => resetLawful.1, fun _ => resetLawful.2.1, fun _ => resetLawful.2.2.2.1⟩

theorem step_lawsKept {s t : State} (h : step s = .next t) : LawsKept s t := (actsKeep_lawsKept s).step (.refl s) h

/-- Settles O58: an oscillator's record is written only by operations that clamp the setpoint and form its increment, and a session
takes a nominal frequency only from an OPEN SESSION that has tested it. -/
theorem clampKept : Obligations.ClampKept := fun _ _ hs hst => (step_lawsKept hst).clamp hs

/-- Settles O59: a share is written only at an entry into a state, at a ramp step below the cap, at the end of a recall, and with the
cap formed afresh. -/
theorem shoreShareKept : Obligations.ShoreShareKept := fun _ _ hs hst => (step_lawsKept hst).share hs

end
end Sys2Proof.Machine

/-! PROOFS. What the acts of the part leave of the queues, of what is due and of the station clock. `shell` is what no operation of the
berths' blocks, of the front end or of the configuration store touches; a point cycle may make a no-crossing timeout due, which `calm`
leaves out of it. -/

namespace Sys2Proof.Machine

open Sys2Proof

/-- The queue outside the part, the reset line, what is due, the requests and the responses. -/
def mail (s : State) : List Instr × Bool × List Due × List Request × List Response :=
  (s.pending, s.resetHeld, s.due, s.mrh.requests, s.mrh.responses)

/-- The same with the station clock. -/
def shell (s : State) : (List Instr × Bool × List Due × List Request × List Response) × Ctu := (mail s, s.ctu)

/-- Whether a due event is a no-crossing timeout. -/
def isTimeout (d : Due) : Bool :=
  match d with
  | .noCrossingTimeout _ => true
  | _ => false

/-- What is due besides the no-crossing timeouts. -/
def State.dues (s : State) : List Due := s.due.filter (fun d => !isTimeout d)

/-- The shell without the no-crossing timeouts. -/
def calm (s : State) : (List Instr × Bool × List Due × List Request × List Response) × Ctu := shell { s with due := s.dues }

section
variable {s t : State}

theorem shell_of_outer (h : outer t = outer s) : shell t = shell s :=
  (congrArg shell h :)
theorem calm_of_shell (h : shell t = shell s) : calm t = calm s :=
  congrArg (fun x => ((x.1.1, x.1.2.1, x.1.2.2.1.filter (fun d => !isTimeout d), x.1.2.2.2), x.2)) h
theorem mail_of_shell (h : shell t = shell s) : mail t = mail s := congrArg Prod.fst h
theorem ctu_of_calm (h : calm t = calm s) : t.ctu = s.ctu := congrArg Prod.snd h
theorem dues_of_calm (h : calm t = calm s) : t.dues = s.dues := congrArg (fun x => x.1.2.2.1) h
theorem due_of_mail (h : mail t = mail s) : t.due = s.due := congrArg (fun x => x.2.2.1) h
theorem requests_of_mail (h : mail t = mail s) : t.mrh.requests = s.mrh.requests := congrArg (fun x => x.2.2.2.1) h
theorem responses_of_mail (h : mail t = mail s) : t.mrh.responses = s.mrh.responses := congrArg (fun x => x.2.2.2.2) h
theorem requests_of_calm (h : calm t = calm s) : t.mrh.requests = s.mrh.requests := congrArg (fun x => x.1.2.2.2.1) h
theorem responses_of_calm (h : calm t = calm s) : t.mrh.responses = s.mrh.responses := congrArg (fun x => x.1.2.2.2.2) h

theorem shell_mfe (s : State) (x : Mfe) : shell { s with mfe := x } = shell s := rfl
theorem shell_cfs (s : State) (x : Cfs) : shell { s with cfs := x } = shell s := rfl
theorem shell_rif (s : State) (x : Rif) : shell { s with rif := x } = shell s := rfl
theorem setMeas_shell (s : State) (p : Point) (r : MeasRecord) : shell (s.setMeas p r) = shell s := by cases p <;> rfl

/-! ## The front end -/

theorem noCrossing_shell (s : State) (p : Point) : shell (s.noCrossing p) = shell s := by
  obtain ⟨m, h⟩ := noCrossing_outer s p
  exact (shell_of_outer h).trans rfl

theorem filter_erase_of_false {α : Type} [DecidableEq α] {p : α → Bool} {a : α} (h : p a = false) (l : List α) :
    (l.erase a).filter p = l.filter p := by
  induction l with
  | nil => rfl
  | cons x l ih =>
    rw [List.erase_cons]
    split
    case isTrue hx =>
      obtain rfl : x = a := by simpa using hx
      simp [h]
    case isFalse => simp only [List.filter_cons, ih]

/-- A due no-crossing timeout taken is due no longer; it touches nothing else of the calm shell. -/
theorem takeTimeout_calm (s : State) (p : Point) : calm (s.takeTimeout p) = calm s := by
  unfold State.takeTimeout
  split
  · refine (calm_of_shell (noCrossing_shell _ _)).trans ?_
    exact congrArg (fun l => shell { s with due := l })
      (filter_erase_of_false (p := fun d => !isTimeout d) (a := .noCrossingTimeout p) rfl s.due)
  · rfl

theorem foldl_calm {ι : Type} {f : State → ι → State} (hf : ∀ t i, calm (f t i) = calm t) (l : List ι) :
    calm (l.foldl f s) = calm s := by
  induction l generalizing s with
  | nil => rfl
  | cons i l ih => exact ih.trans (hf s i)

theorem foldl_shell {ι : Type} {f : State → ι → State} (hf : ∀ t i, shell (f t i) = shell t) (l : List ι) :
    shell (l.foldl f s) = shell s := by
  induction l generalizing s with
  | nil => rfl
  | cons i l ih => exact ih.trans (hf s i)

theorem forEach_shell {n : Nat} {f : Fin n → State → State} (hf : ∀ i t, shell (f i t) = shell t) :
    shell (forEach f s) = shell s := foldl_shell (fun t i => hf i t) _

theorem takeTimeouts_calm (s : State) : calm s.takeTimeouts = calm s := foldl_calm takeTimeout_calm _

theorem runCycle_calm (s : State) (p : Point) (n : Ext) (e : NodeEntry) (x : Option (Tri Int × Tri Int)) :
    calm (s.runCycle p n e x) = calm s := by
  have h1 (r : MeasRecord) : calm ((s.setMeas p r).addDueOnce (.noCrossingTimeout p)) = calm s := by
    refine Eq.trans ?_ (calm_of_shell (setMeas_shell s p r))
    unfold State.addDueOnce
    split
    · rfl
    · simp [calm, State.dues, shell, mail, isTimeout]
  have h2 (c : Bool) (r : MeasRecord) : calm (if c then (s.setMeas p r).addDueOnce (.noCrossingTimeout p) else s.setMeas p r) = calm s := by
    split
    · exact h1 r
    · exact calm_of_shell (setMeas_shell s p r)
  unfold State.runCycle
  dsimp only
  refine (calm_of_shell (shell_of_outer (presentEveryCycle_outer _ _ _ _))).trans ?_
  split
  · exact (calm_of_shell (shell_of_outer (presentCrossing_outer _ _ _ _))).trans (h2 _ _)
  · exact h2 _ _

theorem undeliveredCycles_calm (s : State) : calm s.undeliveredCycles = calm s := by
  unfold State.undeliveredCycles
  split
  · refine foldl_calm (fun t p => ?_) _
    unfold State.undelivered
    split
    · split
      · rfl
      · exact runCycle_calm _ _ _ _ _
    · rfl
  · rfl

theorem busSecond_outer (s : State) (b : Berth) (e : NodeEntry) :
    outer (((s.secondEndMeter b e).secondEndSession b).superviseReverse b) = outer s :=
  (superviseReverse_outer _ _).trans ((secondEndSession_outer _ _).trans (secondEndMeter_outer _ _ _))

theorem closeBus_shell (b : Berth) (s : State) : shell (s.closeBus b) = shell s := by
  unfold State.closeBus
  dsimp only
  split
  · split
    · exact (shell_of_outer (busSecond_outer _ b _)).trans (setMeas_shell _ _ _)
    · exact setMeas_shell _ _ _
  · exact setMeas_shell _ _ _

theorem refresh_shell (s : State) : shell s.refresh = shell s := shell_of_outer (refresh_outer s)

/-- Besides the timeouts that it takes first, the end of a measurement second touches nothing of the shell. -/
theorem secondEnd_shell (s : State) (first : Bool) : shell (s.secondEnd first) = shell s.takeTimeouts := by
  unfold State.secondEnd
  dsimp only
  have h1 (t : State) : shell (forEach State.closeBus t).closeIncomer = shell t :=
    (setMeas_shell _ _ _).trans (forEach_shell closeBus_shell)
  cases first
  · simp only [Bool.false_eq_true, ↓reduceIte, refresh_shell, h1]
  · simp only [↓reduceIte, refresh_shell, h1]

theorem deliver_calm (s : State) (o : DeliveryOrder) (k : FrameKind) (n : NodeIx) (body : List Byte) :
    calm (s.deliver o k n body) = calm s := by
  have h1 : calm (s.markDelivered n) = calm s := rfl
  unfold State.deliver
  dsimp only
  split
  · refine Eq.trans ?_ h1
    unfold State.handOn
    split
    · exact foldl_calm (fun t p => runCycle_calm t p _ _ _) _
    · split
      · exact calm_of_shell (shell_of_outer (moduleDelivery_outer _ _ _))
      · rfl
    · split
      · exact calm_of_shell (shell_of_outer (breakerDelivery_outer _ _ _ _))
      · rfl
    · unfold State.shipDelivery
      split
      · refine (calm_of_shell (shell_of_outer ((breakerDelivery_outer _ _ _ _).trans (siuReport_outer _ _ _ _)))).trans ?_
        exact (takeTimeout_calm _ _).trans ((runCycle_calm _ _ _ _ _).trans ((takeTimeout_calm _ _).trans (runCycle_calm _ _ _ _ _)))
      · rfl
    all_goals rfl
  · exact h1

/-! ## Nodes, the ring and the configuration store -/

theorem latchStation_shell (s : State) (f : StationFlag) : shell (s.latchStation f) = shell s := shell_of_outer (latchStation_outer s f)

theorem nodeLost_shell (s : State) (n : NodeIx) : shell (s.nodeLost n) = shell s := by
  unfold State.nodeLost
  dsimp only
  split
  · exact (shell_of_outer ((presentLoss_outer _ _).trans (latchStation_outer _ _))).trans rfl
  · rfl

theorem nodeRecovered_shell (s : State) (n : NodeIx) : shell (s.nodeRecovered n) = shell s := by
  unfold State.nodeRecovered
  dsimp only
  split
  · exact (shell_of_outer ((presentRecovery_outer _ _).trans (latchStation_outer _ _))).trans rfl
  · rfl

theorem ringDown_shell (s : State) : shell s.ringDown = shell s := by
  unfold State.ringDown
  split
  · exact (latchStation_shell _ _).trans rfl
  · rfl

theorem ringUp_shell (s : State) : shell s.ringUp = shell s := by
  unfold State.ringUp
  split
  · exact (latchStation_shell _ _).trans rfl
  · rfl

theorem configTimeout_shell (s : State) : shell s.configTimeout = shell s := by
  unfold State.configTimeout
  dsimp only
  split
  · exact (shell_of_outer ((bsyConfigEntry_outer _).trans ((mpmConfigEntry_outer _).trans (latchStation_outer _ _)))).trans rfl
  · rfl

theorem endPass_shell (s : State) (reg : BitVec 32) : shell (s.endPass reg) = shell s := by
  unfold State.endPass
  dsimp only
  split
  · split
    · exact (latchStation_shell _ _).trans rfl
    · rfl
  · split
    · exact (shell_of_outer ((invalidAborts_outer _).trans ((markUnverified_outer _).trans (latchStation_outer _ _)))).trans rfl
    · rfl

theorem scrubRead_shell (s : State) : shell s.scrubRead = shell s := by
  unfold State.scrubRead
  dsimp only
  split
  · split
    · split
      · exact endPass_shell _ _
      · rfl
    · rfl
  · rfl

theorem resetPoints_shell (s : State) (l : List Point) : shell (s.resetPoints l) = shell s :=
  foldl_shell (fun t p => setMeas_shell t p _) l

theorem writeEntry_shell (s : State) (table entry : Byte) (image : List Byte) : shell (s.writeEntry table entry image).1 = shell s := by
  unfold State.writeEntry
  split
  · rfl
  · split
    · rfl
    · dsimp only
      split
      · rfl
      · split
        · rfl
        · unfold State.acceptWrite
          dsimp only
          split
          · unfold State.repairEffects
            split
            · dsimp only
              split
              · refine (resetPoints_shell _ _).trans ?_
                split <;> rfl
              · split <;> rfl
            · exact (shell_of_outer (formCap_outer _ _)).trans rfl
            · split
              · exact (shell_of_outer (formCap_outer _ _)).trans rfl
              · rfl
            all_goals rfl
          · rfl

theorem commitTables_shell (s : State) (sig : BitVec 32) : shell (s.commitTables sig).1 = shell s := by
  unfold State.commitTables
  split
  · rfl
  · split
    · rfl
    · split
      · rfl
      · split <;> rfl

theorem enterConfig_shell (s : State) : shell s.enterConfig = shell s :=
  (shell_of_outer ((mbuConfigEntry_outer _).trans ((bsyConfigEntry_outer _).trans (mpmConfigEntry_outer _)))).trans rfl

end
end Sys2Proof.Machine

/-! PROOFS. What the second tick and the requests leave of the queues, of what is due and of the station clock. -/

namespace Sys2Proof.Machine

open Sys2Proof

/-- The station time and the phase count. -/
def hands (s : State) : StationTime × Nat := (s.ctu.time, s.ctu.phaseCount)

section
variable {s t : State}

theorem shell_eq (hm : mail t = mail s) (hc : t.ctu = s.ctu) : shell t = shell s := Prod.ext hm hc
theorem hands_of_calm (h : calm t = calm s) : hands t = hands s := congrArg (fun c : Ctu => (c.time, c.phaseCount)) (ctu_of_calm h)
theorem hands_of_shell (h : shell t = shell s) : hands t = hands s := hands_of_calm (calm_of_shell h)
theorem ctu_of_shell (h : shell t = shell s) : t.ctu = s.ctu := congrArg Prod.snd h
theorem mail_ctu (s : State) (c : Ctu) : mail { s with ctu := c } = mail s := rfl

theorem recomputeBand_hands (s : State) : hands s.recomputeBand = hands s := rfl
theorem hands_block (s : State) (x : DemandBlock) : hands { s with ctu := { s.ctu with block := x } } = hands s := rfl

/-! ## The second tick -/

theorem recomputeBand_mail (s : State) : mail s.recomputeBand = mail s := rfl

/-- The second tick's account boundary ends its work; the meters touch nothing of the shell. -/
theorem tickAccount_shell (s : State) : shell s.tickAccount = shell { s with ctu := { s.ctu with tick := none } } := by
  unfold State.tickAccount
  split
  case h_1 hn => rw [← hn]
  · dsimp only
    split
    · exact forEach_shell fun b t => shell_of_outer (tickBoundary_outer t _ b)
    · rfl

theorem finishTick_of_due (h : Due.tariffActivation ∈ s.due ∨ Due.demandBlockEnd ∈ s.due) : s.finishTick = s := if_pos h

theorem finishTick_of_not_due (h : ¬ (Due.tariffActivation ∈ s.due ∨ Due.demandBlockEnd ∈ s.due)) : s.finishTick = s.tickAccount :=
  if_neg h

/-- A check of a tick leaves the clock unit as it is, or ends the tick's work. -/
theorem finishTick_shell (s : State) :
    shell s.finishTick = shell s ∨ shell s.finishTick = shell { s with ctu := { s.ctu with tick := none } } := by
  by_cases h : Due.tariffActivation ∈ s.due ∨ Due.demandBlockEnd ∈ s.due
  · exact .inl (by rw [finishTick_of_due h])
  · exact .inr (by rw [finishTick_of_not_due h, tickAccount_shell])

theorem finishTick_mail (s : State) : mail s.finishTick = mail s := by
  rcases finishTick_shell s with h | h
  · exact mail_of_shell h
  · exact (mail_of_shell h).trans rfl

theorem finishTick_hands (s : State) : hands s.finishTick = hands s := by
  rcases finishTick_shell s with h | h
  · exact hands_of_shell h
  · exact (hands_of_shell h).trans rfl

/-- A check of the tick keeps the tick's work as long as another check is due. -/
theorem finishTick_tick (h : Due.tariffActivation ∈ s.due ∨ Due.demandBlockEnd ∈ s.due) : s.finishTick.ctu.tick = s.ctu.tick := by
  rw [finishTick_of_due h]

theorem activate_mail (s : State) : mail s.activate = mail s := by
  unfold State.activate
  exact (recomputeBand_mail _).trans ((mail_of_shell (latchStation_shell _ _)).trans rfl)

theorem activate_hands (s : State) : hands s.activate = hands s := rfl

theorem tickActivation_mail (s : State) : mail s.tickActivation = mail s := by
  unfold State.tickActivation
  split
  · exact (finishTick_mail _).trans (activate_mail s)
  · exact finishTick_mail _

theorem tickActivation_hands (s : State) : hands s.tickActivation = hands s := by
  unfold State.tickActivation
  split
  · exact (finishTick_hands _).trans (activate_hands s)
  · exact finishTick_hands _

theorem blockEnds_shell (s : State) (e : BlockEnd) : shell (forEach (fun b s => s.tickBlockEnd e b) s) = shell s :=
  forEach_shell fun b t => shell_of_outer (tickBlockEnd_outer t e b)

theorem blockEnd_mail (s : State) : mail s.blockEnd = mail s := by
  unfold State.blockEnd
  exact (finishTick_mail _).trans ((mail_ctu _ _).trans (mail_of_shell (blockEnds_shell s _)))

theorem blockEnd_hands (s : State) : hands s.blockEnd = hands s := by
  unfold State.blockEnd
  exact (finishTick_hands _).trans ((hands_block _ _).trans (hands_of_shell (blockEnds_shell s _)))

/-- The checks that a second tick makes due. -/
def tickDues (c : Ctu) : List Due :=
  (if activationDue c then [Due.tariffActivation] else []) ++ (if c.time.second % 900 = 0 then [Due.demandBlockEnd] else [])

/-- The state after a second tick's advance, with the tick's checks due first of all. -/
def State.ticked (s : State) : State := { s with ctu := tickAdvance s.ctu, due := tickDues (tickAdvance s.ctu) ++ s.due }

theorem secondTick_eq (s : State) :
    s.secondTick = (if activationDue (tickAdvance s.ctu) then s.ticked else s.ticked.recomputeBand).finishTick := rfl

theorem secondTick_mail (s : State) : mail s.secondTick = mail s.ticked := by
  rw [secondTick_eq, finishTick_mail]
  split <;> rfl

theorem secondTick_hands (s : State) : hands s.secondTick = (nextSecond s.ctu.time, 0) := by
  rw [secondTick_eq, finishTick_hands]
  split <;> rfl

/-- A second tick that makes a check due holds its work. -/
theorem secondTick_tick (h : Due.tariffActivation ∈ s.secondTick.due ∨ Due.demandBlockEnd ∈ s.secondTick.due) :
    s.secondTick.ctu.tick.isSome = true := by
  rw [secondTick_eq] at h ⊢
  rw [due_of_mail (finishTick_mail _)] at h
  rw [finishTick_tick h]
  split <;> rfl

/-! ## The requests -/

theorem setClockTo_mail (s : State) (t : StationTime) : mail (s.setClockTo t) = mail s := by
  unfold State.setClockTo
  dsimp only
  refine (mail_of_shell (forEach_shell fun b t => shell_of_outer (applyBoundary_outer t b _))).trans ?_
  have h2 : mail (forEach (fun b (x : State) => x.clockSetRestart b)
      { s with ctu := { s.ctu with time := t, clockUnset := false, block := ⟨t, 0⟩ } }).recomputeBand = mail s :=
    (recomputeBand_mail _).trans ((mail_of_shell (forEach_shell fun b t => shell_of_outer (clockSetRestart_outer t b))).trans rfl)
  split
  · exact (activate_mail _).trans h2
  · exact h2

theorem setClockTo_hands (s : State) (t : StationTime) : hands (s.setClockTo t) = (t, s.ctu.phaseCount) := by
  unfold State.setClockTo
  dsimp only
  refine (hands_of_shell (forEach_shell fun b t => shell_of_outer (applyBoundary_outer t b _))).trans ?_
  have h2 : hands (forEach (fun b (x : State) => x.clockSetRestart b)
      { s with ctu := { s.ctu with time := t, clockUnset := false, block := ⟨t, 0⟩ } }).recomputeBand = (t, s.ctu.phaseCount) :=
    (recomputeBand_hands _).trans ((hands_of_shell (forEach_shell fun b t => shell_of_outer (clockSetRestart_outer t b))).trans rfl)
  split
  · exact (activate_hands _).trans h2
  · exact h2

theorem openedSession_shell (s : State) (b : Berth) (a : OpenArgs) : shell (s.openedSession b a) = shell s := by
  unfold State.openedSession
  exact (shell_of_outer ((openingFaults_outer _ _).trans ((allocRequest_outer _ _ _ _).trans (enterState_outer _ _ _)))).trans rfl

/-- The shell of one state is that of another. -/
def SameShell (s t : State) : Prop := shell t = shell s

theorem SameShell.rfl' : SameShell s s := rfl

theorem SameShell.of_outer (h : outer t = outer s) : SameShell s t := shell_of_outer h

/-- The owners that write the clock unit: SET CLOCK and the tariff requests. -/
def isClockCode (code : Nat) : Bool := code == 5 || code == 6 || code == 7 || code == 8

theorem reqOpenSession_sameShell (s : State) (args : List Byte) : SameShell s (reqOpenSession args s).1 :=
  onBerth_fst .rfl' fun b => ite_fst (fun _ => .rfl') fun _ => ite_fst (fun _ => .rfl') fun _ => ite_fst (fun _ => .rfl') fun _ =>
    ite_fst (fun _ => answer_fst (openedSession_shell s b _)) fun _ => .rfl'

theorem reqHandoverIn_sameShell (s : State) (args : List Byte) : SameShell s (reqHandoverIn args s).1 :=
  onBerth_fst .rfl' fun b => ite_fst (fun _ => .rfl') fun _ =>
    ite_fst (fun _ => answer_fst (.of_outer (enterState_outer s b _))) fun _ => .rfl'

theorem withdrawClose_outer (s : State) (b : Berth) : outer (s.withdrawClose b) = outer s := by
  unfold State.withdrawClose
  dsimp only
  split
  · exact (sbOpenComplete_outer _ _).trans (openRequest_outer _ _)
  · exact openRequest_outer _ _

theorem reqAbortHandover_sameShell (s : State) (args : List Byte) : SameShell s (reqAbortHandover args s).1 :=
  onBerth_fst .rfl' fun b => ite_fst (fun _ => ite_fst (fun _ => answer_fst (.of_outer (enterState_outer s b _))) fun _ =>
    ite_fst (fun _ => .rfl') fun _ => answer_fst (.of_outer (withdrawClose_outer s b))) fun _ => .rfl'

theorem reqHandoverOut_sameShell (s : State) (args : List Byte) : SameShell s (reqHandoverOut args s).1 := by
  refine onBerth_fst .rfl' fun b => ?_
  split
  · exact .of_outer (enterState_outer s b _)
  · exact .of_outer (enterState_outer s b _)
  · exact .of_outer (enterState_outer s b _)
  · exact .rfl'

theorem reqCloseSession_sameShell (s : State) (args : List Byte) : SameShell s (reqCloseSession args s).1 :=
  onBerth_fst .rfl' fun b => ite_fst (fun _ => answer_fst (.of_outer (enterDraining_outer s b _ _))) fun _ => .rfl'

theorem reqAbortSession_sameShell (s : State) (args : List Byte) : SameShell s (reqAbortSession args s).1 :=
  onBerth_fst .rfl' fun b => ite_fst (fun _ => .rfl') fun _ => ite_fst (fun _ => .rfl') fun _ => answer_fst <| by
    split
    · exact .of_outer (abortSession_outer (s.dropClass b) b _)
    · exact .of_outer (abortSession_outer s b _)

theorem reqClearFault_sameShell (s : State) (args : List Byte) : SameShell s (reqClearFault args s).1 :=
  onBerth_fst .rfl' fun b => ite_fst (fun _ => .rfl') fun _ => ite_fst (fun _ => .rfl') fun _ =>
    ite_fst (fun _ => answer_fst (.of_outer (tryIdle_outer _ b))) fun _ => .rfl'

theorem reqBlockModule_sameShell (s : State) (args : List Byte) : SameShell s (reqBlockModule args s).1 := by
  refine onModule_fst .rfl' fun m => ?_
  split <;> exact .rfl'

theorem reqUnblockModule_sameShell (s : State) (args : List Byte) : SameShell s (reqUnblockModule args s).1 :=
  onModule_fst .rfl' fun _ => ite_fst (fun _ => ite_fst (fun _ => answer_fst (.of_outer (grantEvaluation_outer _))) fun _ => .rfl')
    fun _ => .rfl'

theorem reqMarkBreaker_sameShell (s : State) (args : List Byte) : SameShell s (reqMarkBreaker args s).1 := by
  unfold reqMarkBreaker
  split
  · exact .of_outer ((setBreaker_outer _ _ _).trans (setBreaker_outer _ _ _))
  · exact .rfl'

theorem reqReleaseBilling_sameShell (s : State) (args : List Byte) : SameShell s (reqReleaseBilling args s).1 := by
  unfold reqReleaseBilling
  split
  · exact ite_fst (fun _ => answer_fst (.of_outer (releaseOldest_outer s))) fun _ => .rfl'
  · exact .rfl'

/-- Every owner but those of the clock unit touches nothing of the shell. -/
theorem owner_sameShell (s : State) (code : Nat) (args : List Byte) (hc : isClockCode code = false) :
    SameShell s (ownerOf code args s).1 := by
  unfold ownerOf
  split
  · unfold reqReadTableEntry; split <;> exact .rfl'
  · exact writeEntry_shell s _ _ _
  · exact commitTables_shell s _
  · exact ite_fst (fun _ => ite_fst (fun _ => answer_fst (enterConfig_shell s)) fun _ => .rfl') fun _ => .rfl'
  iterate 4 exact absurd hc (by decide)
  · exact reqOpenSession_sameShell s args
  · exact reqHandoverIn_sameShell s args
  · exact reqAbortHandover_sameShell s args
  · exact reqHandoverOut_sameShell s args
  · exact reqCloseSession_sameShell s args
  · exact reqAbortSession_sameShell s args
  · exact reqClearFault_sameShell s args
  · exact reqBlockModule_sameShell s args
  · exact reqUnblockModule_sameShell s args
  · exact reqMarkBreaker_sameShell s args
  · unfold reqReadBilling; split <;> exact .rfl'
  · exact reqReleaseBilling_sameShell s args
  · exact onBerth_fst .rfl' fun _ => .rfl'
  · exact .rfl'
  · refine onScope_fst .rfl' fun _ => ?_
    split <;> exact .rfl'
  iterate 3 exact onScope_fst .rfl' fun _ => .rfl'
  · exact .rfl'

theorem reqSetClock_state (s : State) (args : List Byte) : (reqSetClock args s).1 = s
    ∨ ∃ t : StationTime, (t.day ≤ 65535 ∧ t.second ≤ 86399 ∧ t.weekday ≤ 6) ∧ (reqSetClock args s).1 = s.setClockTo t := by
  unfold reqSetClock
  extract_lets t
  split
  case isTrue ht => exact .inr ⟨t, ht, by dsimp only⟩
  case isFalse => exact .inl rfl

/-- The owners of the clock unit: SET CLOCK sets the time that its arguments carry, and the others leave time and phase count. -/
theorem clockOwner_cases (s : State) (code : Nat) (args : List Byte) (hc : isClockCode code = true) :
    mail (ownerOf code args s).1 = mail s ∧ (hands (ownerOf code args s).1 = hands s
      ∨ ∃ t : StationTime, (t.day ≤ 65535 ∧ t.second ≤ 86399 ∧ t.weekday ≤ 6)
        ∧ hands (ownerOf code args s).1 = (t, s.ctu.phaseCount)) := by
  simp only [isClockCode, Bool.or_eq_true, beq_iff_eq] at hc
  obtain ((rfl | rfl) | rfl) | rfl := hc
  · rw [show ownerOf 5 = reqSetClock from rfl]
    rcases reqSetClock_state s args with h | ⟨t, ht, h⟩
    · rw [h]
      exact ⟨rfl, .inl rfl⟩
    · rw [h]
      exact ⟨setClockTo_mail s t, .inr ⟨t, ht, setClockTo_hands s t⟩⟩
  · simp only [ownerOf, reqWriteTariffEntry]
    split
    · exact ⟨rfl, .inl rfl⟩
    · split <;> exact ⟨rfl, .inl rfl⟩
  · simp only [ownerOf, reqActivateTariff]
    split
    · split
      · exact ⟨rfl, .inl rfl⟩
      · split <;> exact ⟨rfl, .inl rfl⟩
    · exact ⟨rfl, .inl rfl⟩
  · simp only [ownerOf, reqCancelActivation]
    split <;> exact ⟨rfl, .inl rfl⟩

/-- No owner touches the queues or what is due. -/
theorem owner_mail (s : State) (code : Nat) (args : List Byte) : mail (ownerOf code args s).1 = mail s := by
  cases hc : isClockCode code
  · exact mail_of_shell (owner_sameShell s code args hc)
  · exact (clockOwner_cases s code args hc).1

end
end Sys2Proof.Machine

/-! PROOFS. The queue, record ring, clock, tick and notice laws at every step, and the settling before an outside event. -/

namespace Sys2Proof.Machine

open Sys2Proof

section
variable {s t : State}

/-! ## Events -/

/-- The events that the emission and the station clock answer for. -/
def isClockEvent (d : Due) : Bool :=
  match d with
  | .emission | .secondTick | .tariffActivation | .demandBlockEnd => true
  | _ => false

theorem freeStep_shell (s : State) (b : Berth) : shell (s.freeStep b) = shell s := by
  unfold State.freeStep
  split <;> rfl

theorem applyHeldOver_shell (s : State) (b : Berth) : shell (s.applyHeldOver b) = shell s := by
  unfold State.applyHeldOver
  split
  · exact shell_of_outer (flushHeld_outer s b)
  · rfl

/-- Every event but the emission's, the clock's and the end of a measurement second touches nothing of the shell. -/
theorem runDue_shell (s : State) (first : Bool) {d : Due} (hd : isClockEvent d = false) (hm : d ≠ .measurementSecondEnd) :
    shell (s.runDue first d) = shell s := by
  cases d with
  | emission | secondTick | tariffActivation | demandBlockEnd => exact absurd hd (by decide)
  | measurementSecondEnd => exact absurd rfl hm
  | nodeLost n => exact nodeLost_shell s n
  | nodeRecovered n => exact nodeRecovered_shell s n
  | ringDown => exact ringDown_shell s
  | ringUp => exact ringUp_shell s
  | noCrossingTimeout p => exact noCrossing_shell s p
  | freeStep b => exact freeStep_shell s b
  | holdoverEntry b => exact shell_of_outer (holdoverEntry_outer s b)
  | moduleStartLimit m => exact shell_of_outer (moduleStartLimit_outer s m)
  | moduleOperateLimit m => exact shell_of_outer (moduleOperateLimit_outer s m)
  | cooldownEnd m => exact shell_of_outer (cooldownEnd_outer s m)
  | switchingIssue => exact shell_of_outer (switchingIssue_outer s)
  | breakerOperateLimit k => exact shell_of_outer (breakerLimit_outer s k)
  | pbCloseRetry b => exact shell_of_outer (pbCloseRetry_outer s b)
  | stageLimitExpiry b => exact shell_of_outer (stageExpiry_outer s b)
  | settleEnd b => exact shell_of_outer (settleEnd_outer s b)
  | rampStep b => exact shell_of_outer (rampStep_outer s b)
  | blankEnd b => exact shell_of_outer (blankEnd_outer s b)
  | restartDue b => exact shell_of_outer (restartDue_outer s b)
  | restart b => exact shell_of_outer (restart_outer s b)
  | heldOverApply b => exact applyHeldOver_shell s b
  | configTimeout => exact configTimeout_shell s
  | scrubRead => exact scrubRead_shell s

/-- Every event but the emission's and the clock's touches nothing of the calm shell. -/
theorem runDue_calm (s : State) (first : Bool) {d : Due} (hd : isClockEvent d = false) : calm (s.runDue first d) = calm s := by
  by_cases hm : d = .measurementSecondEnd
  · subst hm
    exact (calm_of_shell (secondEnd_shell s first)).trans (takeTimeouts_calm s)
  · exact calm_of_shell (runDue_shell s first hd hm)

theorem tickIfReached_eq (s : State) : s.tickIfReached = if 3999 ≤ s.ctu.phaseCount then s.secondTick else s := rfl

/-- Every event but the emission leaves the requests and the responses. -/
theorem runDue_queues (s : State) (first : Bool) {d : Due} (hd : d ≠ .emission) :
    (s.runDue first d).mrh.requests = s.mrh.requests ∧ (s.runDue first d).mrh.responses = s.mrh.responses := by
  cases hc : isClockEvent d
  · exact ⟨requests_of_calm (runDue_calm s first hc), responses_of_calm (runDue_calm s first hc)⟩
  · cases d with
    | emission => exact absurd rfl hd
    | tariffActivation => exact ⟨requests_of_mail (tickActivation_mail s), responses_of_mail (tickActivation_mail s)⟩
    | demandBlockEnd => exact ⟨requests_of_mail (blockEnd_mail s), responses_of_mail (blockEnd_mail s)⟩
    | secondTick =>
      simp only [State.runDue, tickIfReached_eq]
      split
      · exact ⟨requests_of_mail (s := s.ticked) (secondTick_mail s), responses_of_mail (s := s.ticked) (secondTick_mail s)⟩
      · exact ⟨rfl, rfl⟩
    | _ => cases hc

theorem emission_requests (s : State) : s.emission.mrh.requests = s.mrh.requests := rfl
theorem emission_responses (s : State) : s.emission.mrh.responses = s.mrh.responses.drop 2 := rfl
theorem emission_due (s : State) : s.emission.due = s.due := rfl
theorem emission_ctu (s : State) : s.emission.ctu = s.ctu := rfl

/-! ## The queue law -/

theorem queueLaw_iff : QueueLaw s ↔ s.mrh.requests.length + s.mrh.responses.length ≤ 16 := Iff.rfl

theorem queueLaw_of_eq (h : QueueLaw s) (hq : t.mrh.requests = s.mrh.requests) (hr : t.mrh.responses = s.mrh.responses) :
    QueueLaw t := by
  rw [queueLaw_iff, hq, hr]
  exact h

theorem queueLaw_of_calm (h : QueueLaw s) (hc : calm t = calm s) : QueueLaw t :=
  queueLaw_of_eq h (requests_of_calm hc) (responses_of_calm hc)

theorem emission_queueLaw (h : QueueLaw s) : QueueLaw s.emission := by
  rw [queueLaw_iff, emission_requests, emission_responses, List.length_drop]
  exact (Nat.add_le_add_left (Nat.sub_le _ _) _).trans h

theorem answerHead_queueLaw (h : QueueLaw s) (a : Answer) : QueueLaw (s.answerHead a) := by
  unfold State.answerHead
  split
  case h_1 r l hr =>
    rw [queueLaw_iff, hr] at h
    rw [queueLaw_iff]
    simp only [List.length_cons, List.length_append, List.length_nil] at h ⊢
    omega
  case h_2 => exact h

/-- An arriving request finds room, or is only counted (R181). -/
theorem requestArrival_queueLaw (h : QueueLaw s) (r : Request) : QueueLaw (s.requestArrival r) := by
  unfold State.requestArrival
  split
  · exact queueLaw_of_eq h (latchStation_requests _ _) (latchStation_responses _ _)
  case isFalse hn =>
    have hlt : s.mrh.requests.length + s.mrh.responses.length < 16 := Nat.lt_of_not_le hn
    split
    · have h1 : QueueLaw { s with mrh := { s.mrh with requests := s.mrh.requests ++ [r] }.updateHold } := by
        rw [queueLaw_iff]
        simp only [Mrh.updateHold, List.length_append, List.length_cons, List.length_nil]
        omega
      unfold State.answerUnknown
      split
      · split
        · exact h1
        · exact answerHead_queueLaw h1 _
      · exact h1
    · rw [queueLaw_iff]
      simp only [Mrh.updateHold, List.length_append, List.length_cons, List.length_nil]
      omega

theorem turnCycle_shell (s : State) : shell s.turnCycle = shell s := (shell_rif s.concludeHealths _).trans (shell_rif s _)

theorem counted_queues (s : State) : s.counted.mrh = s.mrh := by
  unfold State.counted
  split <;> rfl

theorem counted_queueLaw (h : QueueLaw s) : QueueLaw s.counted := by
  rw [queueLaw_iff, counted_queues]
  exact h

/-- A boundary keeps what its point cycles, its turn, its counting and its emission keep and the list of what is due is not in. -/
theorem boundary_keeps {P : State → Prop} (hcycles : P s.undeliveredCycles) (hturn : ∀ {t : State}, P t → P t.turnCycle)
    (hcounted : ∀ {t : State}, P t → P t.counted) (hdue : ∀ {t : State}, P t → ∀ l, P { t with due := l })
    (hemit : ∀ {t : State}, P t → P t.emission) (e : Bool) : P (s.boundary e) := by
  have hwork : P s.boundaryWork := hdue (hcounted (hturn hcycles)) _
  unfold State.boundary
  cases e
  · exact hemit hwork
  · exact hdue hwork _

theorem actsKeep_queueLaw : ActsKeep QueueLaw where
  mantle h _ _ _ _ := h
  send h _ := h
  runDue {s} h first d := by
    by_cases hd : d = .emission
    · exact hd ▸ emission_queueLaw h
    · exact queueLaw_of_eq h (runDue_queues s first hd).1 (runDue_queues s first hd).2
  owner {s} h code args := queueLaw_of_eq h (requests_of_mail (owner_mail s code args)) (responses_of_mail (owner_mail s code args))
  answerHead h := answerHead_queueLaw h
  survey {s} h k f := by
    unfold State.survey
    split <;> exact h
  unknownSource h _ _ := queueLaw_of_eq h (latchStation_requests _ _) (latchStation_responses _ _)
  ownReturn h _ _ := by
    unfold State.ownReturn
    split <;> exact h
  requestArrival h := requestArrival_queueLaw h
  deliver {s} h o k n body := queueLaw_of_calm h (deliver_calm s o k n body)
  boundary {s} h := boundary_keeps (queueLaw_of_calm h (undeliveredCycles_calm s))
    (fun k => queueLaw_of_calm k (calm_of_shell (turnCycle_shell _))) counted_queueLaw (fun k _ => k) emission_queueLaw
  firstFrame {s} h := by
    unfold State.firstFrame
    split
    · exact h
    · exact emission_queueLaw (s := { s with rif := { s.rif with started := true, cycleOperate := s.operating } }) h
  reset := Nat.zero_le _

/-! ## The clock law -/

theorem clockLaw_of_hands (h : ClockLaw s) (hh : hands t = hands s) : ClockLaw t := by
  obtain ⟨htime, hphase⟩ := Prod.ext_iff.1 hh
  unfold ClockLaw
  rw [show t.ctu.time = s.ctu.time from htime, show t.ctu.phaseCount = s.ctu.phaseCount from hphase]
  exact h

theorem clockLaw_of_calm (h : ClockLaw s) (hc : calm t = calm s) : ClockLaw t := clockLaw_of_hands h (hands_of_calm hc)

theorem clockLaw_of_time {u : StationTime} {n : Nat} (hh : hands t = (u, n)) (hu : u.day ≤ 65535 ∧ u.second ≤ 86399 ∧ u.weekday ≤ 6)
    (hn : n ≤ 3999) : ClockLaw t := by
  obtain ⟨htime, hphase⟩ := Prod.ext_iff.1 hh
  unfold ClockLaw
  rw [show t.ctu.time = u from htime, show t.ctu.phaseCount = n from hphase]
  exact ⟨hu.1, hu.2.1, hu.2.2, hn⟩

/-- A second on, the time is in range again (R137). -/
theorem nextSecond_inRange {u : StationTime} (h : u.day ≤ 65535 ∧ u.second ≤ 86399 ∧ u.weekday ≤ 6) :
    (nextSecond u).day ≤ 65535 ∧ (nextSecond u).second ≤ 86399 ∧ (nextSecond u).weekday ≤ 6 := by
  unfold nextSecond lastSecondOfDay
  split
  · simp only
    omega
  case isFalse hl =>
    simp only [decide_eq_true_eq, not_le] at hl ⊢
    omega

theorem runDue_clockLaw (h : ClockLaw s) (first : Bool) (d : Due) : ClockLaw (s.runDue first d) := by
  cases hc : isClockEvent d
  · exact clockLaw_of_calm h (runDue_calm s first hc)
  · cases d with
    | emission => exact h
    | tariffActivation => exact clockLaw_of_hands h (tickActivation_hands s)
    | demandBlockEnd => exact clockLaw_of_hands h (blockEnd_hands s)
    | secondTick =>
      simp only [State.runDue, tickIfReached_eq]
      split
      · exact clockLaw_of_time (secondTick_hands s) (nextSecond_inRange ⟨h.1, h.2.1, h.2.2.1⟩) (Nat.zero_le _)
      · exact h
    | _ => cases hc

theorem owner_clockLaw (h : ClockLaw s) (code : Nat) (args : List Byte) : ClockLaw (ownerOf code args s).1 := by
  cases hc : isClockCode code
  · exact clockLaw_of_calm h (calm_of_shell (owner_sameShell s code args hc))
  · rcases (clockOwner_cases s code args hc).2 with hh | ⟨u, hu, hh⟩
    · exact clockLaw_of_hands h hh
    · exact clockLaw_of_time hh hu h.2.2.2

theorem counted_clockLaw (h : ClockLaw s) : ClockLaw s.counted := by
  have hc : hands s.counted = (s.ctu.time, if s.ctu.phaseCount < 3999 then s.ctu.phaseCount + 1 else s.ctu.phaseCount) := by
    unfold State.counted
    split <;> rfl
  refine clockLaw_of_time hc ⟨h.1, h.2.1, h.2.2.1⟩ ?_
  have := h.2.2.2
  split <;> omega

theorem actsKeep_clockLaw : ActsKeep ClockLaw where
  mantle h _ _ _ _ := h
  send h _ := h
  runDue h := runDue_clockLaw h
  owner h := owner_clockLaw h
  answerHead h a := by
    unfold State.answerHead
    split <;> exact h
  survey h _ _ := by
    unfold State.survey
    split <;> exact h
  unknownSource h _ _ := h
  ownReturn h _ _ := by
    unfold State.ownReturn
    split <;> exact h
  requestArrival h r := by
    unfold State.requestArrival State.answerUnknown State.answerHead
    repeat' split
    all_goals exact h
  deliver {s} h o k n body := clockLaw_of_calm h (deliver_calm s o k n body)
  boundary {s} h := boundary_keeps (clockLaw_of_calm h (undeliveredCycles_calm s))
    (fun k => clockLaw_of_calm k (calm_of_shell (turnCycle_shell _))) counted_clockLaw (fun k _ => k) fun k => k
  firstFrame h := by
    unfold State.firstFrame
    split <;> exact h
  reset := resetLawful.2.2.2.2.1

end
end Sys2Proof.Machine

/-! PROOFS. The notice law at the acts that are no operation of the berths' blocks alone. -/

namespace Sys2Proof.Machine

open Sys2Proof

section
variable {s t : State}

theorem setMeas_noticeLaw (s : State) (p : Point) (r : MeasRecord) : NoticeLaw (s.setMeas p r) = NoticeLaw s := by cases p <;> rfl

theorem noticeLaw_due (s : State) (l : List Due) : NoticeLaw { s with due := l } = NoticeLaw s := rfl
theorem noticeLaw_ctu (s : State) (x : Ctu) : NoticeLaw { s with ctu := x } = NoticeLaw s := rfl
theorem noticeLaw_cfs (s : State) (x : Cfs) : NoticeLaw { s with cfs := x } = NoticeLaw s := rfl
theorem noticeLaw_rif (s : State) (x : Rif) : NoticeLaw { s with rif := x } = NoticeLaw s := rfl

theorem noCrossing_noticeLaw (s : State) (p : Point) : NoticeLaw (s.noCrossing p) = NoticeLaw s := by
  unfold State.noCrossing
  split
  · split
    · rw [superviseVoltage_noticeLaw, setMeas_noticeLaw]
    · rfl
  · rfl

theorem takeTimeout_noticeLaw (s : State) (p : Point) : NoticeLaw (s.takeTimeout p) = NoticeLaw s := by
  unfold State.takeTimeout
  split
  · rw [noCrossing_noticeLaw, noticeLaw_due]
  · rfl

theorem addDueOnce_noticeLaw (s : State) (d : Due) : NoticeLaw (s.addDueOnce d) = NoticeLaw s := by
  unfold State.addDueOnce
  split <;> rfl

theorem runCycle_noticeLaw (s : State) (p : Point) (n : Ext) (e : NodeEntry) (x : Option (Tri Int × Tri Int)) :
    NoticeLaw (s.runCycle p n e x) = NoticeLaw s := by
  have h (c : Bool) (r : MeasRecord) :
      NoticeLaw (if c then (s.setMeas p r).addDueOnce (.noCrossingTimeout p) else s.setMeas p r) = NoticeLaw s := by
    split
    · rw [addDueOnce_noticeLaw, setMeas_noticeLaw]
    · rw [setMeas_noticeLaw]
  unfold State.runCycle
  dsimp only
  rw [presentEveryCycle_noticeLaw]
  split
  · rw [presentCrossing_noticeLaw, h]
  · rw [h]

theorem undeliveredCycles_noticeLaw (s : State) : NoticeLaw s.undeliveredCycles = NoticeLaw s := by
  unfold State.undeliveredCycles
  split
  · refine noticeLaw_foldl _ (fun t p => ?_) _ _
    unfold State.undelivered
    split
    · split
      · rfl
      · rw [runCycle_noticeLaw]
    · rfl
  · rfl

theorem closeBus_noticeLaw (b : Berth) (s : State) : NoticeLaw (s.closeBus b) = NoticeLaw s := by
  unfold State.closeBus
  dsimp only
  split
  · split
    · rw [superviseReverse_noticeLaw, secondEndSession_noticeLaw, secondEndMeter_noticeLaw, setMeas_noticeLaw]
    · rw [setMeas_noticeLaw]
  · rw [setMeas_noticeLaw]

theorem secondEnd_noticeLaw (s : State) (first : Bool) : NoticeLaw (s.secondEnd first) = NoticeLaw s := by
  have h0 : NoticeLaw s.takeTimeouts = NoticeLaw s := noticeLaw_foldl _ takeTimeout_noticeLaw _ _
  have h1 (t : State) : NoticeLaw (forEach State.closeBus t).closeIncomer = NoticeLaw t :=
    (setMeas_noticeLaw _ _ _).trans (noticeLaw_forEach _ closeBus_noticeLaw t)
  unfold State.secondEnd
  dsimp only
  cases first
  · simp only [Bool.false_eq_true, ↓reduceIte, refresh_noticeLaw, h1, h0]
  · simp only [↓reduceIte, refresh_noticeLaw, h1, h0]

theorem deliver_noticeLaw (s : State) (o : DeliveryOrder) (k : FrameKind) (n : NodeIx) (body : List Byte) :
    NoticeLaw (s.deliver o k n body) = NoticeLaw s := by
  have h1 : NoticeLaw (s.markDelivered n) = NoticeLaw s := rfl
  unfold State.deliver
  dsimp only
  split
  · rw [← h1]
    unfold State.handOn
    split
    · exact noticeLaw_foldl _ (fun t p => runCycle_noticeLaw t p _ _ _) _ _
    · split
      · rw [moduleDelivery_noticeLaw]
      · rfl
    · split
      · rw [breakerDelivery_noticeLaw]
      · rfl
    · unfold State.shipDelivery
      split
      · rw [breakerDelivery_noticeLaw, siuReport_noticeLaw, takeTimeout_noticeLaw, runCycle_noticeLaw, takeTimeout_noticeLaw,
          runCycle_noticeLaw]
      · rfl
    all_goals rfl
  · exact h1

theorem nodeLost_noticeLaw (s : State) (n : NodeIx) : NoticeLaw (s.nodeLost n) = NoticeLaw s := by
  unfold State.nodeLost
  dsimp only
  split
  · rw [presentLoss_noticeLaw, latchStation_noticeLaw]
    rfl
  · rfl

theorem nodeRecovered_noticeLaw (s : State) (n : NodeIx) : NoticeLaw (s.nodeRecovered n) = NoticeLaw s := by
  unfold State.nodeRecovered
  dsimp only
  split
  · rw [presentRecovery_noticeLaw, latchStation_noticeLaw]
    rfl
  · rfl

theorem ringDown_noticeLaw (s : State) : NoticeLaw s.ringDown = NoticeLaw s := by
  unfold State.ringDown
  split
  · rw [latchStation_noticeLaw, noticeLaw_rif]
  · rfl

theorem ringUp_noticeLaw (s : State) : NoticeLaw s.ringUp = NoticeLaw s := by
  unfold State.ringUp
  split
  · rw [latchStation_noticeLaw, noticeLaw_rif]
  · rfl

theorem configTimeout_noticeLaw (s : State) : NoticeLaw s.configTimeout = NoticeLaw s := by
  unfold State.configTimeout
  dsimp only
  split
  · rw [bsyConfigEntry_noticeLaw, mpmConfigEntry_noticeLaw, latchStation_noticeLaw, noticeLaw_cfs]
  · rfl

theorem endPass_noticeLaw (s : State) (reg : BitVec 32) : NoticeLaw (s.endPass reg) = NoticeLaw s := by
  unfold State.endPass State.becomeValid State.becomeInvalid
  dsimp only
  split
  · split
    · rw [latchStation_noticeLaw, noticeLaw_cfs, noticeLaw_cfs]
    · rw [noticeLaw_cfs]
  · split
    · rw [invalidAborts_noticeLaw, markUnverified_noticeLaw, latchStation_noticeLaw, noticeLaw_cfs, noticeLaw_cfs]
    · rw [noticeLaw_cfs]

theorem scrubRead_noticeLaw (s : State) : NoticeLaw s.scrubRead = NoticeLaw s := by
  unfold State.scrubRead
  dsimp only
  split
  · split
    · split
      · rw [endPass_noticeLaw]
      · rw [noticeLaw_cfs]
    · rfl
  · rfl

theorem activate_noticeLaw (s : State) : NoticeLaw s.activate = NoticeLaw s := by
  unfold State.activate State.recomputeBand
  rw [noticeLaw_ctu, latchStation_noticeLaw, noticeLaw_ctu]

theorem finishTick_noticeLaw (s : State) : NoticeLaw s.finishTick = NoticeLaw s := by
  unfold State.finishTick State.tickAccount
  split
  · rfl
  · split
    · rfl
    · dsimp only
      split
      · exact noticeLaw_forEach _ (fun b t => tickBoundary_noticeLaw t _ b) _
      · rfl

theorem secondTick_noticeLaw (s : State) : NoticeLaw s.secondTick = NoticeLaw s := by
  rw [secondTick_eq, finishTick_noticeLaw]
  split <;> rfl

theorem tickActivation_noticeLaw (s : State) : NoticeLaw s.tickActivation = NoticeLaw s := by
  unfold State.tickActivation State.recomputeBand
  dsimp only
  split
  · rw [finishTick_noticeLaw, noticeLaw_ctu, activate_noticeLaw]
  · rw [finishTick_noticeLaw, noticeLaw_ctu]

theorem blockEnd_noticeLaw (s : State) : NoticeLaw s.blockEnd = NoticeLaw s := by
  unfold State.blockEnd
  dsimp only
  rw [finishTick_noticeLaw, noticeLaw_ctu, noticeLaw_forEach _ fun b t => tickBlockEnd_noticeLaw t _ b]

theorem setClockTo_noticeLaw (s : State) (t : StationTime) : NoticeLaw (s.setClockTo t) = NoticeLaw s := by
  unfold State.setClockTo State.recomputeBand
  dsimp only
  rw [noticeLaw_forEach _ fun b t => applyBoundary_noticeLaw t b _]
  split
  · rw [activate_noticeLaw, noticeLaw_ctu, noticeLaw_forEach _ fun b t => clockSetRestart_noticeLaw t b, noticeLaw_ctu]
  · rw [noticeLaw_ctu, noticeLaw_forEach _ fun b t => clockSetRestart_noticeLaw t b, noticeLaw_ctu]

theorem writeEntry_noticeLaw (s : State) (table entry : Byte) (image : List Byte) :
    NoticeLaw (s.writeEntry table entry image).1 = NoticeLaw s := by
  unfold State.writeEntry
  split
  · rfl
  · split
    · rfl
    · dsimp only
      split
      · rfl
      · split
        · rfl
        · unfold State.acceptWrite State.repairEffects
          dsimp only
          split
          · split
            · split
              · refine (noticeLaw_foldl _ (fun t p => setMeas_noticeLaw t p _) _ _).trans ?_
                split <;> rfl
              · split <;> rfl
            · rw [formCap_noticeLaw, noticeLaw_cfs, noticeLaw_cfs]
            · split
              · rw [formCap_noticeLaw, noticeLaw_cfs, noticeLaw_cfs]
              · rfl
            all_goals rfl
          · rfl

theorem commitTables_noticeLaw (s : State) (sig : BitVec 32) : NoticeLaw (s.commitTables sig).1 = NoticeLaw s := by
  unfold State.commitTables
  split
  · rfl
  · split
    · rfl
    · split
      · rfl
      · split <;> rfl

theorem enterConfig_noticeLaw (s : State) : NoticeLaw s.enterConfig = NoticeLaw s := by
  unfold State.enterConfig
  dsimp only
  rw [mbuConfigEntry_noticeLaw, bsyConfigEntry_noticeLaw, mpmConfigEntry_noticeLaw]
  rfl

theorem openedSession_noticeLaw (s : State) (b : Berth) (a : OpenArgs) : NoticeLaw (s.openedSession b a) = NoticeLaw s := by
  unfold State.openedSession
  dsimp only
  rw [openingFaults_noticeLaw, allocRequest_noticeLaw, enterState_noticeLaw, setSuperv_noticeLaw, setSession_noticeLaw, noticeLaw_ses]

theorem owner_noticeLaw (h : NoticeLaw s) (code : Nat) (args : List Byte) : NoticeLaw (ownerOf code args s).1 := by
  unfold ownerOf
  split
  · unfold reqReadTableEntry; split <;> exact h
  · exact (writeEntry_noticeLaw s _ _ _).mpr h
  · exact (commitTables_noticeLaw s _).mpr h
  · exact ite_fst (fun _ => ite_fst (fun _ => answer_fst ((enterConfig_noticeLaw s).mpr h)) fun _ => h) fun _ => h
  · rcases reqSetClock_state s args with hs | ⟨t, -, hs⟩
    · rwa [hs]
    · rwa [hs, setClockTo_noticeLaw]
  · unfold reqWriteTariffEntry
    split
    · exact h
    · split <;> exact h
  · unfold reqActivateTariff
    dsimp only
    split
    · split
      · exact h
      · split <;> exact h
    · exact h
  · unfold reqCancelActivation; split <;> exact h
  · exact onBerth_fst h fun b => ite_fst (fun _ => h) fun _ => ite_fst (fun _ => h) fun _ => ite_fst (fun _ => h) fun _ =>
      ite_fst (fun _ => answer_fst ((openedSession_noticeLaw s b _).mpr h)) fun _ => h
  · exact onBerth_fst h fun b => ite_fst (fun _ => h) fun _ => ite_fst (fun _ => answer_fst ((enterState_noticeLaw s b _).mpr h)) fun _ => h
  · refine onBerth_fst h fun b => ite_fst (fun _ => ite_fst (fun _ => answer_fst ((enterState_noticeLaw s b _).mpr h)) fun _ =>
      ite_fst (fun _ => h) fun _ => ?_) fun _ => h
    unfold State.withdrawClose
    dsimp only
    split
    · rwa [sbOpenComplete_noticeLaw, openRequest_noticeLaw, setSession_noticeLaw]
    · rwa [openRequest_noticeLaw, setSession_noticeLaw]
  · refine onBerth_fst h fun b => ?_
    split
    · exact (enterState_noticeLaw s b _).mpr h
    · exact (enterState_noticeLaw s b _).mpr h
    · exact (enterState_noticeLaw s b _).mpr h
    · exact h
  · exact onBerth_fst h fun b => ite_fst (fun _ => answer_fst ((enterDraining_noticeLaw s b _ _).mpr h)) fun _ => h
  · refine onBerth_fst h fun b => ite_fst (fun _ => h) fun _ => ite_fst (fun _ => h) fun _ => answer_fst ?_
    rw [abortSession_noticeLaw]
    split <;> exact h
  · exact onBerth_fst h fun b => ite_fst (fun _ => h) fun _ => ite_fst (fun _ => h) fun _ =>
      ite_fst (fun _ => answer_fst ((tryIdle_noticeLaw _ b).mpr h)) fun _ => h
  · refine onModule_fst h fun m => ?_
    split <;> exact h
  · exact onModule_fst h fun _ => ite_fst (fun _ => ite_fst (fun _ => answer_fst ((grantEvaluation_noticeLaw _).mpr h)) fun _ => h)
      fun _ => h
  · unfold reqMarkBreaker
    split
    · dsimp only
      rwa [setBreaker_noticeLaw, setBreaker_noticeLaw]
    · exact h
  · unfold reqReadBilling; split <;> exact h
  · unfold reqReleaseBilling
    split
    · exact ite_fst (fun _ => answer_fst ((releaseOldest_noticeLaw s).mpr h)) fun _ => h
    · exact h
  · exact onBerth_fst h fun _ => h
  · exact h
  · refine onScope_fst h fun _ => ?_
    split <;> exact h
  iterate 3 exact onScope_fst h fun _ => h
  · exact h

theorem runDue_noticeLaw (h : NoticeLaw s) (first : Bool) (d : Due) : NoticeLaw (s.runDue first d) := by
  cases d with
  | emission => exact emission_noticeLaw h
  | nodeLost n => exact (nodeLost_noticeLaw s n).mpr h
  | nodeRecovered n => exact (nodeRecovered_noticeLaw s n).mpr h
  | ringDown => exact (ringDown_noticeLaw s).mpr h
  | ringUp => exact (ringUp_noticeLaw s).mpr h
  | noCrossingTimeout p => exact (noCrossing_noticeLaw s p).mpr h
  | measurementSecondEnd => exact (secondEnd_noticeLaw s first).mpr h
  | freeStep b =>
    have hs : NoticeLaw (s.freeStep b) = NoticeLaw s := by unfold State.freeStep; split <;> rfl
    exact hs.mpr h
  | holdoverEntry b => exact (holdoverEntry_noticeLaw s b).mpr h
  | moduleStartLimit m => exact (moduleStartLimit_noticeLaw s m).mpr h
  | moduleOperateLimit m => exact (moduleOperateLimit_noticeLaw s m).mpr h
  | cooldownEnd m => exact (cooldownEnd_noticeLaw s m).mpr h
  | switchingIssue => exact (switchingIssue_noticeLaw s).mpr h
  | breakerOperateLimit k => exact (breakerLimit_noticeLaw s k).mpr h
  | pbCloseRetry b => exact (pbCloseRetry_noticeLaw s b).mpr h
  | stageLimitExpiry b => exact (stageExpiry_noticeLaw s b).mpr h
  | settleEnd b => exact (settleEnd_noticeLaw s b).mpr h
  | rampStep b => exact (rampStep_noticeLaw s b).mpr h
  | blankEnd b => exact (blankEnd_noticeLaw s b).mpr h
  | restartDue b => exact (restartDue_noticeLaw s b).mpr h
  | restart b => exact (restart_noticeLaw s b).mpr h
  | secondTick =>
    simp only [State.runDue, tickIfReached_eq]
    split
    · exact (secondTick_noticeLaw s).mpr h
    · exact h
  | tariffActivation => exact (tickActivation_noticeLaw s).mpr h
  | demandBlockEnd => exact (blockEnd_noticeLaw s).mpr h
  | heldOverApply b =>
    have hs : NoticeLaw (s.applyHeldOver b) = NoticeLaw s := by
      unfold State.applyHeldOver
      split
      · exact flushHeld_noticeLaw s b
      · rfl
    exact hs.mpr h
  | configTimeout => exact (configTimeout_noticeLaw s).mpr h
  | scrubRead => exact (scrubRead_noticeLaw s).mpr h

theorem answerHead_noticeLaw (s : State) (a : Answer) : NoticeLaw (s.answerHead a) = NoticeLaw s := by
  unfold State.answerHead
  split <;> rfl

theorem requestArrival_noticeLaw (h : NoticeLaw s) (r : Request) : NoticeLaw (s.requestArrival r) := by
  unfold State.requestArrival
  split
  · rwa [latchStation_noticeLaw]
  · split
    · unfold State.answerUnknown
      split
      · split
        · exact h
        · rwa [answerHead_noticeLaw]
      · exact h
    · exact h

theorem turnCycle_noticeLaw (s : State) : NoticeLaw s.turnCycle = NoticeLaw s :=
  (noticeLaw_rif s.concludeHealths _).trans (noticeLaw_rif s _)

theorem actsKeep_noticeLaw : ActsKeep NoticeLaw where
  mantle h _ _ _ _ := h
  send h _ := h
  runDue h := runDue_noticeLaw h
  owner h := owner_noticeLaw h
  answerHead {s} h a := (answerHead_noticeLaw s a).mpr h
  survey h _ _ := by
    unfold State.survey
    split <;> exact h
  unknownSource {s} h k f :=
    (latchStation_noticeLaw { s with rif := { s.rif with lastUnknown := some (f.source, k) } } .unknownNode).mpr h
  ownReturn h _ _ := by
    unfold State.ownReturn
    split <;> exact h
  requestArrival h := requestArrival_noticeLaw h
  deliver {s} h o k n body := (deliver_noticeLaw s o k n body).mpr h
  boundary {s} h := boundary_keeps ((undeliveredCycles_noticeLaw s).mpr h)
    (fun {t} k => (turnCycle_noticeLaw t).mpr k)
    (fun {t} k => by
      unfold NoticeLaw
      rw [counted_queues]
      exact k)
    (fun k _ => k) emission_noticeLaw
  firstFrame {s} h := by
    unfold State.firstFrame
    split
    · exact h
    · exact emission_noticeLaw (s := { s with rif := { s.rif with started := true, cycleOperate := s.operating } }) h
  reset := resetLawful.2.2.2.2.2.2

end
end Sys2Proof.Machine

/-! PROOFS. Settling ends with nothing due and nothing queued; the tick law; the laws of the queues, the record ring and the clock at
every step. -/

namespace Sys2Proof.Machine

open Sys2Proof

section
variable {s t : State}

/-! ## Settling (R183) -/

/-- What the events that are due may still take: each of them one, and a second tick that is still to come the two checks that it makes
due. -/
def State.backlog (s : State) : Nat := s.due.length + if 3999 ≤ s.ctu.phaseCount then 2 else 0

theorem takeTimeout_due_length (s : State) (p : Point) : (s.takeTimeout p).due.length ≤ s.due.length := by
  unfold State.takeTimeout
  split
  · rw [due_of_mail (mail_of_shell (noCrossing_shell _ p))]
    exact List.length_erase_le
  · exact le_rfl

theorem takeTimeouts_due_length (s : State) : s.takeTimeouts.due.length ≤ s.due.length := by
  unfold State.takeTimeouts
  generalize allPoints = l
  induction l generalizing s with
  | nil => exact le_rfl
  | cons p l ih => exact (ih _).trans (takeTimeout_due_length s p)

theorem tickDues_length (c : Ctu) : (tickDues c).length ≤ 2 := by
  unfold tickDues
  split <;> split <;> simp

theorem phaseCount_of_hands (h : hands t = hands s) : t.ctu.phaseCount = s.ctu.phaseCount := congrArg Prod.snd h

theorem backlog_le_of (hd : t.due.length ≤ s.due.length) (hh : hands t = hands s) : t.backlog ≤ s.backlog := by
  unfold State.backlog
  rw [phaseCount_of_hands hh]
  omega

/-- No event adds to the backlog: a second tick adds its two checks, and no further tick comes before the next boundary. -/
theorem runDue_backlog (s : State) (first : Bool) (d : Due) : (s.runDue first d).backlog ≤ s.backlog := by
  cases hc : isClockEvent d
  · by_cases hm : d = .measurementSecondEnd
    · subst hm
      refine backlog_le_of ?_ (hands_of_calm (runDue_calm s first hc))
      exact (congrArg List.length (due_of_mail (mail_of_shell (secondEnd_shell s first)))).le.trans (takeTimeouts_due_length s)
    · have h := runDue_shell s first hc hm
      exact backlog_le_of (congrArg List.length (due_of_mail (mail_of_shell h))).le (hands_of_shell h)
  · cases d with
    | emission => exact le_rfl
    | tariffActivation =>
      exact backlog_le_of (congrArg List.length (due_of_mail (tickActivation_mail s))).le (tickActivation_hands s)
    | demandBlockEnd => exact backlog_le_of (congrArg List.length (due_of_mail (blockEnd_mail s))).le (blockEnd_hands s)
    | secondTick =>
      simp only [State.runDue, tickIfReached_eq]
      split
      case isTrue hp =>
        have hd : s.secondTick.due = tickDues (tickAdvance s.ctu) ++ s.due := due_of_mail (s := s.ticked) (secondTick_mail s)
        have hn : s.secondTick.ctu.phaseCount = 0 := congrArg Prod.snd (secondTick_hands s)
        have := tickDues_length (tickAdvance s.ctu)
        simp only [State.backlog, hd, hn, hp, List.length_append, ↓reduceIte, Nat.reduceLeDiff]
        omega
      case isFalse => exact le_rfl
    | _ => cases hc

theorem drainDue_due {n : Nat} (h : s.backlog ≤ n) : (s.drainDue n).due = [] := by
  induction n generalizing s with
  | zero => exact List.eq_nil_of_length_eq_zero (Nat.eq_zero_of_add_eq_zero_right (Nat.eq_zero_of_le_zero h))
  | succ n ih =>
    unfold State.drainDue
    split
    case h_1 d l hd =>
      refine ih ((runDue_backlog _ _ _).trans ?_)
      simp only [State.backlog, hd, List.erase_cons_head, List.length_cons] at h ⊢
      omega
    case h_2 hd => exact hd

theorem settleDue_due (s : State) : s.settleDue.due = [] := by
  refine drainDue_due ?_
  unfold State.backlog
  split <;> omega

theorem answerHead_requests (s : State) (a : Answer) : (s.answerHead a).mrh.requests = s.mrh.requests.tail := by
  unfold State.answerHead
  split
  case h_1 hr => rw [hr, List.tail_cons]
  case h_2 hr => rw [hr, List.tail_nil]

theorem answerHead_due (s : State) (a : Answer) : (s.answerHead a).due = s.due := by
  unfold State.answerHead
  split <;> rfl

/-- The execution of a request answers the head and makes nothing due. -/
theorem execute_queue (s : State) (r : Request) (code : Nat) :
    (s.execute r (ownerOf code)).mrh.requests = s.mrh.requests.tail ∧ (s.execute r (ownerOf code)).due = s.due := by
  unfold State.execute
  split
  · dsimp only
    rw [answerHead_requests, answerHead_due, requests_of_mail (owner_mail s code r.args), due_of_mail (owner_mail s code r.args)]
    exact ⟨rfl, rfl⟩
  · exact ⟨answerHead_requests s _, answerHead_due s _⟩

theorem executeHead_queue (s : State) : s.executeHead.mrh.requests = s.mrh.requests.tail ∧ s.executeHead.due = s.due := by
  unfold State.executeHead
  split
  · split
    · exact execute_queue s _ _
    · exact ⟨answerHead_requests s _, answerHead_due s _⟩
  case h_2 hr => exact ⟨by rw [hr, List.tail_nil], rfl⟩

theorem drainRequests_queue {n : Nat} (h : s.mrh.requests.length = n) :
    (s.drainRequests n).mrh.requests = [] ∧ (s.drainRequests n).due = s.due := by
  induction n generalizing s with
  | zero => exact ⟨List.eq_nil_of_length_eq_zero h, rfl⟩
  | succ n ih =>
    obtain ⟨hr, hd⟩ := executeHead_queue s
    have := ih (s := s.executeHead) (by rw [hr, List.length_tail, h]; rfl)
    rwa [hd] at this

/-- Settles O56: an event taken is due no longer, a second tick adds its two checks once, and each request executed leaves the queue. -/
theorem settleEmpties : Obligations.SettleEmpties := by
  intro s
  obtain ⟨hr, hd⟩ := drainRequests_queue (s := s.settleDue) rfl
  exact ⟨hd.trans (settleDue_due s), hr⟩

/-! ## The tick law (R137) -/

/-- Whether a due event is a check of a second tick. -/
def NoCheckDue (s : State) : Prop := Due.tariffActivation ∉ s.due ∧ Due.demandBlockEnd ∉ s.due

theorem tickLaw_of_noCheckDue (h : NoCheckDue s) : TickLaw s := by
  refine ⟨?_, ?_, fun k => ?_⟩
  · rw [List.count_eq_zero_of_not_mem h.1]
    exact Nat.zero_le _
  · rw [List.count_eq_zero_of_not_mem h.2]
    exact Nat.zero_le _
  · exact absurd k (by simp [h.1, h.2])

theorem mem_dues {d : Due} (hd : isTimeout d = false) : d ∈ s.dues ↔ d ∈ s.due := by simp [State.dues, hd]

theorem count_dues {d : Due} (hd : isTimeout d = false) : s.dues.count d = s.due.count d := List.count_filter (by simp [hd])

theorem noCheckDue_of_calm (h : NoCheckDue s) (hc : calm t = calm s) : NoCheckDue t := by
  simpa only [NoCheckDue, ← mem_dues (d := .tariffActivation) rfl, ← mem_dues (d := .demandBlockEnd) rfl, dues_of_calm hc] using h

theorem tickLaw_of_calm (h : TickLaw s) (hc : calm t = calm s) : TickLaw t := by
  simpa only [TickLaw, ← mem_dues (d := .tariffActivation) rfl, ← mem_dues (d := .demandBlockEnd) rfl,
    ← count_dues (d := .tariffActivation) rfl, ← count_dues (d := .demandBlockEnd) rfl, dues_of_calm hc, ctu_of_calm hc] using h

/-- The tick law after an event is due no longer. -/
theorem tickLaw_erase (h : TickLaw s) (d : Due) : TickLaw { s with due := s.due.erase d } :=
  ⟨(List.erase_sublist.count_le _).trans h.1, (List.erase_sublist.count_le _).trans h.2.1,
    fun k => h.2.2 (k.imp List.mem_of_mem_erase List.mem_of_mem_erase)⟩

theorem tickLaw_of_due (h : TickLaw s) (hd : t.due = s.due) (ht : s.ctu.tick.isSome = true → t.ctu.tick.isSome = true) : TickLaw t := by
  unfold TickLaw
  rw [hd]
  exact ⟨h.1, h.2.1, fun k => ht (h.2.2 k)⟩

theorem finishTick_tickLaw (h : TickLaw s) : TickLaw s.finishTick := by
  by_cases hd : Due.tariffActivation ∈ s.due ∨ Due.demandBlockEnd ∈ s.due
  · rwa [finishTick_of_due hd]
  · refine tickLaw_of_noCheckDue ?_
    rw [NoCheckDue, due_of_mail (finishTick_mail s)]
    exact not_or.1 hd

theorem activate_tick (s : State) : s.activate.ctu.tick = s.ctu.tick := rfl

theorem tickActivation_tickLaw (h : TickLaw s) : TickLaw s.tickActivation := by
  unfold State.tickActivation
  split
  · refine finishTick_tickLaw (tickLaw_of_due h (due_of_mail (activate_mail s)) fun ht => ?_)
    simpa only [activate_tick, Option.isSome_map] using ht
  · exact finishTick_tickLaw (tickLaw_of_due h rfl id)

theorem tickLaw_block (h : TickLaw s) (x : DemandBlock) : TickLaw { s with ctu := { s.ctu with block := x } } := h

/-- The end of the demand block as the meters' part of it, then the block restarted. -/
theorem blockEnd_eq (s : State) :
    ∃ u x, calm u = calm s ∧ s.blockEnd = State.finishTick { u with ctu := { u.ctu with block := x } } :=
  ⟨_, _, calm_of_shell (blockEnds_shell s ⟨s.ctu.block.start, s.ctu.block.elapsed⟩), rfl⟩

theorem blockEnd_tickLaw (h : TickLaw s) : TickLaw s.blockEnd := by
  obtain ⟨u, x, hu, he⟩ := blockEnd_eq s
  rw [he]
  exact finishTick_tickLaw (tickLaw_block (tickLaw_of_calm h hu) x)

/-- A second tick that finds no check due adds each of its two once. -/
theorem secondTick_tickLaw (h : NoCheckDue s) : TickLaw s.secondTick := by
  have hd : s.secondTick.due = tickDues (tickAdvance s.ctu) ++ s.due := due_of_mail (s := s.ticked) (secondTick_mail s)
  have hcount (d : Due) (hn : d ∉ s.due) : (tickDues (tickAdvance s.ctu) ++ s.due).count d ≤ (tickDues (tickAdvance s.ctu)).count d := by
    rw [List.count_append, List.count_eq_zero_of_not_mem hn, Nat.add_zero]
  refine ⟨?_, ?_, fun k => secondTick_tick k⟩ <;> rw [hd]
  · refine (hcount _ h.1).trans ?_
    unfold tickDues
    split <;> split <;> decide
  · refine (hcount _ h.2).trans ?_
    unfold tickDues
    split <;> split <;> decide

theorem runDue_secondTick (s : State) (first : Bool) :
    s.runDue first .secondTick = if 3999 ≤ s.ctu.phaseCount then s.secondTick else s := rfl
theorem runDue_tariffActivation (s : State) (first : Bool) : s.runDue first .tariffActivation = s.tickActivation := rfl
theorem runDue_demandBlockEnd (s : State) (first : Bool) : s.runDue first .demandBlockEnd = s.blockEnd := rfl
theorem runDue_emission (s : State) (first : Bool) : s.runDue first .emission = s.emission := rfl

/-- An event keeps the tick law; a second tick, when the checks of the tick before it have been taken. -/
theorem runDue_tickLaw (h : TickLaw s) (first : Bool) (d : Due) (hd : d = .secondTick → NoCheckDue s) : TickLaw (s.runDue first d) := by
  cases hc : isClockEvent d
  · exact tickLaw_of_calm h (runDue_calm s first hc)
  · cases d with
    | emission => exact tickLaw_of_due h (emission_due s) id
    | tariffActivation =>
      rw [runDue_tariffActivation]
      exact tickActivation_tickLaw h
    | demandBlockEnd =>
      rw [runDue_demandBlockEnd]
      exact blockEnd_tickLaw h
    | secondTick =>
      rw [runDue_secondTick]
      split
      · exact secondTick_tickLaw (hd rfl)
      · exact h
    | _ => cases hc

theorem takeDue_tickLaw (h : TickLaw s) (first : Bool) (d : Due) (hd : d = .secondTick → NoCheckDue s) : TickLaw (s.takeDue first d) :=
  runDue_tickLaw (tickLaw_erase h d) first d fun k =>
    ⟨fun c => (hd k).1 (List.mem_of_mem_erase c), fun c => (hd k).2 (List.mem_of_mem_erase c)⟩

theorem takeDue_due_of_check {d : Due} (first : Bool) (hd : d = .tariffActivation ∨ d = .demandBlockEnd) :
    (s.takeDue first d).due = s.due.erase d := by
  unfold State.takeDue
  rcases hd with rfl | rfl
  · rw [runDue_tariffActivation, due_of_mail (tickActivation_mail _)]
  · rw [runDue_demandBlockEnd, due_of_mail (blockEnd_mail _)]

theorem takeCheck_tickLaw (h : TickLaw s) {d : Due} (hd : d = .tariffActivation ∨ d = .demandBlockEnd) :
    TickLaw (s.takeCheck d) ∧ d ∉ (s.takeCheck d).due ∧ ∀ c ∈ (s.takeCheck d).due, c ∈ s.due := by
  have hcount : s.due.count d ≤ 1 := by
    rcases hd with rfl | rfl
    · exact h.1
    · exact h.2.1
  have htick : d = .secondTick → NoCheckDue s := by
    rintro rfl
    rcases hd with k | k <;> cases k
  unfold State.takeCheck
  split
  · refine ⟨takeDue_tickLaw h _ _ htick, ?_, ?_⟩ <;> rw [takeDue_due_of_check _ hd]
    · rw [← List.count_eq_zero, List.count_erase_self]
      exact Nat.sub_eq_zero_of_le hcount
    · exact fun c k => List.mem_of_mem_erase k
  case isFalse hn => exact ⟨h, hn, fun _ k => k⟩

/-- The checks taken before an event keep the tick law; those taken before a second tick leave none due. -/
theorem takeChecks_tickLaw (h : TickLaw s) (d : Due) :
    TickLaw ((tickChecksBefore d).foldl State.takeCheck s)
      ∧ (d = .secondTick → NoCheckDue ((tickChecksBefore d).foldl State.takeCheck s)) := by
  obtain ⟨h1, hn1, -⟩ := takeCheck_tickLaw h (d := .tariffActivation) (.inl rfl)
  obtain ⟨h2, hn2, hs2⟩ := takeCheck_tickLaw h1 (d := .demandBlockEnd) (.inr rfl)
  unfold tickChecksBefore
  split
  · rw [List.foldl_nil]
    exact ⟨h, fun k => nomatch k⟩
  · rw [List.foldl_cons, List.foldl_nil]
    exact ⟨h1, fun k => nomatch k⟩
  · rw [List.foldl_cons, List.foldl_cons, List.foldl_nil]
    exact ⟨h2, fun _ => ⟨fun k => hn1 (hs2 _ k), hn2⟩⟩

/-- An event taken with the checks of a tick that come before it keeps the tick law. -/
theorem takeIfDue_tickLaw (h : TickLaw s) (first : Bool) (d : Due) : TickLaw (s.takeIfDue first d) := by
  unfold State.takeIfDue
  split
  · exact takeDue_tickLaw (takeChecks_tickLaw h d).1 first d (takeChecks_tickLaw h d).2
  · exact h

theorem noCheckDue_of_nil (h : s.due = []) : NoCheckDue s := by simp [NoCheckDue, h]

/-- Settled, no check is due. -/
theorem settle_noCheckDue (s : State) : NoCheckDue s.settle := noCheckDue_of_nil (settleEmpties s).1

theorem outside_tickLaw (h : TickLaw s) {f : State → State} (hf : ∀ t, t.due = [] → TickLaw (f t)) : TickLaw (s.outside f) := by
  unfold State.outside
  split
  · exact h
  · exact hf _ (settleEmpties s.quiet).1

theorem inside_tickLaw (h : TickLaw s) {f : State → State} (hf : ∀ t, TickLaw t → TickLaw (f t)) : TickLaw (s.inside f) := by
  unfold State.inside
  split
  · exact h
  · exact hf _ h

theorem requestCommand_tickLaw (h : TickLaw s) (c : Byte) (code : Nat) : TickLaw (s.requestCommand c (ownerOf code)) := by
  refine inside_tickLaw h fun t _ => ?_
  have hn := settleDue_due t
  unfold State.executeCode
  split
  · split
    · exact tickLaw_of_noCheckDue (noCheckDue_of_nil ((execute_queue _ _ code).2.trans hn))
    · exact tickLaw_of_noCheckDue (noCheckDue_of_nil hn)
  · exact tickLaw_of_noCheckDue (noCheckDue_of_nil hn)

theorem eventCommand_tickLaw (h : TickLaw s) (d : Due) : TickLaw (s.eventCommand d) :=
  inside_tickLaw h fun _ ht => takeIfDue_tickLaw ht false d

theorem noCheckDue_of_due (h : NoCheckDue s) (hd : t.due = s.due) : NoCheckDue t := by
  unfold NoCheckDue
  rwa [hd]

/-- No arriving frame makes a check of a second tick due. -/
theorem arrivalsKeep_noCheckDue : ArrivalsKeep NoCheckDue where
  send h _ := h
  survey h _ _ := by
    unfold State.survey
    split <;> exact h
  unknownSource h _ _ := h
  ownReturn h _ _ := by
    unfold State.ownReturn
    split <;> exact h
  requestArrival {s} h r := by
    refine noCheckDue_of_due h ?_
    unfold State.requestArrival State.answerUnknown
    split
    · rfl
    · split
      · split
        · split
          · rfl
          · exact answerHead_due _ _
        · rfl
      · rfl
  deliver {s} h o k n body := noCheckDue_of_calm h (deliver_calm s o k n body)

theorem frameCommand_tickLaw (h : TickLaw s) (o : DeliveryOrder) (b : BitVec 4) (f : Arrival) : TickLaw (s.frameCommand o b f) :=
  outside_tickLaw h fun _ ht => tickLaw_of_noCheckDue (arrivalsKeep_noCheckDue.arrive (noCheckDue_of_nil ht) o b f)

theorem counted_due (s : State) : s.counted.due = s.due := by
  unfold State.counted
  split <;> rfl

theorem not_mem_dueIf {c : Bool} {d e : Due} (h : e ≠ d) : e ∉ dueIf c d := by
  unfold dueIf
  split <;> simp [h]

theorem not_mem_dueEach {n : Nat} {c : Fin n → Bool} {f : Fin n → Due} {e : Due} (h : ∀ i, f i ≠ e) : e ∉ dueEach c f := by
  simp [dueEach, h]

/-- A boundary makes no check of a second tick due. -/
theorem boundaryDues_noCheck {old new : State} {e : Due} (he : e = .tariffActivation ∨ e = .demandBlockEnd) (hn : e ∉ new.due) :
    e ∉ boundaryDues old new := by
  have hif {c : Bool} {d : Due} (hd : e ≠ d) : e ∉ dueIf c d := not_mem_dueIf hd
  have heach {n : Nat} {c : Fin n → Bool} {f : Fin n → Due} (hd : ∀ i, f i ≠ e) : e ∉ dueEach c f := not_mem_dueEach hd
  have hring : e ∉ ringDues new := by
    unfold ringDues
    rcases he with rfl | rfl <;> simp [hif, heach]
  have hosc : e ∉ oscillatorDues old new := by
    unfold oscillatorDues
    rcases he with rfl | rfl <;> simp [heach]
  have hpool : e ∉ poolDues new := by
    unfold poolDues
    rcases he with rfl | rfl <;> simp [heach]
  have hses : e ∉ sessionDues old new := by
    unfold sessionDues
    rcases he with rfl | rfl <;> simp [heach]
  have hrestart : e ∉ restartDues new := by
    unfold restartDues
    rcases he with rfl | rfl <;> simp [heach]
  unfold boundaryDues
  rcases he with rfl | rfl <;> cases old.operating <;> simp [hif, heach, hring, hosc, hpool, hses, hrestart, hn]

theorem boundaryWork_noCheckDue (h : NoCheckDue s) : NoCheckDue s.boundaryWork := by
  have h1 : NoCheckDue s.undeliveredCycles.turnCycle :=
    noCheckDue_of_calm (noCheckDue_of_calm h (undeliveredCycles_calm s)) (calm_of_shell (turnCycle_shell _))
  have h2 : NoCheckDue s.undeliveredCycles.turnCycle.counted := noCheckDue_of_due h1 (counted_due _)
  exact ⟨boundaryDues_noCheck (.inl rfl) h2.1, boundaryDues_noCheck (.inr rfl) h2.2⟩

theorem noCheckDue_emission_cons (h : NoCheckDue s) : NoCheckDue { s with due := .emission :: s.due } :=
  ⟨by simpa using h.1, by simpa using h.2⟩

theorem boundary_noCheckDue (h : NoCheckDue s) (e : Bool) : NoCheckDue (s.boundary e) := by
  have hwork := boundaryWork_noCheckDue h
  unfold State.boundary
  cases e
  · exact noCheckDue_of_due hwork (emission_due _)
  · exact noCheckDue_emission_cons hwork

theorem firstFrame_due (s : State) : s.firstFrame.due = s.due := by
  unfold State.firstFrame
  split <;> rfl

/-- Every command keeps the tick law. -/
theorem exec_tickLaw (h : TickLaw s) (c : Instr) : Answers (exec c s) TickLaw := by
  cases c
  case resetAssert => exact ⟨_, rfl, h⟩
  case resetRelease => exact ⟨_, rfl, resetLawful.2.2.2.2.2.1⟩
  case cycleBoundary e =>
    refine ⟨_, rfl, outside_tickLaw h fun t ht => tickLaw_of_noCheckDue ?_⟩
    split
    · exact boundary_noCheckDue (noCheckDue_of_nil ht) e
    · exact noCheckDue_of_nil ht
  case firstCycleFrame =>
    exact ⟨_, rfl, outside_tickLaw h fun t ht => tickLaw_of_noCheckDue (noCheckDue_of_nil ((firstFrame_due t).trans ht))⟩
  case measurementSecondEnd first => exact ⟨_, rfl, inside_tickLaw h fun _ ht => takeIfDue_tickLaw ht first _⟩
  case cycReturn | ownFrameReturn | foreignFrame | corruptFrame | smpDelivery | modDelivery | brkDelivery | siuDelivery
      | requestFrame => exact ⟨_, rfl, frameCommand_tickLaw h _ _ _⟩
  case readTableEntry => exact ⟨_, rfl, requestCommand_tickLaw h 1 1⟩
  case writeTableEntry => exact ⟨_, rfl, requestCommand_tickLaw h 2 2⟩
  case commit => exact ⟨_, rfl, requestCommand_tickLaw h 3 3⟩
  case enterConfiguration => exact ⟨_, rfl, requestCommand_tickLaw h 4 4⟩
  case setClock => exact ⟨_, rfl, requestCommand_tickLaw h 5 5⟩
  case writeTariffEntry => exact ⟨_, rfl, requestCommand_tickLaw h 6 6⟩
  case activateTariff => exact ⟨_, rfl, requestCommand_tickLaw h 7 7⟩
  case cancelActivation => exact ⟨_, rfl, requestCommand_tickLaw h 8 8⟩
  case openSession => exact ⟨_, rfl, requestCommand_tickLaw h 9 9⟩
  case handoverIn => exact ⟨_, rfl, requestCommand_tickLaw h 10 10⟩
  case abortHandover => exact ⟨_, rfl, requestCommand_tickLaw h 11 11⟩
  case handoverOut => exact ⟨_, rfl, requestCommand_tickLaw h 12 12⟩
  case closeSession => exact ⟨_, rfl, requestCommand_tickLaw h 13 13⟩
  case abortSession => exact ⟨_, rfl, requestCommand_tickLaw h 14 14⟩
  case clearFault => exact ⟨_, rfl, requestCommand_tickLaw h 15 15⟩
  case blockModule => exact ⟨_, rfl, requestCommand_tickLaw h 16 16⟩
  case unblockModule => exact ⟨_, rfl, requestCommand_tickLaw h 17 17⟩
  case markBreaker => exact ⟨_, rfl, requestCommand_tickLaw h 18 18⟩
  case readBilling => exact ⟨_, rfl, requestCommand_tickLaw h 19 19⟩
  case releaseBilling => exact ⟨_, rfl, requestCommand_tickLaw h 20 20⟩
  case readMeter => exact ⟨_, rfl, requestCommand_tickLaw h 21 21⟩
  case ringSurvey => exact ⟨_, rfl, requestCommand_tickLaw h 22 22⟩
  case readStatus => exact ⟨_, rfl, requestCommand_tickLaw h 23 23⟩
  case readEvents => exact ⟨_, rfl, requestCommand_tickLaw h 24 24⟩
  case clearEvents => exact ⟨_, rfl, requestCommand_tickLaw h 25 25⟩
  case setEventMask => exact ⟨_, rfl, requestCommand_tickLaw h 26 26⟩
  all_goals exact ⟨_, rfl, eventCommand_tickLaw h _⟩

theorem tickLaw_withPending (h : TickLaw s) (l : List Instr) : TickLaw (s.withPending l) := h

theorem step_tickLaw (h : TickLaw s) (hst : step s = .next t) : TickLaw t := by
  unfold Machine.step at hst
  split at hst
  · obtain ⟨u, hu, hP⟩ := exec_tickLaw (tickLaw_withPending h _) _
    rw [hu, Host.Outcome.next.injEq] at hst
    exact hst ▸ hP
  · rw [Host.Outcome.next.injEq] at hst
    exact hst ▸ h

/-- Settles O60: each act of a step keeps the queue, ring, clock and notice laws; the tick law is kept command by command, since only a
second tick adds its checks, and it finds none due. -/
theorem queuesRingAndClockKept : Obligations.QueuesRingAndClockKept :=
  ⟨fun _ _ hq hr hc hst => ⟨actsKeep_queueLaw.step hq hst, (step_lawsKept hst).ring hr, actsKeep_clockLaw.step hc hst⟩,
    fun _ _ h hst => step_tickLaw h hst,
    fun _ _ h hst => ⟨actsKeep_noticeLaw.step h hst, notices_le_five (actsKeep_noticeLaw.step h hst)⟩⟩

end
end Sys2Proof.Machine

/-! PROOFS. The measurement arithmetic (02): roots, crossing times, the stages of a point cycle and the timeout of a window. -/

namespace Sys2Proof.Machine

open Sys2Proof

/-! ## Roots and crossing times -/

/-- The bits from `k` down complete a root whose square does not pass `n` and whose successor at bit `k` does. -/
theorem isqrtBits_floor {k n r : Nat} (hlow : r * r ≤ n) (hhigh : n < (r + 2 ^ k) * (r + 2 ^ k)) :
    isqrtBits k n r * isqrtBits k n r ≤ n ∧ n < (isqrtBits k n r + 1) * (isqrtBits k n r + 1) := by
  induction k generalizing r with
  | zero => exact ⟨hlow, hhigh⟩
  | succ k ih =>
    rw [isqrtBits]
    split
    case isTrue h =>
      refine ih h ?_
      rwa [Nat.add_assoc, ← Nat.two_mul, ← Nat.pow_succ']
    case isFalse h => exact ih hlow (not_le.1 h)

theorem isqrt_floor (n : Nat) : isqrt n * isqrt n ≤ n ∧ n < (isqrt n + 1) * (isqrt n + 1) := by
  refine isqrtBits_floor (Nat.zero_le n) ?_
  rw [Nat.zero_add, ← Nat.pow_add]
  exact Nat.lt_log2_self.trans_le (Nat.pow_le_pow_right Nat.two_pos (by omega))

theorem sampleTick_eq (n : Ext) : sampleTick n = BitVec.ofNat 32 (1024 * n.toNat) := by
  unfold sampleTick
  apply BitVec.eq_of_toNat_eq
  have := n.isLt
  simp [BitVec.toNat_mul, Nat.mul_comm]

/-- Settles O18: the root by its invariant from bit to bit, the crossing time's quotient by its bounds. -/
theorem rootsAndCrossingTimes : Obligations.RootsAndCrossingTimes := by
  refine ⟨isqrt_floor, fun n cur prev hcur hprev => ⟨?_, ?_, ?_, ?_⟩⟩
  · rw [crossingTime, sampleTick_eq]
  · exact Int.ediv_nonneg (by omega) (by omega)
  · exact Int.ediv_le_of_le_mul (by omega) (by omega)
  · rintro rfl
    rw [Int.sub_zero, Int.mul_ediv_cancel _ hcur.ne']

/-! ## The stages of a point cycle -/

section
variable {vfs : Nat} {u : Option Nat} {t t0 : Ticks} {r : MeasRecord}

theorem periodValid_iff {p : Nat} : periodValid p = true ↔ 58514 ≤ p ∧ p ≤ 102400 := by simp [periodValid, within]

theorem fitWidth_of_lt {w n : Nat} (h : n < 2 ^ w) : fitWidth w n = n := if_pos h

/-- The figures that a computation takes from the window (R26, R27). -/
theorem computeRms_figures (vfs : Nat) (u : Option Nat) (r : MeasRecord) : RmsFigures vfs u r.window (computeRms vfs u r) := by
  refine ⟨rfl, rfl, rfl, ?_, ?_⟩
  · rintro rfl
    exact ⟨rfl, rfl⟩
  · rintro v rfl h1 h2 h3
    have e1 := fitWidth_of_lt (w := 16) h1
    have e2 := fitWidth_of_lt (w := 16) h2
    have e3 := fitWidth_of_lt (w := 16) h3
    exact ⟨by rw [← e1, ← e2, ← e3]; rfl, by rw [← e1, ← e2, ← e3]; rfl⟩

theorem l1Stage_first (h : r.lastCross.l1 = none) :
    l1Stage vfs u t r = { r with window := ⟨⟨0, 0, 0⟩, 0⟩, lastCross := { r.lastCross with l1 := some t } } := by
  unfold l1Stage
  rw [h]
  rfl

theorem l1Stage_invalid (h : r.lastCross.l1 = some t0) (hp : ¬ (58514 ≤ (t - t0).toNat ∧ (t - t0).toNat ≤ 102400)) :
    l1Stage vfs u t r
      = { r with stale := true, window := ⟨⟨0, 0, 0⟩, 0⟩, lastCross := { r.lastCross with l1 := some t } } := by
  unfold l1Stage
  rw [h]
  dsimp only
  rw [if_neg (periodValid_iff.not.2 hp)]
  rfl

theorem l1Stage_valid (h : r.lastCross.l1 = some t0) (hp : 58514 ≤ (t - t0).toNat ∧ (t - t0).toNat ≤ 102400) :
    l1Stage vfs u t r
      = { computeRms vfs u r with
          period := (t - t0).toNat, freq := frequencyOf (t - t0).toNat, stale := false, window := ⟨⟨0, 0, 0⟩, 0⟩,
          lastCross := { r.lastCross with l1 := some t } } := by
  unfold l1Stage
  rw [h]
  dsimp only
  rw [if_pos (periodValid_iff.2 hp)]
  rfl

/-- The frequency of a period in the valid range (R24). -/
theorem frequencyOf_mem {p : Nat} (h : 58514 ≤ p ∧ p ≤ 102400) : 40000 ≤ frequencyOf p ∧ frequencyOf p ≤ 70000 := by
  unfold frequencyOf
  have hp : 0 < p := by omega
  constructor
  · rw [Nat.le_div_iff_mul_le hp]
    omega
  · rw [Nat.div_le_iff_le_mul_add_pred hp]
    omega

theorem rotationStage_unjudged (h : r.stale = true ∨ r.lastCross.l1 = none) :
    rotationStage t r = { r with lastCross := { r.lastCross with l2 := some t } } := by
  unfold rotationStage
  rcases h with h | h
  · cases hc : r.lastCross.l1 <;> simp [h]
  · rw [h]

theorem rotationStage_judged (h : r.lastCross.l1 = some t0) (hs : r.stale = false) :
    rotationStage t r
      = { r with lastCross := { r.lastCross with l2 := some t }, rotation := rotationOf r.period (t - t0).toNat } := by
  unfold rotationStage
  rw [h, hs]
  rfl

theorem rotationOf_ok {p d : Nat} (h : 3 * p ≤ 12 * d ∧ 12 * d ≤ 5 * p) : rotationOf p d = .ok := if_pos (by simpa using h)

theorem rotationOf_reversed {p d : Nat} (h : 12 * d < 3 * p ∨ 5 * p < 12 * d) : rotationOf p d = .reversed :=
  if_neg (by simp; omega)

/-- A record with what stages 1 to 3 of a point cycle put into it: held samples, substituted count, armed marks, and the crossing of
phase 3. -/
def sampled (v i : Tri Int) (n : Nat) (a : Tri Bool) (x : Option Ticks) (r : MeasRecord) : MeasRecord :=
  { r with heldV := v, heldI := i, substCount := n, armed := a, lastCross := { r.lastCross with l3 := x } }

theorem l1Stage_sampled (v i : Tri Int) (n : Nat) (a : Tri Bool) (x : Option Ticks) (r : MeasRecord) :
    l1Stage vfs u t (sampled v i n a x r) = sampled v i n a x (l1Stage vfs u t r) := by
  cases h : r.lastCross.l1 with
  | none =>
    have h' : (sampled v i n a x r).lastCross.l1 = none := h
    rw [l1Stage_first h', l1Stage_first h]
    rfl
  | some t0 =>
    have h' : (sampled v i n a x r).lastCross.l1 = some t0 := h
    by_cases hp : 58514 ≤ (t - t0).toNat ∧ (t - t0).toNat ≤ 102400
    · rw [l1Stage_valid h' hp, l1Stage_valid h hp]
      rfl
    · rw [l1Stage_invalid h' hp, l1Stage_invalid h hp]
      rfl

theorem rotationStage_sampled (v i : Tri Int) (n : Nat) (a : Tri Bool) (x : Option Ticks) (r : MeasRecord) :
    rotationStage t (sampled v i n a x r) = sampled v i n a x (rotationStage t r) := rfl

/-- The power stage changes a record's second and its peak only (R29, R30). -/
theorem powerStage_eq (p : Point) (ifs : Nat) (v i : Tri Int) (b : Bool) (r : MeasRecord) :
    ∃ a n m k, powerStage p ifs v i b r = { r with acc := a, tally := n, substTally := m, peak := k } := by
  cases p with
  | bus b => exact ⟨_, _, _, _, rfl⟩
  | incomer => exact ⟨_, _, _, _, rfl⟩
  | plug b => exact ⟨r.acc, r.tally, r.substTally, r.peak, rfl⟩
  | ship b => exact ⟨r.acc, r.tally, r.substTally, r.peak, rfl⟩

theorem crosses_iff {prev cur : Int} {armed : Bool} : crosses prev cur armed = true ↔ prev ≤ 0 ∧ 0 < cur ∧ armed = true := by
  simp [crosses, and_assoc]

theorem armedAfter_low {prev cur : Int} {armed : Bool} (h : cur < -655) : armedAfter prev cur armed = true := if_pos h

theorem armedAfter_cross {prev cur : Int} {armed : Bool} (h : prev ≤ 0 ∧ 0 < cur ∧ armed = true) :
    armedAfter prev cur armed = false := by
  unfold armedAfter
  rw [if_neg (by omega), if_pos (crosses_iff.2 h)]

theorem armedAfter_kept {prev cur : Int} {armed : Bool} (hl : -655 ≤ cur) (h : ¬ (prev ≤ 0 ∧ 0 < cur ∧ armed = true)) :
    armedAfter prev cur armed = armed := by
  unfold armedAfter
  rw [if_neg (by omega), if_neg (crosses_iff.not.2 h)]

theorem square_eq (z : Int) : square z = z.natAbs ^ 2 := by
  unfold square
  rw [← Int.natAbs_mul_self, Int.toNat_natCast, Nat.pow_two]

/-- The record after phases 1 and 2 have been handled in a point cycle whose samples in use are `v`. -/
def crossingStages (n : Ext) (e : NodeEntry) (u : Option Nat) (v : Tri Int) (r : MeasRecord) : MeasRecord :=
  let a := if r.heldV.l1 ≤ 0 ∧ 0 < v.l1 ∧ r.armed.l1 = true then l1Stage e.vfs.toNat u (crossingTime n v.l1 r.heldV.l1) r else r
  if r.heldV.l2 ≤ 0 ∧ 0 < v.l2 ∧ r.armed.l2 = true then rotationStage (crossingTime n v.l2 r.heldV.l2) a else a

/-- The crossing stages of a point cycle, on the record that stages 1 to 3 leave, are those of the record before them. -/
theorem crossingStages_sampled (n : Ext) (e : NodeEntry) (u : Option Nat) (v i : Tri Int) (c : Nat) (a : Tri Bool)
    (x : Option Ticks) (r : MeasRecord) :
    (let r0 := sampled v i c a x r
     let r1 := if crosses r.heldV.l1 v.l1 r.armed.l1 then l1Stage e.vfs.toNat u (crossingTime n v.l1 r.heldV.l1) r0 else r0
     if crosses r.heldV.l2 v.l2 r.armed.l2 then rotationStage (crossingTime n v.l2 r.heldV.l2) r1 else r1)
      = sampled v i c a x (crossingStages n e u v r) := by
  simp only [crossingStages, crosses_iff, l1Stage_sampled]
  split <;> split <;> rfl

/-- The voltage and current samples that a point cycle works with, and whether it counts as substituted (R18, R20, R21). -/
def samplesInUse (p : Point) (e : NodeEntry) (sample : Option (Tri Int × Tri Int)) (r : MeasRecord) : Tri Int × Tri Int × Bool :=
  match sample with
  | some (v, i) =>
    let v' := condition (flagOf e.mirrored) v
    let i' := condition (flagOf e.mirrored) i
    (triZip substitute r.heldV v', if hasCurrents p then triZip substitute r.heldI i' else r.heldI,
      anyInvalid v' || (hasCurrents p && anyInvalid i'))
  | none => (r.heldV, r.heldI, true)

/-- A point cycle's record: the crossing stages, the samples in use taken, and the sums of the second. -/
theorem pointCycle_record (p : Point) (n : Ext) (e : NodeEntry) (u : Option Nat) (sample : Option (Tri Int × Tri Int))
    (r : MeasRecord) :
    let w := samplesInUse p e sample r
    ∃ b m l k,
      (pointCycle p n e u sample r).record
        = { windowStage w.1 (sampled w.1 w.2.1 (if w.2.2 then satAdd 4294967295 r.substCount 1 else r.substCount)
              ⟨armedAfter r.heldV.l1 w.1.l1 r.armed.l1, armedAfter r.heldV.l2 w.1.l2 r.armed.l2,
                armedAfter r.heldV.l3 w.1.l3 r.armed.l3⟩
              (if crosses r.heldV.l3 w.1.l3 r.armed.l3 then some (crossingTime n w.1.l3 r.heldV.l3) else r.lastCross.l3)
              (crossingStages n e u w.1 r)) with
            acc := b, tally := m, substTally := l, peak := k } := by
  intro w
  obtain ⟨b, m, l, k, h⟩ := powerStage_eq p e.ifs.toNat w.1 w.2.1 w.2.2
    (windowStage w.1 (sampled w.1 w.2.1 (if w.2.2 then satAdd 4294967295 r.substCount 1 else r.substCount)
      ⟨armedAfter r.heldV.l1 w.1.l1 r.armed.l1, armedAfter r.heldV.l2 w.1.l2 r.armed.l2, armedAfter r.heldV.l3 w.1.l3 r.armed.l3⟩
      (if crosses r.heldV.l3 w.1.l3 r.armed.l3 then some (crossingTime n w.1.l3 r.heldV.l3) else r.lastCross.l3)
      (crossingStages n e u w.1 r)))
  refine ⟨b, m, l, k, .trans ?_ h⟩
  rw [← crossingStages_sampled]
  rfl

theorem pointCycle_substituted (p : Point) (n : Ext) (e : NodeEntry) (u : Option Nat) (sample : Option (Tri Int × Tri Int))
    (r : MeasRecord) : (pointCycle p n e u sample r).substituted = (samplesInUse p e sample r).2.2 := rfl

/-- The valid crossing of a point cycle: the time of a crossing of phase 1 whose period is in the valid range. -/
theorem pointCycle_validCross (p : Point) (n : Ext) (e : NodeEntry) (u : Option Nat) (v i : Tri Int) (r : MeasRecord) :
    let z := triZip substitute r.heldV (condition (flagOf e.mirrored) v)
    (pointCycle p n e u (some (v, i)) r).validCross
      = if crosses r.heldV.l1 z.l1 r.armed.l1 && l1Valid (crossingTime n z.l1 r.heldV.l1) r then some (crossingTime n z.l1 r.heldV.l1)
        else none := rfl

theorem crossingStages_repeated (n : Ext) (e : NodeEntry) (u : Option Nat) (r : MeasRecord) :
    crossingStages n e u r.heldV r = r := by
  unfold crossingStages
  rw [if_neg (by omega), if_neg (by omega)]

theorem l1Valid_none (h : r.lastCross.l1 = none) : l1Valid t r = false := by
  unfold l1Valid
  rw [h]

theorem l1Valid_some (h : r.lastCross.l1 = some t0) : l1Valid t r = periodValid (t - t0).toNat := by
  unfold l1Valid
  rw [h]

/-- A crossing of phase 2 leaves every figure of phase 1 and the window as they stand. -/
theorem crossingStages_figures (n : Ext) (e : NodeEntry) (u : Option Nat) (z : Tri Int) (r : MeasRecord) :
    let a := if r.heldV.l1 ≤ 0 ∧ 0 < z.l1 ∧ r.armed.l1 = true then l1Stage e.vfs.toNat u (crossingTime n z.l1 r.heldV.l1) r else r
    ∃ x o, crossingStages n e u z r = { a with lastCross := { a.lastCross with l2 := x }, rotation := o } := by
  intro a
  change ∃ x o, (if r.heldV.l2 ≤ 0 ∧ 0 < z.l2 ∧ r.armed.l2 = true then rotationStage (crossingTime n z.l2 r.heldV.l2) a else a) = _
  split
  · exact ⟨_, _, rfl⟩
  · exact ⟨a.lastCross.l2, a.rotation, rfl⟩

/-- Settles O19: each stage's cases, and a point cycle read as its stages with the samples in use. -/
theorem pointCycleRules : Obligations.PointCycleRules := by
  refine ⟨fun p n e u r => ?_, fun vfs u t t0 r h => ⟨?_, ?_, fun hp => ?_, fun hp => ?_⟩, fun vfs u t r h => l1Stage_first h,
    fun vfs u t t0 r h => ⟨fun hp => ?_, fun hp => l1Stage_invalid h hp⟩,
    fun t r => ⟨fun h => rotationStage_unjudged h, fun t1 h hs => ⟨fun hd => ?_, fun hd => ?_⟩⟩, fun p n e u v i r => ?_⟩
  · obtain ⟨b, m, l, k, hrec⟩ := pointCycle_record p n e u none r
    rw [show samplesInUse p e none r = (r.heldV, r.heldI, true) from rfl, crossingStages_repeated, crosses_self] at hrec
    intro x
    have hx : x.record = _ := hrec
    rw [hx]
    exact ⟨pointCycle_none_validCross p n e u r, rfl, rfl, rfl, rfl, rfl, rfl, rfl, rfl, rfl⟩
  · by_cases hp : 58514 ≤ (t - t0).toNat ∧ (t - t0).toNat ≤ 102400
    · rw [l1Stage_valid h hp]
    · rw [l1Stage_invalid h hp]
  · by_cases hp : 58514 ≤ (t - t0).toNat ∧ (t - t0).toNat ≤ 102400
    · rw [l1Stage_valid h hp]
    · rw [l1Stage_invalid h hp]
  · rw [l1Stage_valid h hp]
    exact ⟨rfl, rfl, rfl, frequencyOf_mem hp⟩
  · rw [l1Stage_invalid h hp]
    exact ⟨rfl, rfl, rfl⟩
  · rw [l1Stage_valid h hp]
    exact ⟨rfl, computeRms_figures vfs u r⟩
  · rw [rotationStage_judged h hs, rotationOf_ok hd]
  · rw [rotationStage_judged h hs, rotationOf_reversed hd]
  · intro o z c1 c2 t1 t2 a b
    obtain ⟨s, m, l, k, hrec⟩ := pointCycle_record p n e u (some (v, i)) r
    obtain ⟨x, w, hfig⟩ := crossingStages_figures n e u z r
    have hcross : o.validCross = if crosses r.heldV.l1 z.l1 r.armed.l1 && l1Valid t1 r then some t1 else none :=
      pointCycle_validCross p n e u v i r
    have hb : crossingStages n e u z r = b := rfl
    have ho : o.record = _ := hrec
    rw [show (samplesInUse p e (some (v, i)) r).1 = z from rfl] at ho
    refine ⟨by rw [ho]; rfl, ?_, ⟨by rw [ho, ← hb]; rfl, ?_, by rw [ho, ← hb]; rfl⟩, fun h => ?_, fun h => ?_, fun h hc => ?_, ?_, ?_,
      fun t0 hc h h1 h2 => ?_, fun h => ?_⟩
    · rw [ho, hfig]
      exact ⟨rfl, rfl, rfl, rfl, rfl, rfl, rfl, rfl⟩
    · rw [ho, hfig]
      rfl
    · rw [ho]
      exact armedAfter_low h
    · rw [ho]
      exact armedAfter_cross h
    · rw [ho]
      exact armedAfter_kept h hc
    · rw [ho, hfig]
      rfl
    · rw [ho, hfig, ← square_eq]
      rfl
    · rw [hcross, crosses_iff.2 hc, l1Valid_some h, periodValid_iff.2 ⟨h1, h2⟩]
      rfl
    · rw [hcross]
      rcases h with h | h
      · rw [Bool.eq_false_iff.2 (crosses_iff.not.2 h)]
        rfl
      · rw [l1Valid_none h, Bool.and_false]
        rfl

end
end Sys2Proof.Machine

/-! PROOFS. The events of the part and the oscillators (03), the measured close time (05), the band in force (08), and the energy and
charge of a second (09). -/

namespace Sys2Proof.Machine

open Sys2Proof

section
variable {s : State}

/-! ## A due event taken from its command -/

@[simp] theorem without_osc (s : State) (d : Due) (b : Berth) : (s.without d).osc b = s.osc b := rfl
@[simp] theorem without_session (s : State) (d : Due) (b : Berth) : (s.without d).session b = s.session b := rfl
@[simp] theorem without_superv (s : State) (d : Due) (b : Berth) : (s.without d).superv b = s.superv b := rfl
@[simp] theorem without_sync (s : State) (d : Due) (b : Berth) : (s.without d).sync b = s.sync b := rfl
@[simp] theorem without_meter (s : State) (d : Due) (b : Berth) : (s.without d).meter b = s.meter b := rfl
@[simp] theorem without_module (s : State) (d : Due) (m : ModuleId) : (s.without d).module m = s.module m := rfl
@[simp] theorem without_breaker (s : State) (d : Due) (k : Breaker) : (s.without d).breaker k = s.breaker k := by cases k <;> rfl
@[simp] theorem without_meas (s : State) (d : Due) (p : Point) : (s.without d).meas p = s.meas p := by cases p <;> rfl
@[simp] theorem without_health (s : State) (d : Due) (n : NodeIx) : (s.without d).health n = s.health n := rfl
@[simp] theorem without_classFor (s : State) (d : Due) (k : FaultKind) : (s.without d).classFor k = s.classFor k := rfl
@[simp] theorem without_operating (s : State) (d : Due) : (s.without d).operating = s.operating := rfl

/-! ## Oscillators -/

theorem incrementOf_toNat {f : Nat} (h : f ≤ 61200) : (incrementOf f).toNat = (f * 2 ^ 32 + 2000000) / 4000000 := by
  rw [incrementOf, BitVec.toNat_ofNat]
  omega

/-- Settles O22: below 61,200 the increment loses nothing, and half its step is far below half a millihertz. -/
theorem incrementAndReport : Obligations.IncrementAndReport := by
  refine ⟨fun _ _ => rfl, fun f => incrementOf_toNat, fun _ => rfl, fun f hf => ?_⟩
  rw [reportedFrequency, incrementOf_toNat (by omega)]
  omega

theorem clampFreq_of_mem {n f : Nat} (hl : clampLow n ≤ f) (hh : f ≤ clampHigh n) : clampFreq n f = f := by
  unfold clampFreq
  rw [if_neg (not_lt.2 hl), if_neg (not_lt.2 hh)]

/-- An oscillator record written as it stands changes nothing. -/
theorem setOsc_osc (s : State) (b : Berth) : s.setOsc b (s.osc b) = s := by
  unfold State.setOsc State.osc
  rw [vset_vget]

/-- The FREE step of a record within the clamp law (R41): toward nominal the clamp takes nothing away. -/
theorem freeStepOsc_eq {o : Osc} (h : OscOk o) :
    freeStepOsc o =
      (let f := if o.fset < o.fnom then o.fset + min 10 (o.fnom - o.fset) else o.fset - min 10 (o.fset - o.fnom)
       { o with fset := f, k := incrementOf f, slew := 0 }) := by
  obtain ⟨-, hlow, hhigh, hk⟩ := h
  have hclamp (f : Nat) (hf : clampLow o.fnom ≤ f ∧ f ≤ clampHigh o.fnom) :
      (if f = o.fset then { o with slew := 0 } else { setSetpoint o f with slew := 0 })
        = { o with fset := f, k := incrementOf f, slew := 0 } := by
    split
    case isTrue hs => rw [hs, ← hk]
    case isFalse => rw [setSetpoint, clampFreq_of_mem hf.1 hf.2]
  have hnom : clampLow o.fnom ≤ o.fnom ∧ o.fnom ≤ clampHigh o.fnom := by
    unfold clampLow clampHigh
    omega
  have hf : (if o.fset < o.fnom then o.fset + min 10 (o.fnom - o.fset)
      else if o.fnom < o.fset then o.fset - min 10 (o.fset - o.fnom) else o.fset)
      = if o.fset < o.fnom then o.fset + min 10 (o.fnom - o.fset) else o.fset - min 10 (o.fset - o.fnom) := by
    split
    · rfl
    · split
      · rfl
      · omega
  unfold freeStepOsc
  dsimp only
  rw [hf]
  refine hclamp _ ?_
  split <;> omega

/-- A WARN-class fault leaves a warning and nothing else (R130). -/
theorem fault_warn {b : Berth} {k : FaultKind} (h : (s.session b).state ≠ .idle) (hc : s.classFor k = .warn) :
    s.fault b k = s.warnFault b k := by
  unfold State.fault
  rw [if_neg h, hc]

/-- Settles O23: the FREE step stays within the clamp range (`freeStepOsc_eq`); a holdover entry is a LOCK_LOST, which the class WARN
turns into a warning. -/
theorem oscillatorEvents : Obligations.OscillatorEvents := by
  refine ⟨fun s b hdue hmode hslew hok => ?_, fun s b hdue hmode hhold hdog => ?_⟩
  · have step : (s.without (.freeStep b)).freeStep b = (s.without (.freeStep b)).setOsc b (freeStepOsc (s.osc b)) :=
      if_pos ⟨hmode, hslew⟩
    calc exec (.freeStep b) s = .next (s.eventCommand (.freeStep b)) := rfl
      _ = .next ((s.without (.freeStep b)).freeStep b) := by rw [eventCommand_of_due hdue]; rfl
      _ = _ := by rw [step, freeStepOsc_eq hok]
  · have entry : exec (.holdoverEntry b) s
        = .next (((s.without (.holdoverEntry b)).setOsc b { s.osc b with holdover := true }).fault b .lockLost) :=
      calc exec (.holdoverEntry b) s = .next (s.eventCommand (.holdoverEntry b)) := rfl
        _ = .next ((s.without (.holdoverEntry b)).holdoverEntry b) := by rw [eventCommand_of_due hdue]; rfl
        _ = _ := congrArg _ (if_pos ⟨hmode, hhold, hdog⟩)
    exact ⟨entry, fun hidle hclass => entry.trans (congrArg _ (fault_warn hidle hclass))⟩

/-- Settles O24: outside its mode each update is the identity; within it the clamp is written as bounds. -/
theorem lockCorrectionLaw : Obligations.LockCorrection := by
  refine ⟨fun s b => ⟨fun h => ?_, fun h => ?_⟩, fun n t f o => ⟨fun h => if_neg h, fun h => ?_⟩⟩
  · rw [State.trackCrossing, trackUpdate, if_neg h]
    exact setOsc_osc s b
  · rw [State.trackCrossing, trackUpdate, if_pos h, setSetpoint, clampFreq_eq, Nat.add_comm]
  · rw [lockCorrection, if_pos h, ← sampleTick_eq]
    rfl

/-! ## The measured close time -/

/-- Settles O34: the definitions read on both sides of the range's ends. -/
theorem measuredCloseTime : Obligations.MeasuredCloseTime := by
  refine ⟨fun n i o => ?_, fun e z hl hh => if_pos ⟨hl, hh⟩, fun e z h => if_neg (by omega)⟩
  rw [measuredTime, Nat.cast_add, Nat.cast_mul]
  rfl

/-! ## The band in force -/

/-- Whether an entry of a table qualifies at a weekday and minute (R145). -/
def qualifies (weekday minute : Nat) (e : TariffEntry) : Bool := maskIncludes e weekday && e.start ≤ minute

/-- One entry judged against the best so far (R145). -/
def betterEntry (weekday minute : Nat) (best : Option (Slot × TariffEntry)) (x : Slot × TariffEntry) : Option (Slot × TariffEntry) :=
  if qualifies weekday minute x.2 then
    match best with
    | some y => if y.2.start < x.2.start then some x else best
    | none => some x
  else best

theorem entryInForce_eq (t : Vector (Option TariffEntry) 16) (weekday minute : Nat) :
    entryInForce t weekday minute = (tableEntries t).foldl (betterEntry weekday minute) none := rfl

/-- What an entry in force among some entries is: none when none qualifies, otherwise a qualifying one of greatest start. -/
def IsBest (weekday minute : Nat) (l : List (Slot × TariffEntry)) (best : Option (Slot × TariffEntry)) : Prop :=
  match best with
  | none => ∀ x ∈ l, qualifies weekday minute x.2 = false
  | some y => y ∈ l ∧ qualifies weekday minute y.2 = true ∧ ∀ x ∈ l, qualifies weekday minute x.2 = true → x.2.start ≤ y.2.start

theorem isBest_betterEntry {w n : Nat} {l : List (Slot × TariffEntry)} {best : Option (Slot × TariffEntry)} (h : IsBest w n l best)
    (x : Slot × TariffEntry) : IsBest w n (l ++ [x]) (betterEntry w n best x) := by
  unfold betterEntry
  cases hq : qualifies w n x.2
  · cases best with
    | none => simpa [IsBest, or_imp, forall_and, hq] using h
    | some y =>
      obtain ⟨hy, hyq, hmax⟩ := h
      refine ⟨List.mem_append_left _ hy, hyq, fun z hz hzq => ?_⟩
      rcases List.mem_append.1 hz with hz | hz
      · exact hmax z hz hzq
      · rw [List.mem_singleton.1 hz, hq] at hzq
        cases hzq
  · cases best with
    | none =>
      refine ⟨by simp, hq, fun z hz hzq => ?_⟩
      rcases List.mem_append.1 hz with hz | hz
      · rw [h z hz] at hzq
        cases hzq
      · rw [List.mem_singleton.1 hz]
    | some y =>
      obtain ⟨hy, hyq, hmax⟩ := h
      have bound (z : Slot × TariffEntry) (hz : z ∈ l ++ [x]) (hzq : qualifies w n z.2 = true) :
          z.2.start ≤ y.2.start ∨ z.2.start ≤ x.2.start := by
        rcases List.mem_append.1 hz with hz | hz
        · exact .inl (hmax z hz hzq)
        · exact .inr (by rw [List.mem_singleton.1 hz])
      by_cases hlt : y.2.start < x.2.start
      · simp only [hlt, if_true]
        exact ⟨by simp, hq, fun z hz hzq => (bound z hz hzq).elim (fun k => k.trans hlt.le) id⟩
      · simp only [hlt, if_false, if_true]
        exact ⟨List.mem_append_left _ hy, hyq, fun z hz hzq => (bound z hz hzq).elim id (fun k => k.trans (not_lt.1 hlt))⟩

theorem isBest_foldl {w n : Nat} {l k : List (Slot × TariffEntry)} {best : Option (Slot × TariffEntry)} (h : IsBest w n l best) :
    IsBest w n (l ++ k) (k.foldl (betterEntry w n) best) := by
  induction k generalizing l best with
  | nil => rwa [List.append_nil]
  | cons x k ih => simpa using ih (isBest_betterEntry h x)

theorem mem_tableEntries {t : Vector (Option TariffEntry) 16} {i : Slot} {e : TariffEntry} :
    (i, e) ∈ tableEntries t ↔ vget t i = some e := by
  simp [tableEntries, List.mem_filterMap]

/-- Settles O46: the entry in force is the best of the table's entries (`isBest_foldl`). -/
theorem bandInForce : Obligations.BandInForce := by
  intro t time ok
  have best : IsBest time.weekday (time.second / 60) (tableEntries t) (entryInForce t time.weekday (time.second / 60)) := by
    rw [entryInForce_eq]
    exact isBest_foldl (l := []) (best := none) fun _ h => nomatch h
  unfold bandOf
  cases hf : entryInForce t time.weekday (time.second / 60) with
  | none =>
    rw [hf] at best
    refine ⟨fun _ => rfl, fun ⟨i, e, he, hok⟩ => ?_⟩
    have := best (i, e) (mem_tableEntries.2 he)
    exact absurd (hok.symm.trans this) (by decide)
  | some y =>
    rw [hf] at best
    obtain ⟨hy, hok, hmax⟩ := best
    have hget : vget t y.1 = some y.2 := mem_tableEntries.1 hy
    refine ⟨fun h => absurd (hok.symm.trans (h _ _ hget)) (by decide), fun _ => ⟨y.1, y.2, hget, hok, rfl, fun j x hx hxok => ?_⟩⟩
    exact hmax (j, x) (mem_tableEntries.2 hx) hxok

/-! ## Energy and charge -/

theorem modifyLast_append {α : Type} (f : α → α) (l : List α) (a : α) : modifyLast f (l ++ [a]) = l ++ [f a] := by
  induction l with
  | nil => rfl
  | cons b l ih =>
    cases l with
    | nil => rfl
    | cons c l => exact congrArg (b :: ·) ih

theorem addWidth_of_lt {w a b : Nat} (h : a + b < 2 ^ w) : addWidth w a b = a + b := fitWidth_of_lt h

theorem energyDivisor_eq : energyDivisor = 32767 ^ 2 * 14400 := rfl

/-- Settles O48: quotient and remainder of each division hold its whole dividend. -/
theorem energyAndCharge : Obligations.EnergyAndCharge := by
  refine ⟨fun e p x => ⟨rfl, ?_, ?_, rfl, rfl, rfl⟩, fun raw v i m h => ?_, fun raw v i m h => ?_, fun v i m => rfl⟩
  · simp only [importInto]
    omega
  · simp only [importInto]
    omega
  · intro x
    have hx : x = _ := if_pos h
    rw [← energyDivisor_eq, hx]
    refine ⟨Nat.div_add_mod' _ _, Nat.mod_lt _ (by decide), rfl, rfl, rfl, addWidth_of_lt, fun r es last hr he => ?_⟩
    simp only [onLastEntry, hr, Option.map_some, he, modifyLast_append]
  · intro x
    have hx : x = _ := (if_neg (by omega)).trans (if_pos h)
    rw [← energyDivisor_eq, hx]
    exact ⟨Nat.div_add_mod' _ _, Nat.mod_lt _ (by decide), rfl, rfl, rfl, rfl, addWidth_of_lt⟩

end
end Sys2Proof.Machine

/-! PROOFS. The pool under the session's own operations (06): the presentations to a session that leave every module and both queues of
the pool as they are, and the count of a berth's modules as the size of a set. -/

namespace Sys2Proof.Machine

open Sys2Proof

/-! ## Operations that leave the pool as it is -/

@[simp] theorem placeRecord_mpm (s : State) (b : Berth) (r : OpenRecord) (closedAt : StationTime) (reason : CloseReason) :
    (s.placeRecord b r closedAt reason).mpm = s.mpm := by
  simp [State.placeRecord]

@[simp] theorem deferClosure_mpm (s : State) (b : Berth) (d : Deferral) : (s.deferClosure b d).mpm = s.mpm := by
  simp [State.deferClosure]

@[simp] theorem applyBoundary_mpm (s : State) (b : Berth) (a : AcctBoundary) : (s.applyBoundary b a).mpm = s.mpm := by
  simp only [State.applyBoundary]
  split
  · split <;> simp
  · simp
  · rfl

@[simp] theorem flushHeld_mpm (s : State) (b : Berth) : (s.flushHeld b).mpm = s.mpm := by
  simp only [State.flushHeld]
  split <;> simp

@[simp] theorem startMetering_mpm (s : State) (b : Berth) (session : Option Nat) (account : Option (BitVec 32)) (restart : Bool) :
    (s.startMetering b session account restart).mpm = s.mpm := by
  simp only [State.startMetering]
  split <;> simp

@[simp] theorem endMetering_mpm (s : State) (b : Berth) (reason : CloseReason) : (s.endMetering b reason).mpm = s.mpm := by
  simp only [State.endMetering]
  split
  · split
    · split <;> split <;> simp
    · simp
    · simp
  · rfl

@[simp] theorem issueClose_mpm (s : State) (k : Breaker) : (s.issueClose k).mpm = s.mpm := setBreaker_mpm _ _ _
@[simp] theorem issueOpen_mpm (s : State) (k : Breaker) : (s.issueOpen k).mpm = s.mpm := setBreaker_mpm _ _ _

@[simp] theorem closeRequest_mpm (s : State) (k : Breaker) : (s.closeRequest k).1.mpm = s.mpm := by
  simp only [State.closeRequest]
  split <;> simp

@[simp] theorem openRequest_mpm (s : State) (k : Breaker) : (s.openRequest k).1.mpm = s.mpm := by
  simp only [State.openRequest]
  split
  · split <;> simp
  · rfl
  · split <;> simp

@[simp] theorem pbCloseComplete_mpm (s : State) (b : Berth) : (s.pbCloseComplete b).mpm = s.mpm := by
  simp only [State.pbCloseComplete]
  split <;> simp

@[simp] theorem presentPbClose_mpm (s : State) (b : Berth) : (s.presentPbClose b).mpm = s.mpm := by
  simp only [State.presentPbClose]
  split <;> simp

@[simp] theorem formCap_mpm (s : State) (b : Berth) : (s.formCap b).mpm = s.mpm := rfl

@[simp] theorem idleEntry_mpm (s : State) (b : Berth) : (s.idleEntry b).mpm = s.mpm := by
  simp [State.idleEntry]

@[simp] theorem tryIdle_mpm (s : State) (b : Berth) : (s.tryIdle b).mpm = s.mpm := by
  simp only [State.tryIdle]
  split <;> simp

/-- A change of holdings presented leaves the pool as it is. -/
@[simp] theorem changeOfHoldings_mpm (s : State) (b : Berth) : (s.changeOfHoldings b).mpm = s.mpm := by
  simp only [State.changeOfHoldings]
  split <;> simp

theorem module_of_mpm {s t : State} (h : t.mpm = s.mpm) (m : ModuleId) : t.module m = s.module m :=
  congrArg (fun p : Mpm => vget p.module m) h

@[simp] theorem enterState_module (s : State) (b : Berth) (st : SessionState) (m : ModuleId) :
    (s.enterState b st).module m = s.module m := module_of_mpm (enterState_mpm s b st) m

@[simp] theorem changeOfHoldings_module (s : State) (b : Berth) (m : ModuleId) : (s.changeOfHoldings b).module m = s.module m :=
  module_of_mpm (changeOfHoldings_mpm s b) m

theorem countIn_of_mpm {s t : State} (h : t.mpm = s.mpm) (b : Berth) (st : ModuleState) : t.countIn b st = s.countIn b st := by
  unfold State.countIn
  rw [h]

theorem held_of_mpm {s t : State} (h : t.mpm = s.mpm) (b : Berth) : t.held b = s.held b := by
  unfold State.held
  rw [countIn_of_mpm h, countIn_of_mpm h]

/-! ## A berth's modules counted as a set -/

/-- The modules of a berth in a state. -/
def State.inState (s : State) (b : Berth) (st : ModuleState) : Finset ModuleId :=
  Finset.univ.filter fun m => (s.module m).state = st ∧ (s.module m).berth = some b

/-- The modules STARTING or BOUND for a berth. -/
def State.holding (s : State) (b : Berth) : Finset ModuleId :=
  Finset.univ.filter fun m => isHolding (s.module m) = true ∧ (s.module m).berth = some b

theorem inStateFor_iff {st : ModuleState} {b : Berth} {r : ModuleRecord} :
    inStateFor st b r = true ↔ r.state = st ∧ r.berth = some b := by simp [inStateFor]

theorem isHolding_iff {r : ModuleRecord} : isHolding r = true ↔ r.state = .starting ∨ r.state = .bound := by simp [isHolding]

theorem card_filter_univ {n : Nat} (p : Fin n → Bool) :
    ((List.finRange n).filter p).length = (Finset.univ.filter fun i => p i = true).card := by
  rw [← List.toFinset_card_of_nodup ((List.nodup_finRange n).filter p), List.toFinset_filter, List.toFinset_finRange]

theorem countIn_eq_card (s : State) (b : Berth) (st : ModuleState) : s.countIn b st = (s.inState b st).card := by
  have h : s.countIn b st = ((List.finRange 8).filter fun m => inStateFor st b (s.module m)).length := by
    unfold State.countIn vlist
    rw [List.filter_map, List.length_map]
    rfl
  rw [h, card_filter_univ]
  simp only [State.inState, inStateFor_iff]

theorem held_eq_card (s : State) (b : Berth) : s.held b = (s.holding b).card := by
  unfold State.held
  rw [countIn_eq_card, countIn_eq_card, ← Finset.card_union_of_disjoint]
  · congr 1
    ext m
    simp only [State.inState, State.holding, Finset.mem_union, Finset.mem_filter, Finset.mem_univ, true_and, isHolding_iff]
    tauto
  · refine Finset.disjoint_left.2 fun m h1 h2 => ?_
    simp only [State.inState, Finset.mem_filter, Finset.mem_univ, true_and] at h1 h2
    exact absurd (h1.1.symm.trans h2.1) (by decide)

theorem mem_holding {s : State} {b : Berth} {m : ModuleId} :
    m ∈ s.holding b ↔ ((s.module m).state = .starting ∨ (s.module m).state = .bound) ∧ (s.module m).berth = some b := by
  simp [State.holding, isHolding_iff]

/-- No module STARTING or BOUND for a berth exactly when it holds none. -/
theorem held_eq_zero_iff {s : State} {b : Berth} : s.held b = 0 ↔ ∀ m, isHolding (s.module m) = true → (s.module m).berth ≠ some b := by
  rw [held_eq_card, Finset.card_eq_zero, State.holding, Finset.filter_eq_empty_iff]
  simp

/-! ## The pick of a grant (R65) -/

/-- The modules that may be granted. -/
def State.free (s : State) : Finset ModuleId := Finset.univ.filter fun m => s.grantable m = true

theorem freeCount_eq_card (s : State) : s.freeCount = s.free.card := card_filter_univ s.grantable

theorem mem_freeIn {s : State} {g : Bool} {m : ModuleId} : m ∈ s.freeIn g ↔ inGroupA m = g ∧ s.grantable m = true := by
  simp [State.freeIn]

theorem grantable_iff {s : State} {m : ModuleId} :
    s.grantable m = true ↔ (s.module m).state = .free ∧ flagOf (s.moduleEntry m).enabled = true := by simp [State.grantable]

/-- Every module numbered below the head of a filtered list fails the filter. -/
theorem head_filter_finRange {n : Nat} {p : Fin n → Bool} {m : Fin n} (h : ((List.finRange n).filter p).head? = some m) :
    p m = true ∧ ∀ i, i.val < m.val → p i = false := by
  rw [List.head?_filter, List.find?_eq_some_iff_append] at h
  obtain ⟨hm, l, r, hl, hfail⟩ := h
  refine ⟨hm, fun i hi => ?_⟩
  have hsorted := (List.sortedLT_finRange n).pairwise
  rw [hl] at hsorted
  have hmem : i ∈ l ++ m :: r := hl ▸ List.mem_finRange i
  rcases List.mem_append.1 hmem with h' | h'
  · simpa using hfail i h'
  · rcases List.mem_cons.1 h' with rfl | h'
    · exact absurd hi (lt_irrefl _)
    · have := (List.pairwise_cons.1 (List.pairwise_append.1 hsorted).2.1).1 i h'
      exact absurd hi (not_lt.2 (Fin.le_def.1 this.le))

/-- The group that a pick takes from (R65). -/
def State.picksA (s : State) (b : Berth) : Bool :=
  if (s.freeIn false).length < (s.freeIn true).length then true
  else if (s.freeIn true).length < (s.freeIn false).length then false
  else s.heldIn b true ≤ s.heldIn b false

theorem pick_eq (s : State) (b : Berth) : s.pick b = (s.freeIn (s.picksA b)).head? := by
  unfold State.pick
  change (if s.picksA b = true then _ else _) = _
  cases s.picksA b <;> rfl

theorem pick_some {s : State} {b : Berth} {m : ModuleId} (h : s.pick b = some m) :
    inGroupA m = s.picksA b ∧ s.grantable m = true ∧ ∀ i : ModuleId, i.val < m.val → inGroupA i = inGroupA m → s.grantable i = false := by
  rw [pick_eq] at h
  obtain ⟨hm, hlow⟩ := head_filter_finRange h
  rw [Bool.and_eq_true, beq_iff_eq] at hm
  refine ⟨hm.1, hm.2, fun i hi hg => ?_⟩
  have := hlow i hi
  rw [hg, hm.1, beq_self_eq_true, Bool.true_and] at this
  exact this

/-- While a module is FREE a pick finds one. -/
theorem pick_isSome {s : State} (b : Berth) (h : 0 < s.freeCount) : ∃ m, s.pick b = some m := by
  obtain ⟨m, hm⟩ := Finset.card_pos.1 (freeCount_eq_card s ▸ h)
  have hg : s.grantable m = true := (Finset.mem_filter.1 hm).2
  have hne : s.freeIn (s.picksA b) ≠ [] := by
    intro hnil
    have hother : 0 < (s.freeIn (!s.picksA b)).length := by
      refine List.length_pos_of_mem (a := m) (mem_freeIn.2 ⟨?_, hg⟩)
      by_contra hgroup
      have : m ∈ s.freeIn (s.picksA b) := mem_freeIn.2 ⟨by cases h : inGroupA m <;> cases k : s.picksA b <;> simp_all, hg⟩
      rw [hnil] at this
      cases this
    have hzero : (s.freeIn (s.picksA b)).length = 0 := by rw [hnil]; rfl
    cases hp : s.picksA b <;> rw [hp] at hother hzero
    · rw [State.picksA, if_pos (by simpa [hzero] using hother)] at hp
      cases hp
    · rw [State.picksA, if_neg (by simp [hzero]), if_pos (by simpa [hzero] using hother)] at hp
      cases hp
  rw [pick_eq]
  exact Option.isSome_iff_exists.1 (List.isSome_head?.2 hne)

end Sys2Proof.Machine

/-! PROOFS. Grants and releases of modules (04): what a run of picks starts, what a release leaves of a module and of the switching
queue, and a grant and a grant evaluation put together from them. -/

namespace Sys2Proof.Machine

open Sys2Proof

section
variable {s : State}

/-! ## Modules started (R54) -/

/-- A module's record when it is started for a berth (R54). -/
def startedRecord (e : ModuleEntry) (b : Berth) (r : ModuleRecord) : ModuleRecord :=
  { r with
    state := .starting, berth := some b, run := .run, stageTimer := 0, startLimit := 4 * e.startLimit.toNat, op := .none,
    stopPhase := false }

theorem startModule_eq (s : State) (m : ModuleId) (b : Berth) :
    s.startModule m b = s.setModule m (startedRecord (s.moduleEntry m) b (s.module m)) := rfl

theorem startModule_module (s : State) (m : ModuleId) (b : Berth) (i : ModuleId) :
    (s.startModule m b).module i = if i = m then startedRecord (s.moduleEntry i) b (s.module i) else s.module i := by
  rw [startModule_eq, setModule_module_eq]
  split
  case isTrue h => rw [h]
  case isFalse => rfl

theorem startModule_free {m : ModuleId} (b : Berth) : (s.startModule m b).free = s.free.erase m := by
  ext i
  simp only [State.free, Finset.mem_filter, Finset.mem_univ, true_and, Finset.mem_erase, grantable_iff,
    startModule_module, show ∀ j, (s.startModule m b).moduleEntry j = s.moduleEntry j from fun _ => rfl]
  by_cases h : i = m
  · simp [h, startedRecord]
  · simp [h]

/-- What a run of picks leaves: the modules of a list of distinct FREE ones started, and nothing else changed. -/
structure Picked (s t : State) (b : Berth) (l : List ModuleId) : Prop where
  nodup : l.Nodup
  grantable : ∀ m ∈ l, s.grantable m = true
  module : ∀ m, t.module m = if m ∈ l then startedRecord (s.moduleEntry m) b (s.module m) else s.module m
  rest : ∃ v, t = { s with mpm := { s.mpm with module := v } }

theorem Picked.moduleEntry {t : State} {b : Berth} {l : List ModuleId} (h : Picked s t b l) (m : ModuleId) :
    t.moduleEntry m = s.moduleEntry m := by
  obtain ⟨v, rfl⟩ := h.rest
  rfl

/-- While the FREE count serves it, a run of picks starts as many modules as it should (R64, R65). -/
theorem pickAll_picked {b : Berth} {n : Nat} (h : n ≤ s.freeCount) :
    Picked s (s.pickAll b n).1 b (s.pickAll b n).2 ∧ (s.pickAll b n).2.length = n := by
  induction n generalizing s with
  | zero => exact ⟨⟨List.nodup_nil, fun m hm => (nomatch hm), fun m => rfl, s.mpm.module, rfl⟩, rfl⟩
  | succ n ih =>
    obtain ⟨m, hm⟩ := pick_isSome b (Nat.lt_of_lt_of_le n.succ_pos h)
    obtain ⟨-, hfree, -⟩ := pick_some hm
    have hcount : n ≤ (s.startModule m b).freeCount := by
      rw [freeCount_eq_card] at h ⊢
      rw [startModule_free, Finset.card_erase_of_mem (by simp [State.free, hfree])]
      omega
    obtain ⟨hp, hlen⟩ := ih hcount
    have hall : s.pickAll b (n + 1) = (((s.startModule m b).pickAll b n).1, m :: ((s.startModule m b).pickAll b n).2) := by
      rw [State.pickAll, hm]
    have hsub (i : ModuleId) (hi : (s.startModule m b).grantable i = true) : i ≠ m ∧ s.grantable i = true := by
      have : i ∈ (s.startModule m b).free := by simp [State.free, hi]
      rw [startModule_free] at this
      simpa [State.free] using this
    rw [hall]
    refine ⟨⟨List.nodup_cons.2 ⟨fun hmem => (hsub m (hp.grantable m hmem)).1 rfl, hp.nodup⟩, fun i hi => ?_, fun i => ?_, ?_⟩,
      congrArg (· + 1) hlen⟩
    · rcases List.mem_cons.1 hi with rfl | hi
      · exact hfree
      · exact (hsub i (hp.grantable i hi)).2
    · rw [hp.module, startModule_module]
      have hentry : (s.startModule m b).moduleEntry i = s.moduleEntry i := rfl
      by_cases him : i = m
      · subst him
        simp only [List.mem_cons, true_or, if_true]
        split
        · rfl
        · rfl
      · simp only [him, List.mem_cons, false_or, if_false, hentry]
    · obtain ⟨v, hv⟩ := hp.rest
      exact ⟨v, hv⟩

theorem Picked.holding {t : State} {b : Berth} {l : List ModuleId} (h : Picked s t b l) :
    t.holding b = s.holding b ∪ l.toFinset := by
  ext m
  simp only [mem_holding, Finset.mem_union, List.mem_toFinset, h.module]
  by_cases hm : m ∈ l
  · simp [hm, startedRecord]
  · simp [hm]

/-- The modules picked join those that the berth holds (R63). -/
theorem Picked.held {t : State} {b : Berth} {l : List ModuleId} (h : Picked s t b l) : t.held b = s.held b + l.length := by
  rw [held_eq_card, held_eq_card, h.holding, Finset.card_union_of_disjoint, List.toFinset_card_of_nodup h.nodup]
  refine Finset.disjoint_left.2 fun m hm hl => ?_
  have hfree := (grantable_iff.1 (h.grantable m (List.mem_toFinset.1 hl))).1
  rcases (mem_holding.1 hm).1 with k | k <;> exact absurd (hfree.symm.trans k) (by decide)

/-! ## Modules released (R56) -/

/-- The state in which a STARTING or BOUND module has been taken to STOPPING and its queued operations are gone (R56). -/
def State.stopping (s : State) (m : ModuleId) : State :=
  (s.removeOps m).setModule m { s.module m with state := .stopping, stopPhase := false, stageTimer := 0 }

theorem releaseOne_other (h : isHolding (s.module m) = false) : s.releaseOne m = s := if_neg (by simp [h])

theorem releaseOne_holding (h : isHolding (s.module m) = true) :
    s.releaseOne m = match (s.module m).op with
      | .protectionOpen => s.stopping m
      | .close | .open => (s.stopping m).queueOp m .open
      | .none => if (s.module m).breaker = .open then (s.stopping m).beginStopPhase m else (s.stopping m).queueOp m .open := by
  unfold State.releaseOne
  rw [if_pos h]
  have hr : (s.stopping m).module m = { s.module m with state := .stopping, stopPhase := false, stageTimer := 0 } :=
    setModule_module_self _ _ _
  dsimp only
  rw [show (s.removeOps m).setModule m { (s.removeOps m).module m with state := .stopping, stopPhase := false, stageTimer := 0 }
    = s.stopping m from rfl, hr] <;> rfl

theorem stopping_module (s : State) (m i : ModuleId) :
    (s.stopping m).module i
      = if i = m then { s.module m with state := .stopping, stopPhase := false, stageTimer := 0 } else s.module i :=
  setModule_module_eq _ _ _ _

theorem queueOp_module (s : State) (m i : ModuleId) (op : QueuedOp) : (s.queueOp m op).module i = s.module i := rfl

theorem beginStopPhase_module (s : State) (m i : ModuleId) :
    (s.beginStopPhase m).module i
      = if i = m then
          { s.module m with stopPhase := true, run := .stop, stageTimer := 0, startLimit := 4 * (s.moduleEntry m).startLimit.toNat }
        else s.module i := setModule_module_eq _ _ _ _

/-- A release changes no other module. -/
theorem releaseOne_module_ne (s : State) {m i : ModuleId} (h : i ≠ m) : (s.releaseOne m).module i = s.module i := by
  cases hh : isHolding (s.module m)
  · rw [releaseOne_other hh]
  · rw [releaseOne_holding hh]
    split
    · rw [stopping_module, if_neg h]
    · rw [queueOp_module, stopping_module, if_neg h]
    · rw [queueOp_module, stopping_module, if_neg h]
    · split
      · rw [beginStopPhase_module, if_neg h, stopping_module, if_neg h]
      · rw [queueOp_module, stopping_module, if_neg h]

/-- A module released is STOPPING for its berth, with its operation in force (R56). -/
theorem releaseOne_module_self (h : isHolding (s.module m) = true) :
    ((s.releaseOne m).module m).state = .stopping ∧ ((s.releaseOne m).module m).berth = (s.module m).berth
      ∧ ((s.releaseOne m).module m).stageTimer = 0 ∧ ((s.releaseOne m).module m).op = (s.module m).op := by
  have hs : (s.stopping m).module m = { s.module m with state := .stopping, stopPhase := false, stageTimer := 0 } := by
    rw [stopping_module, if_pos rfl]
  rw [releaseOne_holding h]
  split
  · rw [hs]
    exact ⟨rfl, rfl, rfl, rfl⟩
  · rw [queueOp_module, hs]
    exact ⟨rfl, rfl, rfl, rfl⟩
  · rw [queueOp_module, hs]
    exact ⟨rfl, rfl, rfl, rfl⟩
  · split
    · rw [beginStopPhase_module, if_pos rfl, hs]
      exact ⟨rfl, rfl, rfl, rfl⟩
    · rw [queueOp_module, hs]
      exact ⟨rfl, rfl, rfl, rfl⟩

theorem releaseOne_alloc (s : State) (m : ModuleId) : (s.releaseOne m).mpm.alloc = s.mpm.alloc := by
  cases hh : isHolding (s.module m)
  · rw [releaseOne_other hh]
  · rw [releaseOne_holding hh]
    split
    · rfl
    · rfl
    · rfl
    · split <;> rfl

theorem releaseOne_session (s : State) (m : ModuleId) (b : Berth) : (s.releaseOne m).session b = s.session b := by
  cases hh : isHolding (s.module m)
  · rw [releaseOne_other hh]
  · rw [releaseOne_holding hh]
    split
    · rfl
    · rfl
    · rfl
    · split <;> rfl

/-- The releases of a list of modules. -/
def State.releaseEach (s : State) (l : List ModuleId) : State := l.foldl State.releaseOne s

theorem releaseEach_alloc (s : State) (l : List ModuleId) : (s.releaseEach l).mpm.alloc = s.mpm.alloc :=
  foldl_keeps (fun s => s.mpm.alloc) _ releaseOne_alloc l s

theorem releaseEach_session (s : State) (l : List ModuleId) (b : Berth) : (s.releaseEach l).session b = s.session b :=
  foldl_keeps (fun s => s.session b) _ (fun s m => releaseOne_session s m b) l s

/-- After a list of releases a module holds for its berth exactly when it did and is not in the list. -/
theorem releaseEach_isHolding (s : State) (l : List ModuleId) (m : ModuleId) :
    isHolding ((s.releaseEach l).module m) = (isHolding (s.module m) && !(l.contains m))
      ∧ ((s.releaseEach l).module m).berth = (s.module m).berth := by
  induction l generalizing s with
  | nil => exact ⟨by simp [State.releaseEach], rfl⟩
  | cons i l ih =>
    obtain ⟨h1, h2⟩ := ih (s.releaseOne i)
    have hcons : s.releaseEach (i :: l) = (s.releaseOne i).releaseEach l := rfl
    rw [hcons, h1, h2]
    by_cases him : m = i
    · subst him
      cases hh : isHolding (s.module m)
      · rw [releaseOne_other hh, hh]
        simp
      · obtain ⟨hstate, hberth, -⟩ := releaseOne_module_self hh
        refine ⟨?_, hberth⟩
        simp [isHolding, hstate]
    · rw [releaseOne_module_ne s him]
      simp [him]

theorem releaseModules_eq (s : State) (b : Berth) (l : List ModuleId) :
    s.releaseModules b l
      = if l.any (fun m => isHolding (s.module m)) then (s.releaseEach l).changeOfHoldings b else s.releaseEach l := rfl

theorem releaseModules_mpm (s : State) (b : Berth) (l : List ModuleId) : (s.releaseModules b l).mpm = (s.releaseEach l).mpm := by
  rw [releaseModules_eq]
  split
  · exact changeOfHoldings_mpm _ b
  · rfl

theorem mem_modulesOf {b : Berth} {m : ModuleId} : m ∈ s.modulesOf b ↔ (s.module m).berth = some b := by
  simp [State.modulesOf]

/-- A berth released whole holds nothing (R56). -/
theorem releaseBerth_held (s : State) (b : Berth) : (s.releaseBerth b).held b = 0 := by
  rw [State.releaseBerth, held_of_mpm (releaseModules_mpm s b _), held_eq_zero_iff]
  intro m hm hb
  obtain ⟨h1, h2⟩ := releaseEach_isHolding s (s.modulesOf b) m
  have hmem : m ∈ s.modulesOf b := mem_modulesOf.2 (h2 ▸ hb)
  rw [h1] at hm
  simp [hmem] at hm

end
end Sys2Proof.Machine

/-! PROOFS. The session's part of a change of holdings (06), and the statements about grants, releases and the switching queue put
together (04). -/

namespace Sys2Proof.Machine

open Sys2Proof

section
variable {s t u : State} {b : Berth}

/-! ## Operations of the meter -/

/-- A state that differs in a berth's meter, the record ring and the events only. -/
structure BillingOnly (b : Berth) (s t : State) : Prop where
  rest : ∃ m h, t = { s with mbu := m, mrh := h }
  others : ∀ c, c ≠ b → t.meter c = s.meter c

theorem BillingOnly.refl (b : Berth) (s : State) : BillingOnly b s s := ⟨⟨s.mbu, s.mrh, rfl⟩, fun _ _ => rfl⟩

theorem BillingOnly.trans (h : BillingOnly b s t) (k : BillingOnly b t u) : BillingOnly b s u := by
  obtain ⟨m, n, rfl⟩ := h.rest
  obtain ⟨p, q, rfl⟩ := k.rest
  exact ⟨⟨p, q, rfl⟩, fun c hc => (k.others c hc).trans (h.others c hc)⟩

theorem BillingOnly.setMeter (h : BillingOnly b s t) (r : Meter) : BillingOnly b s (t.setMeter b r) :=
  h.trans ⟨⟨_, _, rfl⟩, fun _ hc => setMeter_meter_ne _ _ _ hc⟩

theorem BillingOnly.ite {c : Prop} [Decidable c] (h : BillingOnly b s t) (k : BillingOnly b s u) :
    BillingOnly b s (if c then t else u) := by
  split
  · exact h
  · exact k

theorem BillingOnly.placeRecord (h : BillingOnly b s t) (r : OpenRecord) (c : StationTime) (w : CloseReason) :
    BillingOnly b s (t.placeRecord b r c w) := h.trans ⟨⟨_, _, rfl⟩, fun _ _ => rfl⟩

theorem BillingOnly.deferClosure (h : BillingOnly b s t) (d : Deferral) : BillingOnly b s (t.deferClosure b d) :=
  h.trans ⟨⟨_, _, rfl⟩, fun _ hc => setMeter_meter_ne _ _ _ hc⟩

theorem BillingOnly.applyBoundary (h : BillingOnly b s t) (a : AcctBoundary) : BillingOnly b s (t.applyBoundary b a) := by
  unfold State.applyBoundary
  dsimp only
  split
  · exact .ite ((h.placeRecord _ _ _).setMeter _) ((h.deferClosure _).setMeter _)
  · exact h.setMeter _
  · exact h

theorem BillingOnly.flushHeld (h : BillingOnly b s t) : BillingOnly b s (t.flushHeld b) := by
  unfold State.flushHeld
  dsimp only
  split
  · exact (h.setMeter _).applyBoundary _
  · exact h.setMeter _

theorem BillingOnly.startMetering (h : BillingOnly b s t) (n : Option Nat) (a : Option (BitVec 32)) (w : Bool) :
    BillingOnly b s (t.startMetering b n a w) := by
  unfold State.startMetering
  dsimp only
  split
  · exact h.flushHeld.setMeter _
  · exact h.flushHeld.setMeter _

theorem BillingOnly.endMetering (h : BillingOnly b s t) (w : CloseReason) : BillingOnly b s (t.endMetering b w) := by
  unfold State.endMetering
  refine .ite ?_ h
  dsimp only
  split
  · exact .ite (((h.setMeter _).placeRecord _ _ _).setMeter _) (((h.setMeter _).deferClosure _).setMeter _)
  · exact (h.setMeter _).setMeter _
  · exact h.setMeter _

theorem BillingOnly.session (h : BillingOnly b s t) (c : Berth) : t.session c = s.session c := by
  obtain ⟨m, n, rfl⟩ := h.rest
  rfl

theorem BillingOnly.breaker (h : BillingOnly b s t) (k : Breaker) : t.breaker k = s.breaker k := by
  obtain ⟨m, n, rfl⟩ := h.rest
  cases k <;> rfl

theorem BillingOnly.sync (h : BillingOnly b s t) (c : Berth) : t.sync c = s.sync c := by
  obtain ⟨m, n, rfl⟩ := h.rest
  rfl

theorem BillingOnly.superv (h : BillingOnly b s t) (c : Berth) : t.superv c = s.superv c := by
  obtain ⟨m, n, rfl⟩ := h.rest
  rfl

theorem BillingOnly.osc (h : BillingOnly b s t) (c : Berth) : t.osc c = s.osc c := by
  obtain ⟨m, n, rfl⟩ := h.rest
  rfl

/-! ## The plug breaker's close presented -/

/-- A close request writes at most the record of its breaker. -/
theorem closeRequest_eq (s : State) (k : Breaker) : ∃ r, (s.closeRequest k).1 = s.setBreaker k r := by
  have hself : s = s.setBreaker k (s.breaker k) := by cases k <;> simp [State.setBreaker, State.breaker]
  unfold State.closeRequest
  dsimp only
  split
  · exact ⟨_, rfl⟩
  all_goals exact ⟨_, hself⟩

@[simp] theorem closeRequest_session (s : State) (k : Breaker) (c : Berth) : (s.closeRequest k).1.session c = s.session c := by
  obtain ⟨r, h⟩ := closeRequest_eq s k
  rw [h, setBreaker_session]

/-- The session's record after a completed close of its plug breaker. -/
theorem pbCloseComplete_session (s : State) (b c : Berth) :
    (s.pbCloseComplete b).session c
      = if c = b ∧ (s.session b).state = .energising then { s.session b with metering := true, phase := .cableLive } else s.session c := by
  unfold State.pbCloseComplete
  split
  case isTrue h =>
    have hm := (BillingOnly.refl b (s.setSession b { s.session b with metering := true, phase := .cableLive })).startMetering
      (s.session b).number (s.session b).account (0 < (s.superv b).attempts)
    simp only [setSync_session]
    by_cases hc : c = b
    · subst hc
      rw [if_pos ⟨rfl, h⟩]
      exact (hm.session c).trans (setSession_session_self _ _ _)
    · rw [if_neg (fun k => hc k.1)]
      exact (hm.session c).trans (setSession_session_ne _ _ _ hc)
  case isFalse h => rw [if_neg (fun k => h k.2)]

/-- A presentation of the plug breaker's close writes four items of its session at most, and no other session. -/
theorem presentPbClose_session (s : State) (b : Berth) :
    (∃ a r m p, (s.presentPbClose b).session b = { s.session b with pbAsked := a, pbRetry := r, metering := m, phase := p })
      ∧ ∀ c, c ≠ b → (s.presentPbClose b).session c = s.session c := by
  have asked (a r : Bool) (c : Berth) : ((s.closeRequest (.pb b)).1.setSession b
      { (s.closeRequest (.pb b)).1.session b with pbAsked := a, pbRetry := r }).session c
      = if c = b then { s.session b with pbAsked := a, pbRetry := r } else s.session c := by
    rw [setSession_session_eq, closeRequest_session, closeRequest_session]
  unfold State.presentPbClose
  dsimp only
  split
  · refine ⟨⟨true, false, (s.session b).metering, (s.session b).phase, ?_⟩, fun c hc => ?_⟩
    · rw [asked, if_pos rfl]
    · rw [asked, if_neg hc]
  · refine ⟨⟨true, false, (s.session b).metering, (s.session b).phase, ?_⟩, fun c hc => ?_⟩
    · rw [asked, if_pos rfl]
    · rw [asked, if_neg hc]
  · refine ⟨?_, fun c hc => ?_⟩
    · rw [pbCloseComplete_session]
      split
      · rw [asked, if_pos rfl]
        exact ⟨true, false, true, .cableLive, rfl⟩
      · rw [asked, if_pos rfl]
        exact ⟨true, false, (s.session b).metering, (s.session b).phase, rfl⟩
    · rw [pbCloseComplete_session, if_neg (fun k => hc k.1), asked, if_neg hc]
  · refine ⟨⟨false, true, (s.session b).metering, (s.session b).phase, ?_⟩, fun c hc => ?_⟩
    · rw [asked, if_pos rfl]
    · rw [asked, if_neg hc]

/-! ## A change of holdings (R60, R96, R104, R115) -/

/-- The session record with its counts and its cap formed afresh. -/
def State.recounted (s : State) (b : Berth) : Session :=
  let sigma := s.boundRating b
  let cap := sigma * (s.berthEntry b).loading.toNat / 100
  { s.session b with
    starting := s.countIn b .starting, bound := s.countIn b .bound, sigma := sigma, cap := cap, share := min (s.session b).share cap }

/-- The part of a change of holdings that comes before the plug breaker's close. -/
def State.recount (s : State) (b : Berth) : State :=
  (s.setSession b { s.session b with starting := s.countIn b .starting, bound := s.countIn b .bound }).formCap b

theorem recount_eq (s : State) (b : Berth) : s.recount b = s.setSession b (s.recounted b) := by
  unfold State.recount State.formCap
  rw [setSession_twice, setSession_session_self]
  rfl

theorem changeOfHoldings_eq (s : State) (b : Berth) :
    s.changeOfHoldings b = State.tryIdle (if (s.recounted b).state = .energising ∧ (s.recount b).holdingsComplete b = true
      ∧ (s.recounted b).pbAsked = false then (s.recount b).presentPbClose b else s.recount b) b := by
  have h : (s.recount b).session b = s.recounted b := by rw [recount_eq, setSession_session_self]
  rw [← h]
  rfl

theorem readyForIdle_state {r : Session} (h : readyForIdle r = true) : r.state = .draining ∨ r.state = .faulted := by
  simp only [readyForIdle, Bool.and_eq_true, Bool.or_eq_true, beq_iff_eq] at h
  tauto

theorem tryIdle_of_not_ready (h : readyForIdle (s.session b) = false) : s.tryIdle b = s := if_neg (by simp [h])

theorem tryIdle_of_ready (h : readyForIdle (s.session b) = true) : s.tryIdle b = s.idleEntry b := if_pos h

/-- A change of holdings of a session that is neither ENERGISING nor ready for IDLE writes the counts and the cap. -/
theorem changeOfHoldings_of_plain (he : (s.session b).state ≠ .energising) (hr : readyForIdle (s.recounted b) = false) :
    s.changeOfHoldings b = s.setSession b (s.recounted b) := by
  rw [changeOfHoldings_eq, if_neg (fun k => he k.1), recount_eq]
  exact tryIdle_of_not_ready (by rwa [setSession_session_self])

/-- A change of holdings of a session ready for IDLE takes it there. -/
theorem changeOfHoldings_of_ready (hr : readyForIdle (s.recounted b) = true) :
    s.changeOfHoldings b = (s.setSession b (s.recounted b)).idleEntry b := by
  have he : (s.recounted b).state ≠ .energising := by
    rcases readyForIdle_state hr with h | h <;> rw [h] <;> decide
  rw [changeOfHoldings_eq, if_neg (fun k => he k.1), recount_eq]
  exact tryIdle_of_ready (by rwa [setSession_session_self])

/-- What a change of holdings leaves of a session ENERGISING: the counts, the cap, and what the plug breaker's close writes. -/
theorem changeOfHoldings_session_energising (he : (s.session b).state = .energising) :
    ∃ a r m p, (s.changeOfHoldings b).session b = { s.recounted b with pbAsked := a, pbRetry := r, metering := m, phase := p } := by
  have hready {x : Session} (h : x.state = .energising) : readyForIdle x = false := by
    cases k : readyForIdle x
    · rfl
    · rcases readyForIdle_state k with k | k <;> exact absurd (h.symm.trans k) (by decide)
  have hself : (s.recount b).session b = s.recounted b := by rw [recount_eq, setSession_session_self]
  rw [changeOfHoldings_eq]
  split
  · obtain ⟨⟨a, r, m, p, h⟩, -⟩ := presentPbClose_session (s.recount b) b
    rw [hself] at h
    rw [tryIdle_of_not_ready (hready (by rw [h]; exact he)), h]
    exact ⟨a, r, m, p, rfl⟩
  · rw [tryIdle_of_not_ready (hready (by rw [hself]; exact he)), hself]
    exact ⟨_, _, _, _, rfl⟩

theorem idleEntry_session_self (s : State) (b : Berth) :
    (s.idleEntry b).session b = idleSession (sessionAtEntry (s.berthEntry b) .idle (s.session b)) := by
  simp [State.idleEntry]

theorem idleEntry_session_ne (s : State) {b c : Berth} (h : c ≠ b) : (s.idleEntry b).session c = s.session c := by
  simp [State.idleEntry, h]

/-- Outside DRAINING and FAULTED a change of holdings keeps the session's state. -/
theorem changeOfHoldings_state (hd : (s.session b).state ≠ .draining) (hf : (s.session b).state ≠ .faulted) :
    ((s.changeOfHoldings b).session b).state = (s.session b).state := by
  by_cases he : (s.session b).state = .energising
  · obtain ⟨a, r, m, p, h⟩ := changeOfHoldings_session_energising he
    rw [h]
    rfl
  · have hr : readyForIdle (s.recounted b) = false := by
      cases k : readyForIdle (s.recounted b)
      · rfl
      · rcases readyForIdle_state k with k | k
        · exact absurd k hd
        · exact absurd k hf
    rw [changeOfHoldings_of_plain he hr, setSession_session_self]
    rfl

/-- The counts that a change of holdings leaves: those of the pool, and 0 in IDLE where the pool's are 0. -/
theorem changeOfHoldings_counts (s : State) (b : Berth) :
    ((s.changeOfHoldings b).session b).starting = s.countIn b .starting
      ∧ ((s.changeOfHoldings b).session b).bound = s.countIn b .bound := by
  by_cases he : (s.session b).state = .energising
  · obtain ⟨a, r, m, p, h⟩ := changeOfHoldings_session_energising he
    rw [h]
    exact ⟨rfl, rfl⟩
  · cases hr : readyForIdle (s.recounted b)
    · rw [changeOfHoldings_of_plain he hr, setSession_session_self]
      exact ⟨rfl, rfl⟩
    · rw [changeOfHoldings_of_ready hr, idleEntry_session_self]
      simp only [readyForIdle, Bool.and_eq_true, beq_iff_eq] at hr
      exact ⟨hr.1.1.symm, hr.1.2.symm⟩

/-- A change of holdings leaves every other session. -/
theorem changeOfHoldings_session_ne (s : State) {b c : Berth} (h : c ≠ b) : (s.changeOfHoldings b).session c = s.session c := by
  have hself : (s.recount b).session c = s.session c := by rw [recount_eq, setSession_session_ne _ _ _ h]
  have htry (t : State) : (t.tryIdle b).session c = t.session c := by
    unfold State.tryIdle
    split
    · exact idleEntry_session_ne t h
    · rfl
  rw [changeOfHoldings_eq, htry]
  split
  · rw [(presentPbClose_session (s.recount b) b).2 c h, hself]
  · exact hself

end
end Sys2Proof.Machine

/-! PROOFS. The statements about the switching queue, grants and releases (04), and the split of the shore share (06). -/

namespace Sys2Proof.Machine

open Sys2Proof

section
variable {s : State} {b : Berth}

/-! ## A grant of the head (R64, R96) -/

/-- The state with the modules of a grant picked and its entry gone. -/
def State.granted (s : State) (e : AllocEntry) : State :=
  { (s.pickAll e.berth e.count).1 with
    mpm := { (s.pickAll e.berth e.count).1.mpm with alloc := (s.pickAll e.berth e.count).1.mpm.alloc.tail } }

theorem grantHead_eq (s : State) (e : AllocEntry) :
    s.grantHead e = ((s.granted e).grantPresented e.berth (s.pickAll e.berth e.count).2).changeOfHoldings e.berth := rfl

theorem Picked.alloc {s t : State} {b : Berth} {l : List ModuleId} (h : Picked s t b l) : t.mpm.alloc = s.mpm.alloc := by
  obtain ⟨v, rfl⟩ := h.rest
  rfl

theorem Picked.session {s t : State} {b : Berth} {l : List ModuleId} (h : Picked s t b l) (c : Berth) : t.session c = s.session c := by
  obtain ⟨v, rfl⟩ := h.rest
  rfl

theorem releaseModules_alloc (s : State) (b : Berth) (l : List ModuleId) : (s.releaseModules b l).mpm.alloc = s.mpm.alloc :=
  (congrArg (·.alloc) (releaseModules_mpm s b l)).trans (releaseEach_alloc s l)

theorem grantPresented_alloc (s : State) (b : Berth) (l : List ModuleId) : (s.grantPresented b l).mpm.alloc = s.mpm.alloc := by
  unfold State.grantPresented
  split
  · exact congrArg (·.alloc) (enterState_mpm s b .energising)
  iterate 3 exact releaseModules_alloc s b l
  · rfl

/-- A head that the FREE count serves leaves the queue. -/
theorem grantHead_alloc {e : AllocEntry} {l : List AllocEntry} (h : s.mpm.alloc = e :: l) (hc : e.count ≤ s.freeCount) :
    (s.grantHead e).mpm.alloc = l := by
  obtain ⟨hp, -⟩ := pickAll_picked (b := e.berth) hc
  rw [grantHead_eq, changeOfHoldings_mpm, grantPresented_alloc]
  change (s.pickAll e.berth e.count).1.mpm.alloc.tail = l
  rw [hp.alloc, h, List.tail_cons]

theorem grantPresented_released (l : List ModuleId)
    (h : (s.session b).state = .draining ∨ (s.session b).state = .faulted ∨ (s.session b).state = .idle) :
    s.grantPresented b l = s.releaseModules b l := by
  unfold State.grantPresented
  rcases h with h | h | h <;> rw [h]

theorem grantPresented_kept (l : List ModuleId) (hd : (s.session b).state ≠ .draining) (hf : (s.session b).state ≠ .faulted)
    (hi : (s.session b).state ≠ .idle) :
    s.grantPresented b l = if (s.session b).state = .reserving then s.enterState b .energising else s := by
  unfold State.grantPresented
  split
  case h_1 h => rw [if_pos h]
  case h_2 h => exact absurd h hd
  case h_3 h => exact absurd h hf
  case h_4 h => exact absurd h hi
  case h_5 h _ _ _ => rw [if_neg h]

/-- A grant to a session that is ending is released again: the berth holds what it held (R96). -/
theorem grantHead_released {e : AllocEntry} (hc : e.count ≤ s.freeCount) (h : (s.session e.berth).state = .draining
    ∨ (s.session e.berth).state = .faulted ∨ (s.session e.berth).state = .idle) :
    (s.grantHead e).held e.berth = s.held e.berth := by
  obtain ⟨hp, -⟩ := pickAll_picked (b := e.berth) hc
  have hsession : (s.granted e).session e.berth = s.session e.berth := hp.session e.berth
  rw [grantHead_eq, held_of_mpm (changeOfHoldings_mpm _ _), grantPresented_released _ (by rwa [hsession]),
    held_of_mpm (releaseModules_mpm _ _ _), held_eq_card, held_eq_card]
  congr 1
  ext m
  obtain ⟨h1, h2⟩ := releaseEach_isHolding (s.granted e) (s.pickAll e.berth e.count).2 m
  have hm : (s.granted e).module m = _ := hp.module m
  simp only [State.holding, Finset.mem_filter, Finset.mem_univ, true_and]
  rw [h1, h2, hm]
  by_cases hl : m ∈ (s.pickAll e.berth e.count).2
  · have hfree := (grantable_iff.1 (hp.grantable m hl)).1
    simp [hl, isHolding, hfree]
  · simp [hl]

/-- What a grant leaves of a session that is served: the modules picked join its holdings, and RESERVING becomes ENERGISING (R54,
R64, R96). -/
theorem grantHead_served {e : AllocEntry} (hc : e.count ≤ s.freeCount) (hd : (s.session e.berth).state ≠ .draining)
    (hf : (s.session e.berth).state ≠ .faulted) (hi : (s.session e.berth).state ≠ .idle) :
    (s.grantHead e).held e.berth = s.held e.berth + e.count
      ∧ ((s.grantHead e).session e.berth).state
        = (if (s.session e.berth).state = .reserving then .energising else (s.session e.berth).state)
      ∧ ∀ m, (s.grantHead e).module m
        = if m ∈ (s.pickAll e.berth e.count).2 then startedRecord (s.moduleEntry m) e.berth (s.module m) else s.module m := by
  obtain ⟨hp, hlen⟩ := pickAll_picked (b := e.berth) hc
  have hsession : (s.granted e).session e.berth = s.session e.berth := hp.session e.berth
  have hpres := grantPresented_kept (s := s.granted e) (b := e.berth) (s.pickAll e.berth e.count).2
  rw [hsession] at hpres
  have hkept := hpres hd hf hi
  have hmpm : ((s.granted e).grantPresented e.berth (s.pickAll e.berth e.count).2).mpm = (s.granted e).mpm := by
    rw [hkept]
    split
    · exact enterState_mpm _ _ _
    · rfl
  have hstate : (((s.granted e).grantPresented e.berth (s.pickAll e.berth e.count).2).session e.berth).state
      = (if (s.session e.berth).state = .reserving then .energising else (s.session e.berth).state) := by
    rw [hkept]
    split
    · rw [enterState_session_self]
      rfl
    · rw [hsession]
  rw [grantHead_eq]
  refine ⟨?_, ?_, fun m => ?_⟩
  · rw [held_of_mpm (changeOfHoldings_mpm _ _), held_of_mpm hmpm, ← hlen, ← hp.held]
    rfl
  · rw [changeOfHoldings_state, hstate]
    · rw [hstate]
      split
      · decide
      · exact hd
    · rw [hstate]
      split
      · decide
      · exact hf
  · rw [changeOfHoldings_module, module_of_mpm hmpm]
    exact hp.module m

/-! ## A grant evaluation (R64) -/

/-- A grant loop takes heads off the queue; with a bound above the queue's length it ends at a head that is not served. -/
theorem grantLoop_alloc (s : State) (n : Nat) : ∃ granted, s.mpm.alloc = granted ++ (s.grantLoop n).mpm.alloc
    ∧ (s.mpm.alloc.length < n → ∀ e l, (s.grantLoop n).mpm.alloc = e :: l → (s.grantLoop n).freeCount < e.count) := by
  induction n generalizing s with
  | zero => exact ⟨[], rfl, fun h => absurd h (Nat.not_lt_zero _)⟩
  | succ n ih =>
    unfold State.grantLoop
    split
    case h_1 e l h =>
      split
      case isTrue hc =>
        have htail := grantHead_alloc h hc
        obtain ⟨granted, hq, hend⟩ := ih (s.grantHead e)
        rw [htail] at hq hend
        refine ⟨e :: granted, ?_, fun hn => hend ?_⟩
        · rw [h, hq]
          rfl
        · rw [h, List.length_cons] at hn
          omega
      case isFalse hc =>
        refine ⟨[], rfl, fun _ e' l' h' => ?_⟩
        rw [h, List.cons.injEq] at h'
        exact h'.1 ▸ not_le.1 hc
    case h_2 h => exact ⟨[], rfl, fun _ e l h' => nomatch h.symm.trans h'⟩

/-! ## The place of an URGENT entry (R63) -/

theorem insertUrgent_append (e : AllocEntry) {u n : List AllocEntry} (hu : ∀ x ∈ u, x.urgency = .urgent)
    (hn : ∀ x ∈ n, x.urgency = .normal) : insertUrgent e (u ++ n) = u ++ [e] ++ n := by
  have hu1 : u.filter (fun x => x.urgency == .urgent) = u := List.filter_eq_self.2 fun x hx => by simp [hu x hx]
  have hu2 : u.filter (fun x => x.urgency == .normal) = [] := List.filter_eq_nil_iff.2 fun x hx => by simp [hu x hx]
  have hn1 : n.filter (fun x => x.urgency == .urgent) = [] := List.filter_eq_nil_iff.2 fun x hx => by simp [hn x hx]
  have hn2 : n.filter (fun x => x.urgency == .normal) = n := List.filter_eq_self.2 fun x hx => by simp [hn x hx]
  rw [insertUrgent, List.filter_append, List.filter_append, hu1, hu2, hn1, hn2, List.append_nil, List.nil_append]

/-- Settles O29: the pick by its group and its order, a grant by the modules picked (`Picked`), an evaluation by its loop, a release by
the operation in force. -/
theorem grantOrder : Obligations.GrantOrder := by
  refine ⟨fun s b m h => ?pick, fun e u n _ hu hn => insertUrgent_append e hu hn, fun s e l hq hc => ?grant, fun s => ?evaluation,
    fun s m h => ?release, fun s m hs hb => releaseOne_other (by simp [isHolding, hs, hb]),
    fun s b => ⟨releaseBerth_held s b, fun hheld => ?whole⟩⟩
  case pick =>
    obtain ⟨hgroup, hfree, hlow⟩ := pick_some h
    obtain ⟨hstate, henabled⟩ := grantable_iff.1 hfree
    refine ⟨hstate, henabled, hlow, fun hlt => ?_, fun hlt => ?_, fun heq => ?_⟩
    · rw [hgroup, State.picksA, if_pos hlt]
    · rw [hgroup, State.picksA, if_neg hlt.asymm, if_pos hlt]
    · rw [hgroup, State.picksA, if_neg (by omega), if_neg (by omega)]
  case grant =>
    refine ⟨grantHead_alloc hq hc, fun h => grantHead_released hc h, fun hd hf hi => ?_⟩
    obtain ⟨hheld, hstate, hmodule⟩ := grantHead_served hc hd hf hi
    obtain ⟨hp, -⟩ := pickAll_picked (b := e.berth) hc
    refine ⟨hheld, hstate, fun m hm => ?_⟩
    by_cases hl : m ∈ (s.pickAll e.berth e.count).2
    · exact ⟨hp.grantable m hl, (hmodule m).trans (if_pos hl)⟩
    · exact absurd ((hmodule m).trans (if_neg hl)) hm
  case evaluation =>
    unfold State.grantEvaluation
    cases hop : s.operating
    · exact ⟨fun _ => rfl, [], rfl, fun h => (nomatch h)⟩
    · obtain ⟨granted, hq, hend⟩ := grantLoop_alloc s (s.mpm.alloc.length + 1)
      exact ⟨fun h => (nomatch h), granted, hq, fun _ => hend (Nat.lt_succ_self _)⟩
  case release =>
    have hh : isHolding (s.module m) = true := isHolding_iff.2 h
    obtain ⟨hstate, hberth, htimer, hop⟩ := releaseOne_module_self hh
    have hself : (s.stopping m).module m = { s.module m with state := .stopping, stopPhase := false, stageTimer := 0 } := by
      rw [stopping_module, if_pos rfl]
    refine ⟨hstate, hberth, htimer, hop, fun i hi => releaseOne_module_ne s hi, fun h => ?_, fun h => ?_, fun h hb => ?_, fun h hb => ?_⟩
    · rw [releaseOne_holding hh, h]
      exact ⟨rfl, by rw [queueOp_module, hself]⟩
    · rw [releaseOne_holding hh, h]
      exact ⟨rfl, by rw [hself]⟩
    · rw [releaseOne_holding hh, h]
      simp only [if_neg hb]
      exact ⟨rfl, by rw [queueOp_module, hself]⟩
    · rw [releaseOne_holding hh, h]
      simp only [if_pos hb]
      rw [beginStopPhase_module, if_pos rfl]
      exact ⟨rfl, rfl, rfl, rfl⟩
  case whole =>
    have hany : (s.modulesOf b).any (fun m => isHolding (s.module m)) = true := by
      obtain ⟨m, hm⟩ := Finset.card_pos.1 (held_eq_card s b ▸ hheld)
      obtain ⟨hs, hb⟩ := mem_holding.1 hm
      exact List.any_eq_true.2 ⟨m, mem_modulesOf.2 hb, isHolding_iff.2 hs⟩
    have hrel : s.releaseBerth b = (s.releaseEach (s.modulesOf b)).changeOfHoldings b := by
      rw [State.releaseBerth, releaseModules_eq, if_pos hany]
    have hzero := releaseBerth_held s b
    rw [hrel, held_of_mpm (changeOfHoldings_mpm _ b), State.held, Nat.add_eq_zero_iff] at hzero
    obtain ⟨h1, h2⟩ := changeOfHoldings_counts (s.releaseEach (s.modulesOf b)) b
    rw [hrel, h1, h2]
    exact hzero

/-! ## The switching queue (R68) -/

/-- The search for the entry to be issued finds one exactly at the first entry that qualifies with none of its module before it. -/
theorem firstIssue_found {seen before after : List SwitchEntry} {e : SwitchEntry} (he : s.mayIssue e = true)
    (hmod : ∀ x ∈ seen ++ before, x.module ≠ e.module)
    (hfirst : ∀ (l r : List SwitchEntry) (x : SwitchEntry), before = l ++ x :: r →
      s.mayIssue x = false ∨ ∃ y ∈ seen ++ l, y.module = x.module) :
    s.firstIssue seen (before ++ e :: after) = some (e, seen ++ before ++ after) := by
  induction before generalizing seen with
  | nil =>
    have hnone : seen.any (fun x => x.module == e.module) = false := by
      simpa using hmod
    simp [State.firstIssue, he, hnone]
  | cons x l ih =>
    have hx : (s.mayIssue x && !seen.any (fun y => y.module == x.module)) = false := by
      rcases hfirst [] l x rfl with h | ⟨y, hy, hyx⟩
      · rw [h, Bool.false_and]
      · rw [List.append_nil] at hy
        rw [List.any_eq_true.2 ⟨y, hy, by simpa using hyx⟩, Bool.not_true, Bool.and_false]
    rw [List.cons_append, State.firstIssue, hx, if_neg (by decide)]
    rw [ih (seen := seen ++ [x]) (by simpa using hmod) fun k r y hk => ?_]
    · simp
    · simpa using hfirst (x :: k) r y (by rw [hk]; rfl)

theorem firstIssue_none {seen l : List SwitchEntry} (h : ∀ e ∈ l, s.mayIssue e = false) : s.firstIssue seen l = none := by
  induction l generalizing seen with
  | nil => rfl
  | cons x l ih =>
    rw [State.firstIssue, h x (List.mem_cons_self ..), Bool.false_and, if_neg (by decide)]
    exact ih fun e he => h e (List.mem_cons_of_mem _ he)

theorem mayIssue_without (s : State) (d : Due) (e : SwitchEntry) : (s.without d).mayIssue e = s.mayIssue e := rfl

theorem exec_switchingIssue (h : DueNow s .switchingIssue) :
    exec .switchingIssue s = .next (s.without .switchingIssue).switchingIssue := by
  calc exec .switchingIssue s = .next (s.eventCommand .switchingIssue) := rfl
    _ = _ := by rw [eventCommand_of_due h]; rfl

/-- An entry issued (R68, R69). -/
def State.issued (s : State) (e : SwitchEntry) (l : List SwitchEntry) : State :=
  (({ s with mpm := { s.mpm with switching := l } } : State).setModule e.module
    { s.module e.module with op := opOf e.op, opAge := 0 }).zeroAges e.module

theorem switchingIssue_found {e : SwitchEntry} {l : List SwitchEntry} (hop : s.operating = true)
    (h : s.firstIssue [] s.mpm.switching = some (e, l)) : s.switchingIssue = s.issued e l := by
  unfold State.switchingIssue
  rw [if_pos hop, h]
  rfl

theorem issued_module (s : State) (e : SwitchEntry) (l : List SwitchEntry) (i : ModuleId) :
    (s.issued e l).module i = if i = e.module then { s.module e.module with op := opOf e.op, opAge := 0 } else s.module i :=
  setModule_module_eq _ _ _ _

/-- Settles O27: the search meets the entry that qualifies first (`firstIssue_found`), and finds none when none qualifies. -/
theorem switchingIssue_issues : Obligations.SwitchingIssue := by
  refine ⟨fun s before after e hdue hop hq he hmod hfirst => ?_, fun s hdue hnone => ?_, fun s e he => ?_⟩
  · have hfound : (s.without .switchingIssue).firstIssue [] s.mpm.switching = some (e, before ++ after) := by
      rw [hq]
      exact firstIssue_found (seen := []) he hmod hfirst
    refine ⟨_, exec_switchingIssue hdue, ?_⟩
    rw [switchingIssue_found (s := s.without .switchingIssue) hop hfound]
    dsimp only
    rw [issued_module, if_pos rfl]
    refine ⟨rfl, rfl, rfl, fun i hi => ?_, rfl, fun hA => ⟨if_pos hA, if_pos hA⟩, fun hA => ⟨if_neg (by simp [hA]), if_neg (by simp [hA])⟩⟩
    rw [issued_module, if_neg hi]
    rfl
  · rw [exec_switchingIssue hdue]
    unfold State.switchingIssue
    have h : (s.without .switchingIssue).firstIssue [] (s.without .switchingIssue).mpm.switching = none := firstIssue_none hnone
    rw [h]
    split <;> rfl
  · simp only [State.mayIssue, Bool.and_eq_true, beq_iff_eq, decide_eq_true_eq] at he
    obtain ⟨⟨hnone, hlong⟩, hshort⟩ := he
    refine ⟨hnone, hshort, hlong.trans_eq ?_⟩
    simp [inGroupA]

/-! ## The split of the shore share (R103) -/

theorem mem_boundModules {m : ModuleId} : m ∈ s.boundModules b ↔ (s.module m).state = .bound ∧ (s.module m).berth = some b := by
  simp [State.boundModules, inStateFor_iff]

/-- A BOUND module's part of the shore share before the remainder (R103). -/
def State.sharePart (s : State) (b : Berth) (m : ModuleId) : Nat :=
  shareFloor (s.session b).share (s.moduleEntry m).rating.toNat (s.session b).sigma

/-- A sum accumulated over a list is the sum of its terms. -/
theorem foldl_add_eq_sum {ι α : Type} [AddMonoid α] (f : ι → α) (l : List ι) (a : α) :
    l.foldl (fun acc i => acc + f i) a = a + (l.map f).sum := by
  induction l generalizing a with
  | nil => exact (add_zero a).symm
  | cons i l ih => rw [List.foldl_cons, ih, List.map_cons, List.sum_cons, add_assoc]

theorem powerSetpoint_of_bound {m : ModuleId} (h : m ∈ s.boundModules b) :
    s.powerSetpoint m
      = if (s.boundModules b).head? = some m then
          (s.sharePart b m : Int) + ((s.session b).share - ((s.boundModules b).map (s.sharePart b)).sum)
        else (s.sharePart b m : Int) := by
  obtain ⟨hs, hb⟩ := mem_boundModules.1 h
  unfold State.powerSetpoint
  dsimp only
  rw [hs, hb]
  dsimp only
  rw [foldl_add_eq_sum, Nat.zero_add]
  rfl

theorem powerSetpoint_of_not_bound {m : ModuleId} (h : (s.module m).state ≠ .bound) : s.powerSetpoint m = 0 := by
  unfold State.powerSetpoint
  dsimp only
  split
  case h_1 hs _ => exact absurd hs h
  case h_2 => rfl

/-- Settles O30: the lowest BOUND module carries what the floors of all leave of the share. -/
theorem shareSplit : Obligations.ShareSplit := by
  refine ⟨fun s b hne => ?_, fun s m h => powerSetpoint_of_not_bound h, fun s m b hm hhead => ?_⟩
  · obtain ⟨m, l, hl⟩ := List.exists_cons_of_ne_nil hne
    have hnodup : (m :: l).Nodup := hl ▸ (List.nodup_finRange 8).filter _
    have hfirst : s.powerSetpoint m = (s.sharePart b m : Int)
        + ((s.session b).share - ((s.boundModules b).map (s.sharePart b)).sum) := by
      rw [powerSetpoint_of_bound (b := b) (by simp [hl]), if_pos (by simp [hl])]
    have hrest : l.map s.powerSetpoint = l.map fun i => (s.sharePart b i : Int) := by
      refine List.map_congr_left fun i hi => ?_
      have hne : m ≠ i := fun h => (List.nodup_cons.1 hnodup).1 (h ▸ hi)
      rw [powerSetpoint_of_bound (b := b) (by simp [hl, hi]), if_neg (by simp [hl, hne])]
    have hsum : (((s.boundModules b).map (s.sharePart b)).sum : Int)
        = s.sharePart b m + (l.map fun i => (s.sharePart b i : Int)).sum := by
      rw [hl, List.map_cons, List.sum_cons, Nat.cast_add, Nat.cast_list_sum, List.map_map]
      rfl
    rw [hl, List.map_cons, List.sum_cons, hfirst, hrest, hsum]
    omega
  · rw [powerSetpoint_of_bound hm, if_neg hhead]
    rfl

end
end Sys2Proof.Machine

/-! PROOFS. The entry images (12): the fields of a list of bytes as its consecutive parts, and the ranges of the fields (10). -/

namespace Sys2Proof.Machine

open Sys2Proof

/-! ## Numbers and their bytes -/

theorem bytesOf_two_natOf {l : List Byte} (h : l.length = 2) : bytesOf 2 (BitVec.ofNat 16 (natOf l)).toNat = l := by
  obtain ⟨a, b, rfl⟩ := List.length_eq_two.1 h
  have ha := a.isLt
  have hb := b.isLt
  simp only [bytesOf, natOf, List.foldl_cons, List.foldl_nil, BitVec.toNat_ofNat, List.cons.injEq, and_true]
  constructor <;> apply BitVec.eq_of_toNat_eq <;> rw [BitVec.toNat_ofNat] <;> omega

theorem bytesOf_three_natOf {l : List Byte} (h : l.length = 3) : bytesOf 3 (BitVec.ofNat 24 (natOf l)).toNat = l := by
  obtain ⟨a, b, c, rfl⟩ := List.length_eq_three.1 h
  have ha := a.isLt
  have hb := b.isLt
  have hc := c.isLt
  simp only [bytesOf, natOf, List.foldl_cons, List.foldl_nil, BitVec.toNat_ofNat, List.cons.injEq, and_true]
  refine ⟨?_, ?_, ?_⟩ <;> apply BitVec.eq_of_toNat_eq <;> rw [BitVec.toNat_ofNat] <;> omega

theorem natOf_bytesOf_two (x : BitVec 16) : BitVec.ofNat 16 (natOf (bytesOf 2 x.toNat)) = x := by
  have hx := x.isLt
  apply BitVec.eq_of_toNat_eq
  simp only [bytesOf, natOf, List.foldl_cons, List.foldl_nil, BitVec.toNat_ofNat]
  omega

theorem natOf_bytesOf_three (x : BitVec 24) : BitVec.ofNat 24 (natOf (bytesOf 3 x.toNat)) = x := by
  have hx := x.isLt
  apply BitVec.eq_of_toNat_eq
  simp only [bytesOf, natOf, List.foldl_cons, List.foldl_nil, BitVec.toNat_ofNat]
  omega

/-! ## Consecutive fields -/

section
variable {l : List Byte}

theorem field_length {i w : Nat} (h : i + w ≤ l.length) : (field l i w).length = w := by
  rw [field, List.length_take, List.length_drop]
  omega

/-- Two consecutive fields are one. -/
theorem field_append (l : List Byte) (i v w : Nat) : field l i v ++ field l (i + v) w = field l i (v + w) := by
  rw [field, field, field, ← List.drop_drop, List.take_add]

theorem field_all (l : List Byte) : field l 0 l.length = l := by
  rw [field, List.drop_zero, List.take_length]

theorem field_one {i : Nat} (h : i + 1 ≤ l.length) : [byteAt l i] = field l i 1 := by
  rw [field, byteAt, List.getElem?_eq_getElem h, Option.getD_some, List.drop_eq_getElem_cons h, List.take_succ_cons, List.take_zero]

theorem field_two {i : Nat} (h : i + 2 ≤ l.length) : [byteAt l i, byteAt l (i + 1)] = field l i 2 := by
  rw [← field_append l i 1 1, ← field_one (by omega), ← field_one (by omega)]
  rfl

theorem field_three {i : Nat} (h : i + 3 ≤ l.length) : [byteAt l i, byteAt l (i + 1), byteAt l (i + 2)] = field l i 3 := by
  rw [← field_append l i 2 1, ← field_two (by omega), ← field_one (by omega)]
  rfl

theorem bytesOf_field_two {i : Nat} (h : i + 2 ≤ l.length) : bytesOf 2 (BitVec.ofNat 16 (natOf (field l i 2))).toNat = field l i 2 :=
  bytesOf_two_natOf (field_length h)

theorem bytesOf_field_three {i : Nat} (h : i + 3 ≤ l.length) :
    bytesOf 3 (BitVec.ofNat 24 (natOf (field l i 3))).toNat = field l i 3 := bytesOf_three_natOf (field_length h)

/-! ## Images written and read back (R169, R170, R194) -/

theorem field_join (l : List Byte) {i j v w : Nat} (h : j = i + v) : field l i v ++ field l j w = field l i (v + w) :=
  h ▸ field_append l i v w

theorem field_whole {n : Nat} (h : l.length = n) : field l 0 n = l := h ▸ field_all l

theorem stationImage_ofImage (h : l.length = 14) : stationImage (stationOfImage l) = l := by
  simp (disch := omega) only [stationImage, stationOfImage, bytesOf_field_two, bytesOf_field_three, field_one, field_join, Nat.reduceAdd]
  exact field_whole h

theorem nodeImage_ofImage (h : l.length = 8) : nodeImage (nodeOfImage l) = l := by
  have h0 : [byteAt l 0, byteAt l 1] = field l 0 2 := field_two (by omega)
  have h6 : [byteAt l 6, byteAt l 7] = field l 6 2 := field_two (by omega)
  simp (disch := omega) only [nodeImage, nodeOfImage, bytesOf_field_two, h0, h6, field_join, Nat.reduceAdd]
  exact field_whole h

theorem berthImage_ofImage (h : l.length = 45) : berthImage (berthOfImage l) = l := by
  have h0 : [byteAt l 0, byteAt l 1, byteAt l 2] = field l 0 3 := field_three (by omega)
  unfold berthImage
  dsimp only [berthOfImage]
  simp (disch := omega) only [bytesOf_field_two, bytesOf_field_three]
  rw [h0]
  simp (disch := omega) only [field_one]
  simp (disch := omega) only [field_join, Nat.reduceAdd]
  exact field_whole h

theorem moduleImage_ofImage (h : l.length = 5) : moduleImage (moduleOfImage l) = l := by
  simp (disch := omega) only [moduleImage, moduleOfImage, bytesOf_field_two, field_one, field_join, Nat.reduceAdd]
  exact field_whole h

theorem breakerImage_ofImage (h : l.length = 11) : breakerImage (breakerOfImage l) = l := by
  simp (disch := omega) only [breakerImage, breakerOfImage, bytesOf_field_two, bytesOf_field_three, field_join, Nat.reduceAdd]
  exact field_whole h

theorem stationOfImage_image (e : StationEntry) : stationOfImage (stationImage e) = e := by
  calc stationOfImage (stationImage e)
      = { importLimit := BitVec.ofNat 24 (natOf (bytesOf 3 e.importLimit.toNat)), tLong := BitVec.ofNat 16 (natOf (bytesOf 2 e.tLong.toNat)),
          tShort := BitVec.ofNat 16 (natOf (bytesOf 2 e.tShort.toNat)), cooldown := BitVec.ofNat 24 (natOf (bytesOf 3 e.cooldown.toNat)),
          restartDelay := BitVec.ofNat 24 (natOf (bytesOf 3 e.restartDelay.toNat)), controller := e.controller } := rfl
    _ = e := by simp only [natOf_bytesOf_two, natOf_bytesOf_three]

theorem nodeOfImage_image (e : NodeEntry) : nodeOfImage (nodeImage e) = e := by
  calc nodeOfImage (nodeImage e)
      = { e with vfs := BitVec.ofNat 16 (natOf (bytesOf 2 e.vfs.toNat)), ifs := BitVec.ofNat 16 (natOf (bytesOf 2 e.ifs.toNat)) } := rfl
    _ = e := by simp only [natOf_bytesOf_two]

theorem berthOfImage_image (e : BerthEntry) : berthOfImage (berthImage e) = e := by
  calc berthOfImage (berthImage e)
      = { e with
          rampRate := BitVec.ofNat 16 (natOf (bytesOf 2 e.rampRate.toNat)), residual := BitVec.ofNat 16 (natOf (bytesOf 2 e.residual.toNat)),
          slipTarget := BitVec.ofNat 16 (natOf (bytesOf 2 e.slipTarget.toNat)),
          closeWindow := BitVec.ofNat 16 (natOf (bytesOf 2 e.closeWindow.toNat)),
          slipMax := BitVec.ofNat 16 (natOf (bytesOf 2 e.slipMax.toNat)),
          reserveLimit := BitVec.ofNat 24 (natOf (bytesOf 3 e.reserveLimit.toNat)),
          energiseLimit := BitVec.ofNat 24 (natOf (bytesOf 3 e.energiseLimit.toNat)),
          syncLimit := BitVec.ofNat 24 (natOf (bytesOf 3 e.syncLimit.toNat)),
          rampLimit := BitVec.ofNat 24 (natOf (bytesOf 3 e.rampLimit.toNat)),
          recallLimit := BitVec.ofNat 24 (natOf (bytesOf 3 e.recallLimit.toNat)),
          partingLimit := BitVec.ofNat 16 (natOf (bytesOf 2 e.partingLimit.toNat)),
          settle := BitVec.ofNat 16 (natOf (bytesOf 2 e.settle.toNat)), iTrip := BitVec.ofNat 16 (natOf (bytesOf 2 e.iTrip.toNat)),
          blank := BitVec.ofNat 16 (natOf (bytesOf 2 e.blank.toNat)), vLow := BitVec.ofNat 16 (natOf (bytesOf 2 e.vLow.toNat)),
          vHigh := BitVec.ofNat 16 (natOf (bytesOf 2 e.vHigh.toNat)), reverse := BitVec.ofNat 16 (natOf (bytesOf 2 e.reverse.toNat)) } := by
        unfold berthImage
        simp only [bytesOf, List.cons_append, List.nil_append]
        rfl
    _ = e := by simp only [natOf_bytesOf_two, natOf_bytesOf_three]

theorem moduleOfImage_image (e : ModuleEntry) : moduleOfImage (moduleImage e) = e := by
  calc moduleOfImage (moduleImage e)
      = { e with rating := BitVec.ofNat 16 (natOf (bytesOf 2 e.rating.toNat)),
                 startLimit := BitVec.ofNat 16 (natOf (bytesOf 2 e.startLimit.toNat)) } := rfl
    _ = e := by simp only [natOf_bytesOf_two]

theorem breakerOfImage_image (e : BreakerEntry) : breakerOfImage (breakerImage e) = e := by
  calc breakerOfImage (breakerImage e)
      = { configured := BitVec.ofNat 24 (natOf (bytesOf 3 e.configured.toNat)), minimum := BitVec.ofNat 24 (natOf (bytesOf 3 e.minimum.toNat)),
          maximum := BitVec.ofNat 24 (natOf (bytesOf 3 e.maximum.toNat)), limit := BitVec.ofNat 16 (natOf (bytesOf 2 e.limit.toNat)) } := rfl
    _ = e := by simp only [natOf_bytesOf_two, natOf_bytesOf_three]

/-! ## The entries of the tables -/

/-- The size of an entry's image. -/
def entrySize (e : EntryRef) : Nat :=
  match e with
  | .station => 14 | .node _ => 8 | .berth _ => 45 | .module _ => 5 | .breaker _ => 11 | .reaction _ => 1

/-- The image size of a table is the size of each of its entries. -/
theorem imageSize_of_named {table entry : Byte} {e : EntryRef} (h : entryNamed table entry = some e) :
    imageSize table = some (entrySize e) := by
  unfold entryNamed at h
  split at h
  case isTrue ht =>
    subst ht
    split at h
    · cases h
      rfl
    · cases h
  split at h
  case isTrue ht =>
    subst ht
    obtain ⟨n, -, rfl⟩ := Option.map_eq_some_iff.1 h
    rfl
  split at h
  case isTrue ht =>
    subst ht
    obtain ⟨n, -, rfl⟩ := Option.map_eq_some_iff.1 h
    rfl
  split at h
  case isTrue ht =>
    subst ht
    obtain ⟨n, -, rfl⟩ := Option.map_eq_some_iff.1 h
    rfl
  split at h
  case isTrue ht =>
    subst ht
    obtain ⟨n, -, rfl⟩ := Option.map_eq_some_iff.1 h
    rfl
  split at h
  case isTrue ht =>
    subst ht
    split at h
    · cases h
      rfl
    · cases h
  case isFalse => cases h

/-- An entry set to an image of its size holds that image. -/
theorem entryImage_set (t : Tables) {e : EntryRef} (h : l.length = entrySize e) : entryImage (setEntryImage t e l) e = l := by
  cases e with
  | station => exact stationImage_ofImage h
  | node n => exact (congrArg nodeImage (vget_vset_self _ _ _)).trans (nodeImage_ofImage h)
  | berth b => exact (congrArg berthImage (vget_vset_self _ _ _)).trans (berthImage_ofImage h)
  | module m => exact (congrArg moduleImage (vget_vset_self _ _ _)).trans (moduleImage_ofImage h)
  | breaker k =>
    cases k with
    | pb b => exact (congrArg breakerImage (vget_vset_self _ _ _)).trans (breakerImage_ofImage h)
    | sb b => exact (congrArg breakerImage (vget_vset_self _ _ _)).trans (breakerImage_ofImage h)
  | reaction i =>
    have h1 : l.length = 1 := h
    refine (congrArg (fun x => [x]) (vget_vset_self _ _ _)).trans ((field_one (by omega)).trans (field_whole h1))

/-- An entry set to its own image is unchanged. -/
theorem setEntryImage_self (t : Tables) (e : EntryRef) : setEntryImage t e (entryImage t e) = t := by
  cases e with
  | station => simp only [setEntryImage, entryImage, stationOfImage_image]
  | node n => simp only [setEntryImage, entryImage, nodeOfImage_image, vset_vget]
  | berth b => simp only [setEntryImage, entryImage, berthOfImage_image, vset_vget]
  | module m => simp only [setEntryImage, entryImage, moduleOfImage_image, vset_vget]
  | breaker k => cases k <;> simp only [setEntryImage, entryImage, breakerOfImage_image, vset_vget]
  | reaction i =>
    have h : byteAt [vget t.reaction i] 0 = vget t.reaction i := rfl
    simp only [setEntryImage, entryImage, h, vset_vget]

/-- Setting an entry leaves the image of every other. -/
theorem entryImage_set_ne (t : Tables) {e i : EntryRef} (h : i ≠ e) : entryImage (setEntryImage t e l) i = entryImage t i := by
  have hne {n : Nat} {a c : Fin n} {f : Fin n → EntryRef} (k : f a ≠ f c) : a ≠ c := fun j => k (congrArg f j)
  cases e with
  | station =>
    cases i with
    | station => exact absurd rfl h
    | breaker k => cases k <;> rfl
    | _ => rfl
  | node n =>
    cases i with
    | node m => exact congrArg nodeImage (vget_vset_ne _ _ (hne h))
    | breaker k => cases k <;> rfl
    | _ => rfl
  | berth b =>
    cases i with
    | berth c => exact congrArg berthImage (vget_vset_ne _ _ (hne h))
    | breaker k => cases k <;> rfl
    | _ => rfl
  | module m =>
    cases i with
    | module n => exact congrArg moduleImage (vget_vset_ne _ _ (hne h))
    | breaker k => cases k <;> rfl
    | _ => rfl
  | breaker k =>
    cases k with
    | pb b =>
      cases i with
      | breaker j =>
        cases j with
        | pb c => exact congrArg breakerImage (vget_vset_ne _ _ (hne (f := fun x => .breaker (.pb x)) h))
        | sb c => rfl
      | _ => rfl
    | sb b =>
      cases i with
      | breaker j =>
        cases j with
        | pb c => rfl
        | sb c => exact congrArg breakerImage (vget_vset_ne _ _ (hne (f := fun x => .breaker (.sb x)) h))
      | _ => rfl
  | reaction x =>
    cases i with
    | reaction y => exact congrArg (fun z => [z]) (vget_vset_ne _ _ (hne h))
    | breaker k => cases k <;> rfl
    | _ => rfl

/-! ## The ranges (10) -/

theorem within_iff {lo hi n : Nat} : within lo hi n = true ↔ lo ≤ n ∧ n ≤ hi := by simp [within]

theorem nonzero_iff {w : Nat} {x : BitVec w} : x ≠ 0 ↔ 1 ≤ x.toNat := by
  rw [Nat.one_le_iff_ne_zero, ne_eq, ne_eq, BitVec.toNat_eq]
  simp

/-- The role codes with the targets that fit them, and the other fields of a Node entry in their ranges. -/
theorem nodeInRange_iff (e : NodeEntry) :
    nodeInRange e = true
      ↔ (e.role.toNat ≤ 6 ∧ ((e.role = 0 ∨ e.role = 1 ∨ e.role = 3) → e.target = 0)
          ∧ ((e.role = 2 ∨ e.role = 5 ∨ e.role = 6) → e.target.toNat ≤ 3) ∧ (e.role = 4 → e.target.toNat ≤ 7))
        ∧ (e.vfs ≠ 0 ∧ e.ifs ≠ 0 ∧ e.mirrored.toNat ≤ 1 ∧ 2 ≤ e.limit.toNat ∧ e.limit.toNat ≤ 30 ∧ e.limit.toNat % 2 = 0) := by
  have hzero : e.target = 0#8 ↔ e.target.toNat = 0 := BitVec.toNat_eq
  have hvfs : e.vfs.toNat ≤ 65535 := Nat.le_of_lt_succ e.vfs.isLt
  have hifs : e.ifs.toNat ≤ 65535 := Nat.le_of_lt_succ e.ifs.isLt
  simp only [nodeInRange, Bool.and_eq_true, within_iff, beq_iff_eq, nonzero_iff, hvfs, hifs, and_true, Nat.zero_le, true_and, and_assoc]
  refine Iff.trans (and_congr_left' ?_) and_assoc |>.trans (by rw [and_assoc, and_assoc])
  by_cases h : e.role.toNat ≤ 6
  · have hcases : e.role = 0 ∨ e.role = 1 ∨ e.role = 2 ∨ e.role = 3 ∨ e.role = 4 ∨ e.role = 5 ∨ e.role = 6 := by
      simp only [BitVec.toNat_eq, BitVec.ofNat_eq_ofNat, BitVec.toNat_ofNat]
      omega
    rcases hcases with k | k | k | k | k | k | k <;> rw [k] <;> simp [roleOf, targetFits, hzero]
  · have hnone : roleOf e.role = none := by
      unfold roleOf
      simp only [BitVec.toNat_eq, BitVec.ofNat_eq_ofNat, BitVec.toNat_ofNat]
      repeat rw [if_neg (by omega)]
    simp [hnone, h]

end

/-- Settles O52: consecutive fields make up the image (`field_join`), each read back from its bytes; the ranges field by field. -/
theorem entryImages : Obligations.EntryImages := by
  refine ⟨fun t table entry e l hn hs => entryImage_set t ?_, setEntryImage_self, fun t e i l h => entryImage_set_ne t h, fun t => ?_⟩
  · rw [imageSize_of_named hn, Option.some.injEq] at hs
    exact hs.symm
  · refine ⟨?_, fun n => ?_, fun b => ?_, fun m => ?_, fun b => ⟨?_, ?_⟩, fun i => ?_⟩
    · simp only [entryInRange, stationInRange, Bool.and_eq_true, within_iff]
      omega
    · exact nodeInRange_iff _
    · have h2 (x : BitVec 16) : x.toNat ≤ 65535 := Nat.le_of_lt_succ x.isLt
      simp only [entryInRange, berthInRange, Bool.and_eq_true, within_iff, nonzero_iff, h2, and_true, Nat.zero_le, true_and, and_assoc]
    · simp only [entryInRange, moduleInRange, Bool.and_eq_true, within_iff, Nat.zero_le, true_and, and_assoc]
    · simp only [entryInRange, breakerInRange, Bool.and_eq_true, within_iff, decide_eq_true_eq, Nat.zero_le, true_and, and_assoc]
    · simp only [entryInRange, breakerInRange, Bool.and_eq_true, within_iff, decide_eq_true_eq, Nat.zero_le, true_and, and_assoc]
    · simp only [entryInRange, decide_eq_true_eq]

end Sys2Proof.Machine

/-! PROOFS. What a presentation to some berths leaves of the others: the records of every berth outside them, the crossing history of
each sync record (05), and the events already latched (11). -/

namespace Sys2Proof.Machine

open Sys2Proof

/-- Two states agree in every record of a berth. -/
structure SameBerth (c : Berth) (s t : State) : Prop where
  session : t.session c = s.session c
  osc : t.osc c = s.osc c
  sync : t.sync c = s.sync c
  superv : t.superv c = s.superv c
  meter : t.meter c = s.meter c
  pb : t.breaker (.pb c) = s.breaker (.pb c)
  sb : t.breaker (.sb c) = s.breaker (.sb c)

/-- A change that reaches the records of the berths in `B` only, keeps the crossing histories and the headroom, and clears no event. -/
structure Touches (B : Berth → Prop) (s t : State) : Prop where
  frame : ∀ c, ¬ B c → SameBerth c s t
  history : ∀ c, (t.sync c).pNew = (s.sync c).pNew ∧ (t.sync c).pOld = (s.sync c).pOld
  latched : ∀ c n, s.isLatched c n = true → t.isLatched c n = true
  headroom : ∃ v, t.ses = { s.ses with berth := v }

section
variable {B : Berth → Prop} {s t u : State} {b : Berth}

theorem SameBerth.refl (c : Berth) (s : State) : SameBerth c s s := ⟨rfl, rfl, rfl, rfl, rfl, rfl, rfl⟩

theorem SameBerth.trans {c : Berth} (h : SameBerth c s t) (k : SameBerth c t u) : SameBerth c s u :=
  ⟨k.session.trans h.session, k.osc.trans h.osc, k.sync.trans h.sync, k.superv.trans h.superv, k.meter.trans h.meter,
    k.pb.trans h.pb, k.sb.trans h.sb⟩

theorem Touches.refl (B : Berth → Prop) (s : State) : Touches B s s := ⟨fun c _ => .refl c s, fun _ => ⟨rfl, rfl⟩, fun _ _ h => h, s.ses.berth, rfl⟩

theorem Touches.trans (h : Touches B s t) (k : Touches B t u) : Touches B s u := by
  obtain ⟨v, hv⟩ := h.headroom
  obtain ⟨w, hw⟩ := k.headroom
  exact ⟨fun c hc => (h.frame c hc).trans (k.frame c hc),
    fun c => ⟨(k.history c).1.trans (h.history c).1, (k.history c).2.trans (h.history c).2⟩,
    fun c n hn => k.latched c n (h.latched c n hn), w, by rw [hw, hv]⟩

theorem Touches.ite {p : Prop} [Decidable p] (h : Touches B s t) (k : Touches B s u) : Touches B s (if p then t else u) := by
  split
  · exact h
  · exact k

theorem Touches.foldl {ι : Type} {f : State → ι → State} (hf : ∀ t i, Touches B t (f t i)) (l : List ι) (h : Touches B s t) :
    Touches B s (l.foldl f t) := by
  induction l generalizing t with
  | nil => exact h
  | cons i l ih => exact ih (h.trans (hf t i))

/-! ## The single records -/

theorem touches_setSession (hb : B b) (s : State) (r : Session) : Touches B s (s.setSession b r) :=
  ⟨fun _ hc => ⟨setSession_session_ne _ _ _ (fun h => hc (h ▸ hb)), rfl, rfl, rfl, rfl, rfl, rfl⟩, fun _ => ⟨rfl, rfl⟩, fun _ _ h => h, _, rfl⟩

theorem touches_setOsc (hb : B b) (s : State) (r : Osc) : Touches B s (s.setOsc b r) :=
  ⟨fun _ hc => ⟨rfl, setOsc_osc_ne _ _ _ (fun h => hc (h ▸ hb)), rfl, rfl, rfl, rfl, rfl⟩, fun _ => ⟨rfl, rfl⟩, fun _ _ h => h, _, rfl⟩

theorem touches_setSuperv (hb : B b) (s : State) (r : Supervision) : Touches B s (s.setSuperv b r) :=
  ⟨fun _ hc => ⟨rfl, rfl, rfl, setSuperv_superv_ne _ _ _ (fun h => hc (h ▸ hb)), rfl, rfl, rfl⟩, fun _ => ⟨rfl, rfl⟩, fun _ _ h => h, _, rfl⟩

theorem touches_setSync (hb : B b) (s : State) (y : SyncRecord) (h1 : y.pNew = (s.sync b).pNew) (h2 : y.pOld = (s.sync b).pOld) :
    Touches B s (s.setSync b y) := by
  refine ⟨fun c hc => ⟨rfl, rfl, setSync_sync_ne _ _ _ (fun h => hc (h ▸ hb)), rfl, rfl, rfl, rfl⟩, fun c => ?_, fun _ _ h => h, _, rfl⟩
  by_cases hc : c = b
  · subst hc
    rw [setSync_sync_self]
    exact ⟨h1, h2⟩
  · rw [setSync_sync_ne _ _ _ hc]
    exact ⟨rfl, rfl⟩

theorem touches_setBreaker {k : Breaker} (hk : B (breakerBerth k)) (s : State) (r : BreakerRecord) : Touches B s (s.setBreaker k r) := by
  have hlatch (c : Scope) (n : Nat) (h : s.isLatched c n = true) : (s.setBreaker k r).isLatched c n = true := by
    unfold State.isLatched
    rw [setBreaker_mrh]
    exact h
  refine ⟨fun c hc => ⟨setBreaker_session .., setBreaker_osc .., setBreaker_sync .., setBreaker_superv .., setBreaker_meter .., ?_, ?_⟩,
    fun c => ?_, hlatch, s.ses.berth, by rw [setBreaker_ses]⟩
  · exact setBreaker_breaker_ne _ _ _ (fun h => hc (by rw [← h] at hk; exact hk))
  · exact setBreaker_breaker_ne _ _ _ (fun h => hc (by rw [← h] at hk; exact hk))
  · rw [setBreaker_sync]
    exact ⟨rfl, rfl⟩

theorem touches_mpm (B : Berth → Prop) (s : State) (m : Mpm) : Touches B s { s with mpm := m } :=
  ⟨fun _ _ => ⟨rfl, rfl, rfl, rfl, rfl, rfl, rfl⟩, fun _ => ⟨rfl, rfl⟩, fun _ _ h => h, _, rfl⟩

/-! ## Latching (R186) -/

theorem berthFlagNumber_lt (f : BerthFlag) : berthFlagNumber f < 16 := by cases f <;> decide

theorem stationFlagNumber_lt (f : StationFlag) : stationFlagNumber f < 16 := by cases f <;> decide

theorem latchBerth_isLatched (s : State) (b : Berth) (f : BerthFlag) (c : Scope) (n : Nat) :
    (s.latchBerth b f).isLatched c n = (s.isLatched c n || (decide (c = .berth b) && decide (n = berthFlagNumber f))) :=
  latchNumber_latched s.mrh (.berth b) c _ n (berthFlagNumber_lt f)

theorem latchStation_isLatched (s : State) (f : StationFlag) (c : Scope) (n : Nat) :
    (s.latchStation f).isLatched c n = (s.isLatched c n || (decide (c = .station) && decide (n = stationFlagNumber f))) :=
  latchNumber_latched s.mrh .station c _ n (stationFlagNumber_lt f)

theorem latchBerth_isLatched_self (s : State) (b : Berth) (f : BerthFlag) :
    (s.latchBerth b f).isLatched (.berth b) (berthFlagNumber f) = true := by
  simp [latchBerth_isLatched]

theorem latchStation_isLatched_self (s : State) (f : StationFlag) :
    (s.latchStation f).isLatched .station (stationFlagNumber f) = true := by
  simp [latchStation_isLatched]

theorem touches_latchBerth (B : Berth → Prop) (s : State) (b : Berth) (f : BerthFlag) : Touches B s (s.latchBerth b f) :=
  ⟨fun _ _ => ⟨rfl, rfl, rfl, rfl, rfl, rfl, rfl⟩, fun _ => ⟨rfl, rfl⟩, fun c n h => by rw [latchBerth_isLatched, h, Bool.true_or], _, rfl⟩

theorem touches_latchStation (B : Berth → Prop) (s : State) (f : StationFlag) : Touches B s (s.latchStation f) :=
  ⟨fun _ _ => ⟨rfl, rfl, rfl, rfl, rfl, rfl, rfl⟩, fun _ => ⟨rfl, rfl⟩, fun c n h => by rw [latchStation_isLatched, h, Bool.true_or], _, rfl⟩

theorem Touches.latchStation (h : Touches B s t) (f : StationFlag) : Touches B s (t.latchStation f) :=
  h.trans (touches_latchStation B t f)

/-! ## The meter -/

theorem touches_setMeter (hb : B b) (s : State) (r : Meter) : Touches B s (s.setMeter b r) :=
  ⟨fun _ hc => ⟨rfl, rfl, rfl, rfl, setMeter_meter_ne _ _ _ (fun h => hc (h ▸ hb)), rfl, rfl⟩, fun _ => ⟨rfl, rfl⟩, fun _ _ h => h, _, rfl⟩

theorem touches_ring (B : Berth → Prop) (s : State) (l : List ClosedRecord) (q : List Berth) (n : Nat) :
    Touches B s { s with mbu := { s.mbu with ring := l, queue := q, nextRecord := n } } :=
  ⟨fun _ _ => ⟨rfl, rfl, rfl, rfl, rfl, rfl, rfl⟩, fun _ => ⟨rfl, rfl⟩, fun _ _ h => h, _, rfl⟩

theorem touches_placeRecord (B : Berth → Prop) (s : State) (b : Berth) (r : OpenRecord) (c : StationTime) (w : CloseReason) :
    Touches B s (s.placeRecord b r c w) := by
  unfold State.placeRecord
  dsimp only
  exact .latchStation (touches_ring B s _ _ _) _

theorem touches_deferClosure (hb : B b) (s : State) (d : Deferral) : Touches B s (s.deferClosure b d) := by
  unfold State.deferClosure
  dsimp only
  exact .latchStation (.trans (touches_setMeter hb s _) (touches_ring B _ _ _ _)) _

theorem touches_applyBoundary (hb : B b) (s : State) (a : AcctBoundary) : Touches B s (s.applyBoundary b a) := by
  unfold State.applyBoundary
  dsimp only
  split
  · exact .ite ((touches_placeRecord B s b _ _ _).trans (touches_setMeter hb _ _))
      ((touches_deferClosure hb s _).trans (touches_setMeter hb _ _))
  · exact touches_setMeter hb s _
  · exact .refl B s

theorem touches_flushHeld (hb : B b) (s : State) : Touches B s (s.flushHeld b) := by
  unfold State.flushHeld
  dsimp only
  split
  · exact (touches_setMeter hb s _).trans (touches_applyBoundary hb _ _)
  · exact touches_setMeter hb s _

theorem touches_startMetering (hb : B b) (s : State) (n : Option Nat) (a : Option (BitVec 32)) (w : Bool) :
    Touches B s (s.startMetering b n a w) := by
  unfold State.startMetering
  dsimp only
  split
  · exact (touches_flushHeld hb s).trans (touches_setMeter hb _ _)
  · exact (touches_flushHeld hb s).trans (touches_setMeter hb _ _)

theorem touches_endMetering (hb : B b) (s : State) (w : CloseReason) : Touches B s (s.endMetering b w) := by
  unfold State.endMetering
  refine .ite ?_ (.refl B s)
  dsimp only
  split
  · exact .ite (((touches_setMeter hb s _).trans (touches_placeRecord B _ b _ _ _)).trans (touches_setMeter hb _ _))
      (((touches_setMeter hb s _).trans (touches_deferClosure hb _ _)).trans (touches_setMeter hb _ _))
  · exact (touches_setMeter hb s _).trans (touches_setMeter hb _ _)
  · exact touches_setMeter hb s _

/-! ## Breakers and sessions -/

theorem touches_closeRequest {k : Breaker} (hk : B (breakerBerth k)) (s : State) : Touches B s (s.closeRequest k).1 := by
  obtain ⟨r, h⟩ := closeRequest_eq s k
  rw [h]
  exact touches_setBreaker hk s r

theorem openRequest_eq (s : State) (k : Breaker) : ∃ r, (s.openRequest k).1 = s.setBreaker k r := by
  have hself : s = s.setBreaker k (s.breaker k) := by cases k <;> simp [State.setBreaker, State.breaker]
  unfold State.openRequest
  dsimp only
  split
  · split
    · exact ⟨_, hself⟩
    · exact ⟨_, rfl⟩
  · exact ⟨_, hself⟩
  · split
    · exact ⟨_, hself⟩
    · exact ⟨_, rfl⟩

theorem touches_openRequest {k : Breaker} (hk : B (breakerBerth k)) (s : State) : Touches B s (s.openRequest k).1 := by
  obtain ⟨r, h⟩ := openRequest_eq s k
  rw [h]
  exact touches_setBreaker hk s r

theorem syncAtEntry_history (old st : SessionState) (y : SyncRecord) :
    (syncAtEntry old st y).pNew = y.pNew ∧ (syncAtEntry old st y).pOld = y.pOld := by
  unfold syncAtEntry
  dsimp only
  split <;> split <;> split <;> exact ⟨rfl, rfl⟩

theorem touches_enterState (hb : B b) (s : State) (st : SessionState) : Touches B s (s.enterState b st) := by
  obtain ⟨o, h⟩ := enterState_eq s b st
  rw [h]
  obtain ⟨h1, h2⟩ := syncAtEntry_history (s.session b).state st (s.sync b)
  exact (((touches_setSession hb s _).trans (touches_setSync hb _ _ h1 h2)).trans (touches_setOsc hb _ o)).trans
    (touches_setSuperv hb _ _)

theorem touches_pbCloseComplete (hb : B b) (s : State) : Touches B s (s.pbCloseComplete b) :=
  .ite (((touches_setSession hb s _).trans (touches_startMetering hb _ _ _ _)).trans (touches_setSync hb _ _ rfl rfl)) (.refl B s)

theorem touches_presentPbClose (hb : B b) (s : State) : Touches B s (s.presentPbClose b) := by
  have h := touches_closeRequest (k := .pb b) hb s
  unfold State.presentPbClose
  dsimp only
  split
  · exact h.trans (touches_setSession hb _ _)
  · exact h.trans (touches_setSession hb _ _)
  · exact (h.trans (touches_setSession hb _ _)).trans (touches_pbCloseComplete hb _)
  · exact h.trans (touches_setSession hb _ _)

theorem touches_idleEntry (hb : B b) (s : State) : Touches B s (s.idleEntry b) :=
  ((touches_enterState hb s .idle).trans (touches_setSession hb _ _)).trans (touches_latchBerth B _ b _)

theorem touches_tryIdle (hb : B b) (s : State) : Touches B s (s.tryIdle b) := .ite (touches_idleEntry hb s) (.refl B s)

theorem touches_changeOfHoldings (hb : B b) (s : State) : Touches B s (s.changeOfHoldings b) := by
  rw [changeOfHoldings_eq]
  have h : Touches B s (s.recount b) := by
    rw [recount_eq]
    exact touches_setSession hb s _
  exact (Touches.ite (h.trans (touches_presentPbClose hb _)) h).trans (touches_tryIdle hb _)

/-! ## The pool -/

theorem touches_releaseOne (B : Berth → Prop) (s : State) (m : ModuleId) : Touches B s (s.releaseOne m) := by
  cases hh : isHolding (s.module m)
  · rw [releaseOne_other hh]
    exact .refl B s
  · rw [releaseOne_holding hh]
    split
    · exact touches_mpm B s _
    · exact touches_mpm B s _
    · exact touches_mpm B s _
    · exact .ite (touches_mpm B s _) (touches_mpm B s _)

theorem touches_releaseModules (hb : B b) (s : State) (l : List ModuleId) : Touches B s (s.releaseModules b l) := by
  have h : Touches B s (s.releaseEach l) := .foldl (touches_releaseOne B) l (.refl B s)
  rw [releaseModules_eq]
  exact .ite (h.trans (touches_changeOfHoldings hb _)) h

theorem touches_releaseBerth (hb : B b) (s : State) : Touches B s (s.releaseBerth b) := touches_releaseModules hb s _

theorem touches_grantPresented (hb : B b) (s : State) (l : List ModuleId) : Touches B s (s.grantPresented b l) := by
  unfold State.grantPresented
  split
  · exact touches_enterState hb s _
  iterate 3 exact touches_releaseModules hb s l
  · exact .refl B s

theorem touches_pickAll (B : Berth → Prop) (s : State) (b : Berth) (n : Nat) : Touches B s (s.pickAll b n).1 := by
  induction n generalizing s with
  | zero => exact .refl B s
  | succ n ih =>
    unfold State.pickAll
    split
    · exact (touches_mpm B s _).trans (ih _)
    · exact .refl B s

theorem touches_grantHead (s : State) {e : AllocEntry} (hb : B e.berth) : Touches B s (s.grantHead e) := by
  rw [grantHead_eq]
  exact (((touches_pickAll B s e.berth e.count).trans (touches_mpm B _ _)).trans (touches_grantPresented hb _ _)).trans
    (touches_changeOfHoldings hb _)

theorem touches_grantLoop (s : State) (n : Nat) (hB : ∀ e ∈ s.mpm.alloc, B e.berth) : Touches B s (s.grantLoop n) := by
  induction n generalizing s with
  | zero => exact .refl B s
  | succ n ih =>
    unfold State.grantLoop
    split
    case h_1 e l hq =>
      split
      case isTrue hc =>
        refine (touches_grantHead s (hB e (by simp [hq]))).trans (ih _ fun x hx => hB x ?_)
        rw [grantHead_alloc hq hc] at hx
        simp [hq, hx]
      case isFalse => exact .refl B s
    case h_2 => exact .refl B s

/-- A grant evaluation reaches the berths that wait. -/
theorem touches_grantEvaluation (s : State) (hB : ∀ e ∈ s.mpm.alloc, B e.berth) : Touches B s s.grantEvaluation :=
  .ite (touches_grantLoop s _ hB) (.refl B s)

/-- The cancellation of a berth's entry reaches the other berths that wait. -/
theorem touches_cancelAlloc (s : State) (b : Berth) (hB : ∀ e ∈ s.mpm.alloc, e.berth ≠ b → B e.berth) :
    Touches B s (s.cancelAlloc b) := by
  have hfilter := touches_mpm B s { s.mpm with alloc := s.mpm.alloc.filter (fun x => x.berth != b) }
  unfold State.cancelAlloc
  dsimp only
  split
  · refine .ite (hfilter.trans (touches_grantEvaluation _ fun e he => ?_)) hfilter
    simp only [List.mem_filter, bne_iff_ne] at he
    exact hB e he.1 he.2
  · exact hfilter

end
end Sys2Proof.Machine

/-! PROOFS. A trip presented to the pool and to the breakers (04, 05): what it makes of each module's record, which modules a grant
evaluation leaves, and what becomes of a breaker. -/

namespace Sys2Proof.Machine

open Sys2Proof

section
variable {s : State} {b : Berth} {m : ModuleId}

/-! ## The protection opens (R70) -/

/-- A module's record after the protection open that it may need (R60, R70). -/
def protectedRecord (r : ModuleRecord) : ModuleRecord :=
  if r.op = .open ∨ r.op = .protectionOpen then r
  else if r.breaker ≠ .open ∨ r.op = .close then { r with op := .protectionOpen, opAge := 0 }
  else r

/-- A protected module's record taken to STOPPING, or out of a stop phase that waits for an open (R70). -/
def haltedRecord (r : ModuleRecord) : ModuleRecord :=
  if isHolding r then { r with state := .stopping, stopPhase := false, stageTimer := 0 }
  else if r.state = .stopping ∧ r.stopPhase = true ∧ r.op ≠ .none then { r with stopPhase := false, run := .run }
  else r

/-- A module's record with its stop phase begun (R57). -/
def stopPhaseRecord (e : ModuleEntry) (r : ModuleRecord) : ModuleRecord :=
  { r with stopPhase := true, run := .stop, stageTimer := 0, startLimit := 4 * e.startLimit.toNat }

/-- A module's record after a trip of its berth (R70). -/
def trippedRecord (e : ModuleEntry) (r : ModuleRecord) : ModuleRecord :=
  let q := haltedRecord (protectedRecord r)
  if q.state = .stopping ∧ q.stopPhase = false ∧ q.op = .none then stopPhaseRecord e q else q

theorem protect_module (s : State) (m i : ModuleId) :
    (s.protect m).module i = if i = m then protectedRecord (s.module m) else s.module i := by
  have hself : s.module i = if i = m then s.module m else s.module i := by
    split
    case isTrue h => rw [h]
    case isFalse => rfl
  unfold State.protect protectedRecord
  dsimp only
  split
  · exact hself
  · split
    · exact setModule_module_eq s m _ i
    · exact hself

theorem protect_switching (s : State) (m : ModuleId) : (s.protect m).mpm.switching = s.mpm.switching := by
  unfold State.protect
  dsimp only
  split
  · rfl
  · split <;> rfl

theorem protect_moduleEntry (s : State) (m i : ModuleId) : (s.protect m).moduleEntry i = s.moduleEntry i := by
  unfold State.protect
  dsimp only
  split
  · rfl
  · split <;> rfl

/-- The state with a module's operations gone and its protection open issued, its record taken to STOPPING where it must be. -/
def State.halted (s : State) (m : ModuleId) : State :=
  ((s.removeOps m).protect m).setModule m (haltedRecord (protectedRecord (s.module m)))

theorem setModule_self (s : State) (m : ModuleId) : s.setModule m (s.module m) = s := by
  simp [State.setModule, State.module]

theorem tripModule_eq (s : State) (m : ModuleId) :
    s.tripModule m = if ((s.halted m).module m).state = .stopping ∧ ((s.halted m).module m).stopPhase = false
      ∧ ((s.halted m).module m).op = .none then (s.halted m).beginStopPhase m else s.halted m := by
  have hp : ((s.removeOps m).protect m).module m = protectedRecord (s.module m) := (protect_module _ m m).trans (if_pos rfl)
  have hself := setModule_self ((s.removeOps m).protect m) m
  rw [hp] at hself
  have ho : (if isHolding (protectedRecord (s.module m)) then ((s.removeOps m).protect m).setModule m
        { protectedRecord (s.module m) with state := .stopping, stopPhase := false, stageTimer := 0 }
      else if (protectedRecord (s.module m)).state = .stopping ∧ (protectedRecord (s.module m)).stopPhase = true
        ∧ (protectedRecord (s.module m)).op ≠ .none then
        ((s.removeOps m).protect m).setModule m { protectedRecord (s.module m) with stopPhase := false, run := .run }
      else (s.removeOps m).protect m) = s.halted m := by
    unfold State.halted haltedRecord
    split
    · rfl
    · split
      · rfl
      · exact hself.symm
  unfold State.tripModule
  dsimp only
  rw [hp, ho]

theorem halted_module (s : State) (m i : ModuleId) :
    (s.halted m).module i = if i = m then haltedRecord (protectedRecord (s.module m)) else s.module i := by
  unfold State.halted
  rw [setModule_module_eq]
  split
  · rfl
  case isFalse h => exact (protect_module _ m i).trans (if_neg h)

/-- The modules after the trip of one (R70). -/
theorem tripModule_module (s : State) (m i : ModuleId) :
    (s.tripModule m).module i = if i = m then trippedRecord (s.moduleEntry m) (s.module m) else s.module i := by
  have hentry : (s.halted m).moduleEntry m = s.moduleEntry m := protect_moduleEntry _ _ _
  have ho (i : ModuleId) := halted_module s m i
  rw [tripModule_eq, ho m, if_pos rfl]
  by_cases h : i = m
  · subst h
    rw [if_pos rfl]
    unfold trippedRecord
    dsimp only
    split
    · rw [beginStopPhase_module, if_pos rfl, ho, if_pos rfl, hentry]
      rfl
    · rw [ho, if_pos rfl]
  · rw [if_neg h]
    split
    · rw [beginStopPhase_module, if_neg h, ho, if_neg h]
    · rw [ho, if_neg h]

theorem tripModule_switching (s : State) (m : ModuleId) :
    (s.tripModule m).mpm.switching = s.mpm.switching.filter (fun e => e.module != m) := by
  have ho : (s.halted m).mpm.switching = s.mpm.switching.filter (fun e => e.module != m) := protect_switching _ _
  rw [tripModule_eq]
  split
  · exact ho
  · exact ho

/-- A trip of one module changes the pool alone. -/
theorem tripModule_rest (s : State) (m : ModuleId) : ∃ p, s.tripModule m = { s with mpm := p } := by
  have hp : ∃ p, (s.removeOps m).protect m = { s with mpm := p } := by
    unfold State.protect
    dsimp only
    split
    · exact ⟨_, rfl⟩
    · split <;> exact ⟨_, rfl⟩
  obtain ⟨p, hp⟩ := hp
  rw [tripModule_eq]
  unfold State.halted
  rw [hp]
  split <;> exact ⟨_, rfl⟩

theorem tripModule_alloc (s : State) (m : ModuleId) : (s.tripModule m).mpm.alloc = s.mpm.alloc := by
  have hp : ((s.removeOps m).protect m).mpm.alloc = s.mpm.alloc := by
    unfold State.protect
    dsimp only
    split
    · rfl
    · split <;> rfl
  rw [tripModule_eq]
  split
  · exact hp
  · exact hp

/-- The trips of a list of modules. -/
def State.tripEach (s : State) (l : List ModuleId) : State := l.foldl State.tripModule s

theorem tripModules_eq (s : State) (b : Berth) : s.tripModules b = (s.tripEach (s.modulesOf b)).changeOfHoldings b := rfl

theorem tripEach_rest (s : State) (l : List ModuleId) : ∃ p, s.tripEach l = { s with mpm := p } := by
  induction l generalizing s with
  | nil => exact ⟨s.mpm, rfl⟩
  | cons m l ih =>
    obtain ⟨p, hp⟩ := tripModule_rest s m
    obtain ⟨q, hq⟩ := ih (s.tripModule m)
    exact ⟨q, hq.trans (by rw [hp])⟩

theorem tripEach_alloc (s : State) (l : List ModuleId) : (s.tripEach l).mpm.alloc = s.mpm.alloc :=
  foldl_keeps (fun s => s.mpm.alloc) _ tripModule_alloc l s

theorem tripEach_module (s : State) {l : List ModuleId} (h : l.Nodup) (i : ModuleId) :
    (s.tripEach l).module i = if i ∈ l then trippedRecord (s.moduleEntry i) (s.module i) else s.module i := by
  induction l generalizing s with
  | nil => rfl
  | cons m l ih =>
    obtain ⟨hm, hl⟩ := List.nodup_cons.1 h
    have hentry : (s.tripModule m).moduleEntry i = s.moduleEntry i := by
      obtain ⟨p, hp⟩ := tripModule_rest s m
      rw [hp]
      rfl
    have hcons : s.tripEach (m :: l) = (s.tripModule m).tripEach l := rfl
    rw [hcons, ih _ hl, hentry, tripModule_module]
    by_cases him : i = m
    · subst him
      rw [if_neg hm, if_pos rfl, if_pos (List.mem_cons_self ..)]
    · simp only [him, if_false, List.mem_cons, false_or]

theorem tripEach_switching (s : State) (l : List ModuleId) : ∀ e ∈ (s.tripEach l).mpm.switching, e.module ∉ l := by
  have hkept (s : State) (l : List ModuleId) : (s.tripEach l).mpm.switching ⊆ s.mpm.switching := by
    induction l generalizing s with
    | nil => exact fun _ h => h
    | cons m l ih =>
      intro e he
      have := ih (s.tripModule m) he
      rw [tripModule_switching] at this
      exact (List.mem_filter.1 this).1
  induction l generalizing s with
  | nil => exact fun _ _ h => nomatch h
  | cons m l ih =>
    intro e he hmem
    have hcons : s.tripEach (m :: l) = (s.tripModule m).tripEach l := rfl
    rw [hcons] at he
    rcases List.mem_cons.1 hmem with h | h
    · have := hkept _ l he
      rw [tripModule_switching, List.mem_filter, h] at this
      simp at this
    · exact ih (s.tripModule m) e he h

theorem nodup_modulesOf (s : State) (b : Berth) : (s.modulesOf b).Nodup := (List.nodup_finRange 8).filter _

/-- The modules after a trip of their berth (R70). -/
theorem tripModules_module (s : State) (b : Berth) (m : ModuleId) :
    (s.tripModules b).module m
      = if (s.module m).berth = some b then trippedRecord (s.moduleEntry m) (s.module m) else s.module m := by
  rw [tripModules_eq, changeOfHoldings_module, tripEach_module s (nodup_modulesOf s b)]
  simp only [mem_modulesOf]

theorem tripModules_alloc (s : State) (b : Berth) : (s.tripModules b).mpm.alloc = s.mpm.alloc := by
  rw [tripModules_eq, changeOfHoldings_mpm, tripEach_alloc]

theorem tripModules_switching (h : (s.module m).berth = some b) : ∀ e ∈ (s.tripModules b).mpm.switching, e.module ≠ m := by
  rw [tripModules_eq, changeOfHoldings_mpm]
  intro e he hm
  exact tripEach_switching s _ e he (by rw [hm]; exact mem_modulesOf.2 h)

/-! ## A tripped record -/

theorem protectedRecord_fields (r : ModuleRecord) : (protectedRecord r).state = r.state ∧ (protectedRecord r).berth = r.berth
    ∧ (protectedRecord r).stopPhase = r.stopPhase ∧ (protectedRecord r).run = r.run := by
  unfold protectedRecord
  split
  · exact ⟨rfl, rfl, rfl, rfl⟩
  · split <;> exact ⟨rfl, rfl, rfl, rfl⟩

theorem haltedRecord_fields (r : ModuleRecord) : (haltedRecord r).berth = r.berth ∧ (haltedRecord r).op = r.op
    ∧ (haltedRecord r).opAge = r.opAge ∧ ((haltedRecord r).state = .stopping ↔ r.state = .starting ∨ r.state = .bound ∨ r.state = .stopping)
    ∧ (r.op ≠ .none → (haltedRecord r).state = .stopping → (haltedRecord r).stopPhase = false) := by
  unfold haltedRecord
  cases hh : isHolding r
  · have hne : ¬ (r.state = .starting ∨ r.state = .bound) := fun h => by rw [isHolding_iff.2 h] at hh; cases hh
    rw [if_neg (by decide)]
    split
    case isTrue h => exact ⟨rfl, rfl, rfl, ⟨fun _ => .inr (.inr h.1), fun _ => h.1⟩, fun _ _ => rfl⟩
    case isFalse h =>
      refine ⟨rfl, rfl, rfl, ⟨fun k => .inr (.inr k), fun k => by tauto⟩, fun hop hs => ?_⟩
      cases hp : r.stopPhase
      · rfl
      · exact absurd ⟨hs, hp, hop⟩ h
  · have hst := isHolding_iff.1 hh
    rw [if_pos rfl]
    exact ⟨rfl, rfl, rfl, ⟨fun _ => by tauto, fun _ => rfl⟩, fun _ _ => rfl⟩

theorem haltedRecord_not_holding (r : ModuleRecord) : isHolding (haltedRecord r) = false := by
  unfold haltedRecord
  cases hh : isHolding r
  · rw [if_neg (by decide)]
    split <;> exact hh
  · rfl

theorem trippedRecord_of_op (e : ModuleEntry) {r : ModuleRecord} (h : (protectedRecord r).op ≠ .none) :
    trippedRecord e r = haltedRecord (protectedRecord r) := by
  obtain ⟨-, hop, -⟩ := haltedRecord_fields (protectedRecord r)
  exact if_neg fun k => h (hop.symm.trans k.2.2)

/-- A tripped module serves its berth still, and holds for it no longer. -/
theorem trippedRecord_berth (e : ModuleEntry) (r : ModuleRecord) :
    (trippedRecord e r).berth = r.berth ∧ isHolding (trippedRecord e r) = false := by
  have hb : (haltedRecord (protectedRecord r)).berth = r.berth :=
    (haltedRecord_fields _).1.trans (protectedRecord_fields r).2.1
  have hh := haltedRecord_not_holding (protectedRecord r)
  unfold trippedRecord
  dsimp only
  split
  · exact ⟨hb, hh⟩
  · exact ⟨hb, hh⟩

theorem trippedRecord_stopping (e : ModuleEntry) {r : ModuleRecord} (h : r.state = .starting ∨ r.state = .bound ∨ r.state = .stopping) :
    (trippedRecord e r).state = .stopping := by
  have hs : (haltedRecord (protectedRecord r)).state = .stopping :=
    (haltedRecord_fields _).2.2.2.1.2 (by rwa [(protectedRecord_fields r).1])
  unfold trippedRecord
  dsimp only
  split
  · exact hs
  · exact hs

/-- An operation in force after the protection stays in force, out of the stop phase. -/
theorem trippedRecord_opening (e : ModuleEntry) {r : ModuleRecord} (h : r.state = .starting ∨ r.state = .bound ∨ r.state = .stopping)
    (hop : (protectedRecord r).op ≠ .none) :
    (trippedRecord e r).op = (protectedRecord r).op ∧ (trippedRecord e r).opAge = (protectedRecord r).opAge
      ∧ (trippedRecord e r).stopPhase = false := by
  have hs := trippedRecord_stopping e h
  rw [trippedRecord_of_op e hop] at hs ⊢
  obtain ⟨-, h1, h2, -, h3⟩ := haltedRecord_fields (protectedRecord r)
  exact ⟨h1, h2, h3 hop hs⟩

/-- A module that needs no open goes on in its stop phase, or begins it. -/
theorem trippedRecord_at_rest (e : ModuleEntry) {r : ModuleRecord} (h : r.state = .starting ∨ r.state = .bound ∨ r.state = .stopping)
    (hop : r.op = .none) (hb : r.breaker = .open) :
    (trippedRecord e r).op = .none ∧ (trippedRecord e r).stopPhase = true ∧ (r.stopPhase = false → (trippedRecord e r).run = .stop) := by
  have hp : protectedRecord r = r := by simp [protectedRecord, hop, hb]
  obtain ⟨-, h1, -, h2, -⟩ := haltedRecord_fields r
  unfold trippedRecord
  dsimp only
  rw [hp]
  split
  · exact ⟨h1.trans hop, rfl, fun _ => rfl⟩
  case isFalse hno =>
    have hphase : (haltedRecord r).stopPhase = true := by
      cases k : (haltedRecord r).stopPhase
      · exact absurd ⟨h2.2 h, k, h1.trans hop⟩ hno
      · rfl
    refine ⟨h1.trans hop, hphase, fun hno => ?_⟩
    have : (haltedRecord r).stopPhase = false := by
      unfold haltedRecord
      split
      · rfl
      · split
        · rfl
        · exact hno
    exact absurd (hphase.symm.trans this) (by decide)

/-! ## What a grant evaluation leaves of the pool -/

theorem releaseEach_module_of_not_mem (s : State) {l : List ModuleId} (h : m ∉ l) : (s.releaseEach l).module m = s.module m := by
  induction l generalizing s with
  | nil => rfl
  | cons i l ih =>
    rw [List.mem_cons, not_or] at h
    exact (ih (s.releaseOne i) h.2).trans (releaseOne_module_ne s h.1)

theorem releaseModules_module_of_not_mem (s : State) (b : Berth) {l : List ModuleId} (h : m ∉ l) :
    (s.releaseModules b l).module m = s.module m := by
  rw [module_of_mpm (releaseModules_mpm s b l), releaseEach_module_of_not_mem s h]

theorem grantPresented_module_of_not_mem (s : State) (b : Berth) {l : List ModuleId} (h : m ∉ l) :
    (s.grantPresented b l).module m = s.module m := by
  unfold State.grantPresented
  split
  · exact enterState_module _ _ _ _
  iterate 3 exact releaseModules_module_of_not_mem s b h
  · rfl

/-- A grant changes FREE modules alone. -/
theorem grantHead_module {e : AllocEntry} (hc : e.count ≤ s.freeCount) (h : (s.module m).state ≠ .free) :
    (s.grantHead e).module m = s.module m := by
  obtain ⟨hp, -⟩ := pickAll_picked (b := e.berth) hc
  have hmem : m ∉ (s.pickAll e.berth e.count).2 := fun k => h (grantable_iff.1 (hp.grantable m k)).1
  rw [grantHead_eq, changeOfHoldings_module, grantPresented_module_of_not_mem _ _ hmem]
  exact (hp.module m).trans (if_neg hmem)

theorem grantEvaluation_module (s : State) (h : (s.module m).state ≠ .free) : s.grantEvaluation.module m = s.module m := by
  have hloop (n : Nat) : ∀ s : State, (s.module m).state ≠ .free → (s.grantLoop n).module m = s.module m := by
    induction n with
    | zero => exact fun _ _ => rfl
    | succ n ih =>
      intro s h
      unfold State.grantLoop
      split
      · split
        case isTrue hc =>
          have hm := grantHead_module hc h
          rw [ih _ (by rwa [hm]), hm]
        case isFalse => rfl
      · rfl
  unfold State.grantEvaluation
  split
  · exact hloop _ s h
  · rfl

theorem grantEvaluation_alloc (s : State) : s.grantEvaluation.mpm.alloc ⊆ s.mpm.alloc := by
  unfold State.grantEvaluation
  split
  · obtain ⟨l, hl, -⟩ := grantLoop_alloc s (s.mpm.alloc.length + 1)
    intro e he
    rw [hl]
    exact List.mem_append_right _ he
  · exact fun _ h => h

/-- The queue without the entry of a berth. -/
def State.unqueued (s : State) (b : Berth) : State :=
  { s with mpm := { s.mpm with alloc := s.mpm.alloc.filter (fun x => x.berth != b) } }

theorem cancelAlloc_cases (s : State) (b : Berth) : s.cancelAlloc b = s.unqueued b ∨ s.cancelAlloc b = (s.unqueued b).grantEvaluation := by
  unfold State.cancelAlloc
  dsimp only
  split
  · split
    · exact .inr rfl
    · exact .inl rfl
  · exact .inl rfl

/-- A cancellation leaves no entry of its berth (R66). -/
theorem cancelAlloc_alloc (s : State) (b : Berth) : ∀ e ∈ (s.cancelAlloc b).mpm.alloc, e.berth ≠ b := by
  have h : ∀ e ∈ (s.unqueued b).mpm.alloc, e.berth ≠ b := fun e he => by simpa using (List.mem_filter.1 he).2
  rcases cancelAlloc_cases s b with k | k
  · rw [k]
    exact h
  · rw [k]
    exact fun e he => h e (grantEvaluation_alloc _ he)

theorem cancelAlloc_module (s : State) (b : Berth) (h : (s.module m).state ≠ .free) : (s.cancelAlloc b).module m = s.module m := by
  rcases cancelAlloc_cases s b with k | k
  · rw [k]
    rfl
  · rw [k]
    exact grantEvaluation_module (s.unqueued b) h

/-- A cancellation keeps every record of its berth. -/
theorem cancelAlloc_same (s : State) (b : Berth) : SameBerth b s (s.cancelAlloc b) :=
  (touches_cancelAlloc (B := (· ≠ b)) s b fun _ _ h => h).frame b (fun h => h rfl)

/-! ## The breakers of a tripped berth (R80) -/

/-- A conclusion of a measurement writes at most its breaker's record and the events. -/
theorem concludeMeasurement_eq (s : State) (k : Breaker) (v : Option Nat) :
    ∃ r h, s.concludeMeasurement k v = { s.setBreaker k r with mrh := h } := by
  unfold State.concludeMeasurement
  dsimp only
  split
  · exact ⟨_, _, rfl⟩
  · exact ⟨s.breaker k, s.mrh, by cases k <;> simp [State.setBreaker, State.breaker]⟩

/-- A trip of a breaker writes at most its record and the events. -/
theorem tripBreaker_eq (s : State) (k : Breaker) : ∃ r h, s.tripBreaker k = { s.setBreaker k r with mrh := h } := by
  unfold State.tripBreaker
  dsimp only
  split
  · obtain ⟨r, h, hc⟩ := concludeMeasurement_eq s k none
    rw [hc]
    cases k <;> exact ⟨_, h, by simp [State.issueOpen, State.setBreaker]; rfl⟩
  · split
    · exact ⟨s.breaker k, s.mrh, by cases k <;> simp [State.setBreaker, State.breaker]⟩
    · cases k <;> exact ⟨_, s.mrh, rfl⟩
  · exact ⟨s.breaker k, s.mrh, by cases k <;> simp [State.setBreaker, State.breaker]⟩

theorem tripBreaker_opens {k : Breaker} (h : (s.breaker k).command = .close ∨ (s.breaker k).status ≠ .open) :
    ((s.tripBreaker k).breaker k).command = .open := by
  unfold State.tripBreaker
  dsimp only
  split
  case h_1 => exact congrArg (·.command) (setBreaker_breaker_self _ _ _)
  case h_2 hc =>
    rw [hc] at h
    rw [if_neg (h.resolve_left (by decide))]
    exact congrArg (·.command) (setBreaker_breaker_self _ _ _)
  case h_3 hc => exact hc

theorem tripBreaker_stands {k : Breaker}
    (h : (s.breaker k).command = .open ∨ (s.breaker k).command = .none ∧ (s.breaker k).status = .open) : s.tripBreaker k = s := by
  unfold State.tripBreaker
  dsimp only
  rcases h with h | ⟨h, k⟩
  · rw [h]
  · rw [h, if_pos k]

theorem tripBreaker_breaker_ne (s : State) {j k : Breaker} (h : j ≠ k) : (s.tripBreaker k).breaker j = s.breaker j := by
  obtain ⟨r, m, hk⟩ := tripBreaker_eq s k
  rw [hk]
  exact setBreaker_breaker_ne s k r h

theorem tripBreakers_breaker (s : State) (b : Berth) (j : Breaker) :
    (s.tripBreakers b).breaker j = ((s.tripBreaker (.pb b)).tripBreaker (.sb b)).breaker j := setSync_breaker _ _ _ _

/-- What a trip makes of the two breakers of its berth (R80). -/
theorem tripBreakers_breakers (s : State) (b : Berth) {x : Breaker} (hx : x = .pb b ∨ x = .sb b) :
    ((s.breaker x).command = .close ∨ (s.breaker x).status ≠ .open → ((s.tripBreakers b).breaker x).command = .open)
      ∧ ((s.breaker x).command = .open ∨ (s.breaker x).command = .none ∧ (s.breaker x).status = .open →
        (s.tripBreakers b).breaker x = s.breaker x) := by
  rw [tripBreakers_breaker]
  rcases hx with rfl | rfl
  · rw [tripBreaker_breaker_ne _ (by simp)]
    exact ⟨tripBreaker_opens, fun h => by rw [tripBreaker_stands h]⟩
  · have hsb : (s.tripBreaker (.pb b)).breaker (.sb b) = s.breaker (.sb b) := tripBreaker_breaker_ne _ (by simp)
    refine ⟨fun h => tripBreaker_opens (by rwa [hsb]), fun h => ?_⟩
    rw [tripBreaker_stands (by rwa [hsb]), hsb]

/-- A trip presented to the breakers writes their records, the alignment and the events alone. -/
theorem tripBreakers_rest (s : State) (b : Berth) : ∃ p h, s.tripBreakers b = { s with bsy := p, mrh := h } := by
  obtain ⟨r, m, h⟩ := tripBreaker_eq s (.pb b)
  obtain ⟨q, n, k⟩ := tripBreaker_eq (s.tripBreaker (.pb b)) (.sb b)
  unfold State.tripBreakers
  rw [k, h]
  exact ⟨_, _, rfl⟩

end
end Sys2Proof.Machine

/-! PROOFS. The statement about a fault taken (07): the session's part of a trip, the trip's pieces put together, and what a fault
reaches of the other berths. -/

namespace Sys2Proof.Machine

open Sys2Proof

section
variable {s t u : State} {b : Berth} {k : FaultKind}

/-! ## A session in FAULTED -/

/-- What the pieces of a trip that follow the entry into FAULTED leave of a berth. -/
structure StaysFaulted (b : Berth) (s t : State) : Prop where
  state : (t.session b).state = .faulted
  phase : (t.session b).phase = (s.session b).phase
  share : (t.session b).share ≤ (s.session b).share
  osc : t.osc b = s.osc b
  superv : t.superv b = s.superv b
  breaker : ∀ x, t.breaker x = s.breaker x
  cfs : t.cfs = s.cfs

theorem StaysFaulted.trans (h : StaysFaulted b s t) (k : StaysFaulted b t u) : StaysFaulted b s u :=
  ⟨k.state, k.phase.trans h.phase, k.share.trans h.share, k.osc.trans h.osc, k.superv.trans h.superv,
    fun x => (k.breaker x).trans (h.breaker x), k.cfs.trans h.cfs⟩

theorem readyForIdle_of_faulted {r : Session} (hs : r.state = .faulted) (he : r.endReason ≠ some .fault) : readyForIdle r = false := by
  simp [readyForIdle, hs, he]

theorem mpm_breaker (s : State) (p : Mpm) (x : Breaker) : ({ s with mpm := p } : State).breaker x = s.breaker x := by cases x <;> rfl

theorem tripModules_staysFaulted (hs : (s.session b).state = .faulted) (he : (s.session b).endReason ≠ some .fault) :
    StaysFaulted b s (s.tripModules b) := by
  obtain ⟨p, hp⟩ := tripEach_rest s (s.modulesOf b)
  rw [tripModules_eq, hp, changeOfHoldings_of_plain]
  · refine ⟨?_, ?_, ?_, rfl, rfl, fun x => ?_, rfl⟩
    · rw [setSession_session_self]
      exact hs
    · rw [setSession_session_self]
      rfl
    · rw [setSession_session_self]
      exact Nat.min_le_left _ _
    · rw [setSession_breaker, mpm_breaker]
  · exact fun h => absurd (hs.symm.trans h) (by decide)
  · exact readyForIdle_of_faulted hs he

theorem pbOpenComplete_faulted (hs : (s.session b).state = .faulted) :
    s.pbOpenComplete b = if (s.session b).metering then
      (s.endMetering b .fault).setSession b { (s.endMetering b .fault).session b with metering := false } else s := by
  unfold State.pbOpenComplete
  rw [hs]

theorem pbOpenComplete_idle (hs : (s.session b).state = .idle) : s.pbOpenComplete b = s := by
  unfold State.pbOpenComplete
  rw [hs]

theorem endMetering_session (s : State) (b c : Berth) (w : CloseReason) : (s.endMetering b w).session c = s.session c :=
  ((BillingOnly.refl b s).endMetering w).session c

theorem tripPbComplete_staysFaulted (hs : (s.session b).state = .faulted) : StaysFaulted b s (s.tripPbComplete b) := by
  have hself : StaysFaulted b s s := ⟨hs, rfl, le_rfl, rfl, rfl, fun _ => rfl, rfl⟩
  have hm := (BillingOnly.refl b s).endMetering .fault
  unfold State.tripPbComplete
  split
  · rw [pbOpenComplete_faulted hs]
    split
    · refine ⟨?_, ?_, ?_, ?_, ?_, fun x => ?_, ?_⟩
      · rw [setSession_session_self, hm.session]
        exact hs
      · rw [setSession_session_self, hm.session]
      · rw [setSession_session_self, hm.session]
      · rw [setSession_osc, hm.osc]
      · rw [setSession_superv, hm.superv]
      · rw [setSession_breaker, hm.breaker]
      · rw [setSession_cfs, endMetering_cfs]
    · exact hself
  · exact hself

/-- What a completed open of the plug breaker leaves of the pool, in FAULTED and IDLE. -/
theorem tripPbComplete_mpm (hs : (s.session b).state = .faulted ∨ (s.session b).state = .idle) : (s.tripPbComplete b).mpm = s.mpm := by
  unfold State.tripPbComplete
  split
  · rcases hs with hs | hs
    · rw [pbOpenComplete_faulted hs]
      split
      · rw [setSession_mpm, endMetering_mpm]
      · rfl
    · rw [pbOpenComplete_idle hs]
  · rfl

theorem changeOfHoldings_faulted_or_idle (hs : (s.session b).state = .faulted) :
    ((s.changeOfHoldings b).session b).state = .faulted ∨ ((s.changeOfHoldings b).session b).state = .idle := by
  cases hr : readyForIdle (s.recounted b)
  · rw [changeOfHoldings_of_plain (by rw [hs]; decide) hr, setSession_session_self]
    exact .inl hs
  · rw [changeOfHoldings_of_ready hr, idleEntry_session_self]
    exact .inr rfl

theorem tripModules_faulted_or_idle (hs : (s.session b).state = .faulted) :
    ((s.tripModules b).session b).state = .faulted ∨ ((s.tripModules b).session b).state = .idle := by
  obtain ⟨p, hp⟩ := tripEach_rest s (s.modulesOf b)
  rw [tripModules_eq, hp]
  exact changeOfHoldings_faulted_or_idle hs

/-! ## The entry into FAULTED (R117) -/

theorem enterFaulted_eq (hi : (s.session b).state ≠ .idle) :
    s.enterFaulted b = ((s.cancelAlloc b).enterState b .faulted).setSession b
      (faultedFlags (((s.cancelAlloc b).enterState b .faulted).session b)) := if_neg hi

/-- The session that a trip leaves, before its modules are counted (R117). -/
theorem enterFaulted_session (hi : (s.session b).state ≠ .idle) : (s.enterFaulted b).session b
    = faultedFlags (sessionAtEntry ((s.cancelAlloc b).berthEntry b) .faulted (s.session b)) := by
  rw [enterFaulted_eq hi, setSession_session_self, enterState_session_self, (cancelAlloc_same s b).session]

theorem changeMode_mode (o : Osc) (m : OscMode) : (changeMode o m).mode = m := by
  unfold changeMode
  split
  case isTrue h => exact h
  case isFalse => rfl

theorem enterFaulted_osc (hi : (s.session b).state ≠ .idle) : ((s.enterFaulted b).osc b).mode = .free := by
  rw [enterFaulted_eq hi, setSession_osc, enterState_osc_self _ _ _ (by decide)]
  exact changeMode_mode _ _

theorem enterFaulted_superv (hi : (s.session b).state ≠ .idle) :
    (s.enterFaulted b).superv b = filtersAtEntry .faulted (s.superv b) := by
  rw [enterFaulted_eq hi, setSession_superv, enterState_superv_self, (cancelAlloc_same s b).superv]

theorem enterFaulted_breaker (hi : (s.session b).state ≠ .idle) {x : Breaker} (hx : x = .pb b ∨ x = .sb b) :
    (s.enterFaulted b).breaker x = s.breaker x := by
  rw [enterFaulted_eq hi, setSession_breaker, enterState_breaker]
  rcases hx with rfl | rfl
  · exact (cancelAlloc_same s b).pb
  · exact (cancelAlloc_same s b).sb

theorem enterFaulted_mpm (hi : (s.session b).state ≠ .idle) : (s.enterFaulted b).mpm = (s.cancelAlloc b).mpm := by
  rw [enterFaulted_eq hi, setSession_mpm, enterState_mpm]

/-! ## The pieces of a fault -/

theorem fault_idle (hi : (s.session b).state = .idle) : s.fault b k = s := if_pos hi

theorem fault_later (hs : (s.session b).state = .faulted) (hc : s.classFor k ≠ .warn) :
    s.fault b k = s.laterFault b k (s.classFor k) := by
  unfold State.fault
  rw [if_neg (by rw [hs]; decide)]
  split
  case h_1 h => exact absurd h hc
  case h_2 => exact if_pos hs

theorem fault_trip (hi : (s.session b).state ≠ .idle) (hf : (s.session b).state ≠ .faulted) (hc : s.classFor k ≠ .warn) :
    s.fault b k = s.trip b k (tripClassFor (s.superv b).attempts (s.classFor k)) := by
  unfold State.fault
  rw [if_neg hi]
  split
  case h_1 h => exact absurd h hc
  case h_2 => exact if_neg hf

/-- The supervision's part of a later fault (R131). -/
def State.laterTaken (s : State) (b : Berth) (k : FaultKind) (c : FaultClass) : State :=
  s.setSuperv b { s.superv b with
    laterFaults := satAdd 255 (s.superv b).laterFaults 1, laterKind := some k, tripClass := some (laterClass c (s.superv b).tripClass) }

/-- The trip's pieces up to the pool's, for a later fault. -/
def State.laterTripped (s : State) (b : Berth) (k : FaultKind) (c : FaultClass) : State := (s.laterTaken b k c).tripBreakers b

theorem laterFault_eq (s : State) (b : Berth) (k : FaultKind) (c : FaultClass) :
    s.laterFault b k c = ((((s.laterTripped b k c).tripModules b).tripPbComplete b).setRestartTimer b).latchBerth b .trip := rfl

/-- The trip's pieces up to the pool's. -/
def State.tripEntered (s : State) (b : Berth) (k : FaultKind) (c : FaultClass) : State :=
  ((s.setSuperv b (tripRecord k c s.rif.cycle s.ctu.time (s.superv b))).tripBreakers b).enterFaulted b

theorem trip_eq (s : State) (b : Berth) (k : FaultKind) (c : FaultClass) :
    s.trip b k c = ((((s.tripEntered b k c).tripModules b).tripPbComplete b).latchBerth b .trip).setRestartTimer b := rfl

theorem setRestartTimer_superv (s : State) (b : Berth) : (s.setRestartTimer b).superv b
    = { s.superv b with
        restartTimer := if (s.superv b).tripClass = some .restart then 4 * s.cfs.tables.station.restartDelay.toNat else 0
        restartDue := false } := setSuperv_superv_self _ _ _

theorem setRestartTimer_breaker (s : State) (b : Berth) (x : Breaker) : (s.setRestartTimer b).breaker x = s.breaker x :=
  setSuperv_breaker _ _ _ _

theorem setRestartTimer_mpm (s : State) (b : Berth) : (s.setRestartTimer b).mpm = s.mpm := setSuperv_mpm _ _ _

theorem setRestartTimer_session (s : State) (b c : Berth) : (s.setRestartTimer b).session c = s.session c := setSuperv_session _ _ _ _

theorem setRestartTimer_osc (s : State) (b c : Berth) : (s.setRestartTimer b).osc c = s.osc c := setSuperv_osc _ _ _ _

theorem setRestartTimer_isLatched (s : State) (b : Berth) (c : Scope) (n : Nat) :
    (s.setRestartTimer b).isLatched c n = s.isLatched c n := by
  unfold State.isLatched State.setRestartTimer
  rw [setSuperv_mrh]

theorem tripBreakers_session (s : State) (b c : Berth) : (s.tripBreakers b).session c = s.session c := by
  obtain ⟨p, h, hr⟩ := tripBreakers_rest s b
  rw [hr]
  rfl

theorem tripBreakers_superv (s : State) (b c : Berth) : (s.tripBreakers b).superv c = s.superv c := by
  obtain ⟨p, h, hr⟩ := tripBreakers_rest s b
  rw [hr]
  rfl

theorem tripBreakers_mpm (s : State) (b : Berth) : (s.tripBreakers b).mpm = s.mpm := by
  obtain ⟨p, h, hr⟩ := tripBreakers_rest s b
  rw [hr]

theorem laterTripped_session (s : State) (b : Berth) (k : FaultKind) (c : FaultClass) :
    (s.laterTripped b k c).session b = s.session b := tripBreakers_session _ _ _

theorem laterTripped_superv (s : State) (b : Berth) (k : FaultKind) (c : FaultClass) :
    (s.laterTripped b k c).superv b = { s.superv b with
      laterFaults := satAdd 255 (s.superv b).laterFaults 1, laterKind := some k
      tripClass := some (laterClass c (s.superv b).tripClass) } :=
  (tripBreakers_superv _ _ _).trans (setSuperv_superv_self _ _ _)

theorem laterTripped_mpm (s : State) (b : Berth) (k : FaultKind) (c : FaultClass) : (s.laterTripped b k c).mpm = s.mpm :=
  tripBreakers_mpm _ _

theorem laterTripped_cfs (s : State) (b : Berth) (k : FaultKind) (c : FaultClass) : (s.laterTripped b k c).cfs = s.cfs :=
  cfs_of_outer (tripBreakers_outer _ _)

theorem tripEntered_session (hi : (s.session b).state ≠ .idle) (c : FaultClass) :
    ∃ e, (s.tripEntered b k c).session b = faultedFlags (sessionAtEntry e .faulted (s.session b)) := by
  have hs : ((s.setSuperv b (tripRecord k c s.rif.cycle s.ctu.time (s.superv b))).tripBreakers b).session b = s.session b :=
    tripBreakers_session _ _ _
  have h := enterFaulted_session (s := (s.setSuperv b (tripRecord k c s.rif.cycle s.ctu.time (s.superv b))).tripBreakers b)
    (b := b) (by rwa [hs])
  rw [hs] at h
  exact ⟨_, h⟩

theorem tripEntered_osc (hi : (s.session b).state ≠ .idle) (c : FaultClass) : ((s.tripEntered b k c).osc b).mode = .free :=
  enterFaulted_osc (by rwa [tripBreakers_session, setSuperv_session])

theorem tripEntered_superv (hi : (s.session b).state ≠ .idle) (c : FaultClass) :
    (s.tripEntered b k c).superv b = filtersAtEntry .faulted (tripRecord k c s.rif.cycle s.ctu.time (s.superv b)) := by
  unfold State.tripEntered
  rw [enterFaulted_superv (by rwa [tripBreakers_session, setSuperv_session]), tripBreakers_superv, setSuperv_superv_self]

theorem tripEntered_mpm (hi : (s.session b).state ≠ .idle) (c : FaultClass) : ∃ u : State, u.mpm = s.mpm
    ∧ (s.tripEntered b k c).mpm = (u.cancelAlloc b).mpm :=
  ⟨_, (tripBreakers_mpm _ b).trans (setSuperv_mpm _ _ _), enterFaulted_mpm (by rwa [tripBreakers_session, setSuperv_session])⟩

theorem tripEntered_cfs (s : State) (b : Berth) (k : FaultKind) (c : FaultClass) : (s.tripEntered b k c).cfs = s.cfs :=
  (cfs_of_outer (enterFaulted_outer _ _)).trans (cfs_of_outer (tripBreakers_outer _ _))

theorem tripEntered_breaker (hi : (s.session b).state ≠ .idle) (c : FaultClass) {x : Breaker} (hx : x = .pb b ∨ x = .sb b) :
    (s.tripEntered b k c).breaker x
      = ((s.setSuperv b (tripRecord k c s.rif.cycle s.ctu.time (s.superv b))).tripBreakers b).breaker x :=
  enterFaulted_breaker (by rwa [tripBreakers_session, setSuperv_session]) hx

/-! ## The modules after a fault (R70) -/

/-- After a trip presented to the pool no module holds for the berth. -/
theorem tripModules_not_holding (s : State) (b : Berth) (m : ModuleId) (h : ((s.tripModules b).module m).berth = some b) :
    ((s.tripModules b).module m).state ≠ .starting ∧ ((s.tripModules b).module m).state ≠ .bound := by
  have hh : isHolding ((s.tripModules b).module m) = false := by
    rw [tripModules_module] at h ⊢
    split
    case isTrue => exact (trippedRecord_berth _ _).2
    case isFalse hne => exact absurd (by rwa [if_neg hne] at h) hne
  rw [← not_or, ← isHolding_iff, hh]
  decide

/-- The pool after a fault is what the trip presented to it leaves. -/
theorem fault_mpm (hi : (s.session b).state ≠ .idle) (hc : s.classFor k ≠ .warn) : ∃ u : State, (u.session b).state = .faulted
    ∧ (s.fault b k).mpm = (u.tripModules b).mpm
    ∧ (∀ m, (s.module m).state ≠ .free → u.module m = s.module m)
    ∧ ((s.session b).state ≠ .faulted → ∀ e ∈ u.mpm.alloc, e.berth ≠ b) := by
  by_cases hf : (s.session b).state = .faulted
  · have hs : ((s.laterTripped b k (s.classFor k)).session b).state = .faulted := by rwa [laterTripped_session]
    refine ⟨s.laterTripped b k (s.classFor k), hs, ?_, fun m _ => module_of_mpm (laterTripped_mpm _ _ _ _) m, fun h => absurd hf h⟩
    rw [fault_later hf hc, laterFault_eq, latchBerth_mpm, setRestartTimer_mpm,
      tripPbComplete_mpm (tripModules_faulted_or_idle hs)]
  · obtain ⟨e, he⟩ := tripEntered_session (k := k) hi (tripClassFor (s.superv b).attempts (s.classFor k))
    have hs : ((s.tripEntered b k (tripClassFor (s.superv b).attempts (s.classFor k))).session b).state = .faulted := by
      rw [he]
      rfl
    obtain ⟨v, hv, hm⟩ := tripEntered_mpm (k := k) hi (tripClassFor (s.superv b).attempts (s.classFor k))
    refine ⟨_, hs, ?_, fun m h => ?_, fun _ => ?_⟩
    · rw [fault_trip hi hf hc, trip_eq, setRestartTimer_mpm, latchBerth_mpm,
        tripPbComplete_mpm (tripModules_faulted_or_idle hs)]
    · have hvm := module_of_mpm hv m
      rw [module_of_mpm hm, cancelAlloc_module v b (by rwa [hvm]), hvm]
    · rw [hm]
      exact cancelAlloc_alloc v b

theorem fault_module_not_holding (hi : (s.session b).state ≠ .idle) (hc : s.classFor k ≠ .warn) (m : ModuleId)
    (h : ((s.fault b k).module m).berth = some b) :
    ((s.fault b k).module m).state ≠ .starting ∧ ((s.fault b k).module m).state ≠ .bound := by
  obtain ⟨u, -, hm, -⟩ := fault_mpm hi hc
  rw [module_of_mpm hm] at h ⊢
  exact tripModules_not_holding u b m h

/-- What a later fault leaves of its berth (R131). -/
theorem laterFault_kept (c : FaultClass) (hs : (s.session b).state = .faulted) (he : (s.session b).endReason ≠ some .fault) :
    ((s.laterFault b k c).session b).state = .faulted
      ∧ (s.laterFault b k c).superv b = { s.superv b with
          laterFaults := min 255 ((s.superv b).laterFaults + 1), laterKind := some k
          tripClass := some (laterClass c (s.superv b).tripClass)
          restartTimer := if laterClass c (s.superv b).tripClass = .restart then 4 * s.cfs.tables.station.restartDelay.toNat else 0
          restartDue := false }
      ∧ (s.laterFault b k c).isLatched (.berth b) 11 = true
      ∧ ∀ x, (s.laterFault b k c).breaker x = ((s.laterTaken b k c).tripBreakers b).breaker x := by
  have h := tripModules_staysFaulted (s := s.laterTripped b k c) (b := b) (by rwa [laterTripped_session]) (by rwa [laterTripped_session])
  have hstay := h.trans (tripPbComplete_staysFaulted h.state)
  rw [laterFault_eq]
  refine ⟨?_, ?_, latchBerth_isLatched_self _ _ .trip, fun x => ?_⟩
  · rw [latchBerth_session, setRestartTimer_session, hstay.state]
  · rw [latchBerth_superv, setRestartTimer_superv, hstay.superv, hstay.cfs, laterTripped_superv, laterTripped_cfs]
    simp only [Option.some.injEq, satAdd]
  · rw [latchBerth_breaker, setRestartTimer_breaker, hstay.breaker]
    rfl

/-- What a trip leaves of its berth (R130). -/
theorem trip_kept (c : FaultClass) (hi : (s.session b).state ≠ .idle) (he : (s.session b).endReason ≠ some .fault) :
    ((s.trip b k c).session b).state = .faulted ∧ ((s.trip b k c).session b).phase = .none ∧ ((s.trip b k c).session b).share = 0
      ∧ ((s.trip b k c).osc b).mode = .free
      ∧ (s.trip b k c).superv b = { filtersAtEntry .faulted (tripRecord k c s.rif.cycle s.ctu.time (s.superv b)) with
          restartTimer := if c = .restart then 4 * s.cfs.tables.station.restartDelay.toNat else 0
          restartDue := false }
      ∧ (s.trip b k c).isLatched (.berth b) 11 = true
      ∧ ∀ x, x = .pb b ∨ x = .sb b → (s.trip b k c).breaker x
        = ((s.setSuperv b (tripRecord k c s.rif.cycle s.ctu.time (s.superv b))).tripBreakers b).breaker x := by
  obtain ⟨e, hses⟩ := tripEntered_session (k := k) hi c
  have h := tripModules_staysFaulted (s := s.tripEntered b k c) (b := b) (by rw [hses]; rfl) (by rw [hses]; exact he)
  have hstay := h.trans (tripPbComplete_staysFaulted h.state)
  rw [trip_eq]
  refine ⟨?_, ?_, ?_, ?_, ?_, ?_, fun x hx => ?_⟩
  · rw [setRestartTimer_session, latchBerth_session, hstay.state]
  · rw [setRestartTimer_session, latchBerth_session, hstay.phase, hses]
    rfl
  · rw [setRestartTimer_session, latchBerth_session]
    have hzero : ((s.tripEntered b k c).session b).share = 0 := by
      rw [hses]
      rfl
    exact Nat.le_zero.1 (hzero ▸ hstay.share)
  · rw [setRestartTimer_osc, latchBerth_osc, hstay.osc]
    exact tripEntered_osc hi c
  · rw [setRestartTimer_superv, latchBerth_superv, latchBerth_cfs, hstay.superv, hstay.cfs, tripEntered_superv hi, tripEntered_cfs]
    simp only [filtersAtEntry, tripRecord, Option.some.injEq]
  · rw [setRestartTimer_isLatched]
    exact latchBerth_isLatched_self _ _ .trip
  · rw [setRestartTimer_breaker, latchBerth_breaker, hstay.breaker]
    exact tripEntered_breaker hi c hx

end

/-- Settles O43: a fault is nothing, a warning, a trip (`trip_kept`) or a later fault (`laterFault_kept`); the pool is left as the trip
presented to it leaves it (`fault_mpm`). -/
theorem faultTaken : Obligations.FaultTaken := by
  refine ⟨fun s b k hi => fault_idle hi, fun s b k hi hc => fault_warn hi hc, fun s b k hs he hc => ?later,
    fun s b k hi hf he hc => ?trip, fun s b k m hi hc hb hst => ?modules⟩
  case later =>
    have hi : (s.session b).state ≠ .idle := by rw [hs]; decide
    have hmodules := fault_module_not_holding hi hc
    rw [fault_later hs hc] at hmodules ⊢
    obtain ⟨hstate, hsup, hlatched, hbreaker⟩ := laterFault_kept (k := k) (s.classFor k) hs he
    dsimp only
    rw [hsup]
    refine ⟨hstate, rfl, rfl, ?_, rfl, rfl, rfl, ?_, rfl, rfl, hlatched, hmodules, fun x hx => ?_⟩
    · unfold laterClass
      cases (s.superv b).tripClass <;> rfl
    · unfold laterClass
      cases (s.superv b).tripClass <;> rfl
    · have hold : (s.laterTaken b k (s.classFor k)).breaker x = s.breaker x := setSuperv_breaker _ _ _ _
      have := tripBreakers_breakers (s.laterTaken b k (s.classFor k)) b hx
      rwa [hold, ← hbreaker x] at this
  case trip =>
    have hmodules := fault_module_not_holding hi hc
    obtain ⟨u, -, hmpm, -, halloc⟩ := fault_mpm hi hc
    rw [fault_trip hi hf hc] at hmodules hmpm ⊢
    obtain ⟨hstate, hphase, hshare, hosc, hsup, hlatched, hbreaker⟩ :=
      trip_kept (k := k) (tripClassFor (s.superv b).attempts (s.classFor k)) hi he
    dsimp only
    rw [hsup, hmpm, tripModules_alloc]
    refine ⟨hstate, hphase, hshare, hosc, rfl, rfl, rfl, rfl, rfl, rfl, rfl, rfl, rfl, hlatched, halloc hf, hmodules, fun x hx => ?_⟩
    have hold (v : Supervision) : (s.setSuperv b v).breaker x = s.breaker x := setSuperv_breaker _ _ _ _
    obtain ⟨h1, h2⟩ := tripBreakers_breakers
      (s.setSuperv b (tripRecord k (tripClassFor (s.superv b).attempts (s.classFor k)) s.rif.cycle s.ctu.time (s.superv b))) b hx
    rw [hold, ← hbreaker x hx] at h1 h2
    exact ⟨h1, fun hc hs => h2 (.inr ⟨hc, hs⟩)⟩
  case modules =>
    obtain ⟨u, -, hmpm, hsame, -⟩ := fault_mpm hi hc
    have hm : u.module m = s.module m := hsame m (by rcases hst with h | h | h <;> rw [h] <;> decide)
    have hr : (s.fault b k).module m = trippedRecord (u.moduleEntry m) (s.module m) := by
      rw [module_of_mpm hmpm, tripModules_module, hm, if_pos hb]
    dsimp only
    rw [hr, hmpm]
    refine ⟨trippedRecord_stopping _ hst, (trippedRecord_berth _ _).1.trans hb, tripModules_switching (by rwa [hm]), fun hop => ?_,
      fun hop => ?_, fun hop hbr => trippedRecord_at_rest _ hst hop hbr⟩
    · have hp : protectedRecord (s.module m) = s.module m := if_pos hop
      have := trippedRecord_opening (u.moduleEntry m) hst (by rw [hp]; rcases hop with h | h <;> rw [h] <;> decide)
      rwa [hp] at this
    · have hp : protectedRecord (s.module m) = { s.module m with op := .protectionOpen, opAge := 0 } := by
        unfold protectedRecord
        rw [if_neg (by rcases hop with h | h <;> simp [h]), if_pos (by tauto)]
      have := trippedRecord_opening (u.moduleEntry m) hst (by simp [hp])
      rwa [hp] at this

end Sys2Proof.Machine

/-! PROOFS. The synchroniser (05): what a fault reaches of other berths and of the crossing histories, the alignment's crossings, the
sync evaluation, and the statement about them. -/

namespace Sys2Proof.Machine

open Sys2Proof

section
variable {s t u : State} {b : Berth} {B : Berth → Prop}

/-! ## What a fault reaches -/

theorem touches_drainReturn (hb : B b) (s : State) : Touches B s (s.drainReturn b) := by
  unfold State.drainReturn
  dsimp only
  exact ((Touches.ite (touches_endMetering hb s _) (.refl B s)).trans (touches_setSession hb _ _)).trans (touches_releaseBerth hb _)

theorem touches_pbDrained (hb : B b) (s : State) : Touches B s (s.pbDrained b) :=
  ((touches_setSession hb s _).trans (touches_drainReturn hb _)).trans (touches_tryIdle hb _)

theorem touches_pbOpenComplete (hb : B b) (s : State) : Touches B s (s.pbOpenComplete b) := by
  unfold State.pbOpenComplete
  split
  · exact .ite (touches_pbDrained hb s) (.refl B s)
  · exact .ite ((touches_endMetering hb s _).trans (touches_setSession hb _ _)) (.refl B s)
  · exact .refl B s

theorem touches_concludeMeasurement {k : Breaker} (hk : B (breakerBerth k)) (s : State) (v : Option Nat) :
    Touches B s (s.concludeMeasurement k v) :=
  .ite ((touches_setBreaker hk s _).trans (touches_latchBerth B _ _ _)) (.refl B s)

theorem touches_tripBreaker {k : Breaker} (hk : B (breakerBerth k)) (s : State) : Touches B s (s.tripBreaker k) := by
  unfold State.tripBreaker
  dsimp only
  split
  · exact (touches_concludeMeasurement hk s _).trans (touches_setBreaker hk _ _)
  · exact .ite (.refl B s) (touches_setBreaker hk s _)
  · exact .refl B s

theorem touches_tripBreakers (hb : B b) (s : State) : Touches B s (s.tripBreakers b) :=
  ((touches_tripBreaker (k := .pb b) hb s).trans (touches_tripBreaker (k := .sb b) hb _)).trans (touches_setSync hb _ _ rfl rfl)

theorem touches_enterFaulted (hb : B b) (s : State) (hB : ∀ e ∈ s.mpm.alloc, e.berth ≠ b → B e.berth) :
    Touches B s (s.enterFaulted b) :=
  .ite (.refl B s) (((touches_cancelAlloc s b hB).trans (touches_enterState hb _ _)).trans (touches_setSession hb _ _))

theorem touches_tripModules (hb : B b) (s : State) : Touches B s (s.tripModules b) := by
  obtain ⟨p, hp⟩ := tripEach_rest s (s.modulesOf b)
  rw [tripModules_eq, hp]
  exact (touches_mpm B s p).trans (touches_changeOfHoldings hb _)

theorem touches_tripPbComplete (hb : B b) (s : State) : Touches B s (s.tripPbComplete b) :=
  .ite (touches_pbOpenComplete hb s) (.refl B s)

theorem touches_trip (hb : B b) (s : State) (hB : ∀ e ∈ s.mpm.alloc, e.berth ≠ b → B e.berth) (k : FaultKind) (c : FaultClass) :
    Touches B s (s.trip b k c) := by
  have halloc : ((s.setSuperv b (tripRecord k c s.rif.cycle s.ctu.time (s.superv b))).tripBreakers b).mpm = s.mpm :=
    (tripBreakers_mpm _ _).trans (setSuperv_mpm _ _ _)
  rw [trip_eq]
  exact ((((((touches_setSuperv hb s _).trans (touches_tripBreakers hb _)).trans
    (touches_enterFaulted hb _ (by rwa [halloc]))).trans (touches_tripModules hb _)).trans (touches_tripPbComplete hb _)).trans
    (touches_latchBerth B _ b _)).trans (touches_setSuperv hb _ _)

theorem touches_laterFault (hb : B b) (s : State) (k : FaultKind) (c : FaultClass) : Touches B s (s.laterFault b k c) := by
  rw [laterFault_eq]
  exact (((((touches_setSuperv hb s _).trans (touches_tripBreakers hb _)).trans (touches_tripModules hb _)).trans
    (touches_tripPbComplete hb _)).trans (touches_setSuperv hb _ _)).trans (touches_latchBerth B _ b _)

/-- A fault reaches its berth and the berths that wait for modules. -/
theorem touches_fault (hb : B b) (s : State) (hB : ∀ e ∈ s.mpm.alloc, e.berth ≠ b → B e.berth) (k : FaultKind) :
    Touches B s (s.fault b k) := by
  by_cases hi : (s.session b).state = .idle
  · rw [fault_idle hi]
    exact .refl B s
  · by_cases hc : s.classFor k = .warn
    · rw [fault_warn hi hc]
      exact (touches_setSuperv hb s _).trans (touches_latchBerth B _ b _)
    · by_cases hf : (s.session b).state = .faulted
      · rw [fault_later hf hc]
        exact touches_laterFault hb s k _
      · rw [fault_trip hi hf hc]
        exact touches_trip hb s hB k _

theorem touches_faultIf (hb : B b) (s : State) (hB : ∀ e ∈ s.mpm.alloc, e.berth ≠ b → B e.berth) (w : Bool) (k : FaultKind) :
    Touches B s (s.faultIf w b k) := .ite (touches_fault hb s hB k) (.refl B s)

/-- A fault keeps every crossing history. -/
theorem fault_history (s : State) (b c : Berth) (k : FaultKind) :
    ((s.fault b k).sync c).pNew = (s.sync c).pNew ∧ ((s.fault b k).sync c).pOld = (s.sync c).pOld :=
  (touches_fault (B := fun _ => True) trivial s (fun _ _ _ => trivial) k).history c

/-! ## The alignment (R84 to R86) -/

theorem countedDisplacement_none {bus : MeasRecord} {tP : Ticks} (h : bus.stale = true ∨ bus.lastCross.l1 = none) :
    countedDisplacement bus tP = none := by
  unfold countedDisplacement
  split
  case h_1 tB htB =>
    rw [if_neg]
    rintro ⟨hs, -⟩
    rcases h with h | h
    · rw [h] at hs
      cases hs
    · rw [h] at htB
      cases htB
  case h_2 => rfl

theorem countedDisplacement_some {bus : MeasRecord} {tP tB : Ticks} (htB : bus.lastCross.l1 = some tB) (hs : bus.stale = false) :
    countedDisplacement bus tP
      = if -(bus.period : Int) < (tP - tB).toInt ∧ (tP - tB).toInt < 2 * (bus.period : Int) then some (tP - tB).toInt else none := by
  unfold countedDisplacement
  rw [htB]
  dsimp only [signedDiff]
  simp only [hs, true_and]

theorem alignmentCrossing_uncounted {bus plug : MeasRecord} {tP : Ticks} {y : SyncRecord}
    (h : y.alignment = .inactive ∨ countedDisplacement bus tP = none) : alignmentCrossing bus plug tP y = (y, none) := by
  unfold alignmentCrossing
  split
  case h_1 => rfl
  case h_2 ha =>
    rw [h.resolve_left (by rw [ha]; decide)]

theorem addAngle_collected (period : Nat) (d : Int) (y : SyncRecord) : (addAngle period d y).collected = y.collected + 1 := rfl

theorem alignmentCrossing_counted {bus plug : MeasRecord} {tP : Ticks} {y : SyncRecord} {d : Int} (ha : y.alignment = .collecting)
    (hd : countedDisplacement bus tP = some d) : alignmentCrossing bus plug tP y
      = if 8 ≤ (addAngle bus.period d y).collected then
          if alignmentPasses plug (addAngle bus.period d y) then
            ({ addAngle bus.period d y with
              alignment := .inactive, cableOffset := some (meanAngle (addAngle bus.period d y)) }, some true)
          else ({ addAngle bus.period d y with alignment := .inactive }, some false)
        else (addAngle bus.period d y, none) := by
  unfold alignmentCrossing
  rw [ha, hd]

theorem alignmentPasses_iff {plug : MeasRecord} {y : SyncRecord} : alignmentPasses plug y = true ↔
    -1500 ≤ meanAngle y ∧ meanAngle y ≤ 1500 ∧ plug.rotation = .ok
      ∧ ∃ v, plug.pointPermille = some v ∧ 900 ≤ v ∧ v ≤ 1100 := by
  unfold alignmentPasses
  cases plug.pointPermille <;> simp [within_iff, and_assoc]

theorem plugCrossing_unjudged {x : SyncRecord} {t : Ticks}
    (h : alignmentCrossing (s.meas (.bus b)) (s.meas (.plug b)) t (s.sync b) = (x, none)) :
    s.plugCrossing b t = s.setSync b (recordPCrossing t x) := by
  unfold State.plugCrossing
  dsimp only
  rw [h]

theorem plugCrossing_passed {x : SyncRecord} {t : Ticks}
    (h : alignmentCrossing (s.meas (.bus b)) (s.meas (.plug b)) t (s.sync b) = (x, some true)) :
    s.plugCrossing b t = (s.setSync b (recordPCrossing t x)).alignmentSuccess b := by
  unfold State.plugCrossing
  dsimp only
  rw [h]

theorem plugCrossing_failed {x : SyncRecord} {t : Ticks}
    (h : alignmentCrossing (s.meas (.bus b)) (s.meas (.plug b)) t (s.sync b) = (x, some false)) :
    s.plugCrossing b t = (s.setSync b (recordPCrossing t x)).fault b .phasing := by
  unfold State.plugCrossing
  dsimp only
  rw [h]

/-- An alignment success keeps every crossing history. -/
theorem alignmentSuccess_history (s : State) (b : Berth) :
    ((s.alignmentSuccess b).sync b).pNew = (s.sync b).pNew ∧ ((s.alignmentSuccess b).sync b).pOld = (s.sync b).pOld := by
  unfold State.alignmentSuccess
  split
  · rw [latchBerth_sync, enterState_sync_self]
    exact syncAtEntry_history _ _ _
  · exact ⟨rfl, rfl⟩

/-- An alignment success keeps the cable offset that it found (R85, R97). -/
theorem alignmentSuccess_sync (s : State) (b : Berth) (ha : (s.sync b).alignment = .inactive) :
    ((s.alignmentSuccess b).sync b).alignment = .inactive ∧ ((s.alignmentSuccess b).sync b).cableOffset = (s.sync b).cableOffset := by
  unfold State.alignmentSuccess
  split
  case isTrue he =>
    rw [latchBerth_sync, enterState_sync_self, he]
    exact ⟨rfl, rfl⟩
  case isFalse => exact ⟨ha, rfl⟩

theorem alignmentSuccess_energising (he : (s.session b).state = .energising) :
    ((s.alignmentSuccess b).session b).state = .connected ∧ (s.alignmentSuccess b).isLatched (.berth b) 2 = true := by
  have h : s.alignmentSuccess b = (s.enterState b .connected).latchBerth b .sessionConnected := if_pos he
  rw [h]
  refine ⟨?_, latchBerth_isLatched_self _ _ .sessionConnected⟩
  rw [latchBerth_session, enterState_session_self]
  rfl

/-- A valid crossing of the plug point joins its history (R86). -/
theorem plugCrossing_history (s : State) (b : Berth) (t : Ticks) :
    ((s.plugCrossing b t).sync b).pNew = some t ∧ ((s.plugCrossing b t).sync b).pOld = (s.sync b).pNew := by
  have hkept : (alignmentCrossing (s.meas (.bus b)) (s.meas (.plug b)) t (s.sync b)).1.pNew = (s.sync b).pNew := by
    unfold alignmentCrossing
    split
    · rfl
    · split
      · rfl
      · dsimp only
        split
        · split <;> rfl
        · rfl
  have hset (x : SyncRecord) : ((s.setSync b (recordPCrossing t x)).sync b) = recordPCrossing t x := setSync_sync_self _ _ _
  have hself : ((s.setSync b (recordPCrossing t (alignmentCrossing (s.meas (.bus b)) (s.meas (.plug b)) t (s.sync b)).1)).sync b).pNew
        = some t
      ∧ ((s.setSync b (recordPCrossing t (alignmentCrossing (s.meas (.bus b)) (s.meas (.plug b)) t (s.sync b)).1)).sync b).pOld
        = (s.sync b).pNew := by
    rw [hset]
    exact ⟨rfl, hkept⟩
  unfold State.plugCrossing
  dsimp only
  split
  · obtain ⟨h1, h2⟩ := alignmentSuccess_history
      (s.setSync b (recordPCrossing t (alignmentCrossing (s.meas (.bus b)) (s.meas (.plug b)) t (s.sync b)).1)) b
    rw [h1, h2]
    exact hself
  · obtain ⟨h1, h2⟩ := fault_history
      (s.setSync b (recordPCrossing t (alignmentCrossing (s.meas (.bus b)) (s.meas (.plug b)) t (s.sync b)).1)) b b .phasing
    rw [h1, h2]
    exact hself
  · exact hself

/-! ## The evaluation (R87, R88) -/

theorem evalPasses_iff {v : SyncEval} : evalPasses v = true ↔ AllWindows v := by
  simp [evalPasses, and_assoc]

theorem notAfter_iff {tS : Ticks} {o : Option Ticks} : notAfter tS o = true ↔ ∃ x, o = some x ∧ 0 ≤ (tS - x).toInt := by
  unfold notAfter signedDiff
  split
  case h_1 x => simp
  case h_2 => simp

theorem pReference_new {tS x : Ticks} {y : SyncRecord} (h : y.pNew = some x) (hx : 0 ≤ (tS - x).toInt) : pReference tS y = some x := by
  rw [pReference, if_pos (notAfter_iff.2 ⟨x, h, hx⟩), h]

theorem pReference_old {tS x : Ticks} {y : SyncRecord} (hn : ¬ ∃ x, y.pNew = some x ∧ 0 ≤ (tS - x).toInt) (h : y.pOld = some x)
    (hx : 0 ≤ (tS - x).toInt) : pReference tS y = some x := by
  rw [pReference, if_neg (fun k => hn (notAfter_iff.1 k)), if_pos (notAfter_iff.2 ⟨x, h, hx⟩), h]

theorem pReference_none {tS : Ticks} {y : SyncRecord} (hn : ¬ ∃ x, y.pNew = some x ∧ 0 ≤ (tS - x).toInt)
    (ho : ¬ ∃ x, y.pOld = some x ∧ 0 ≤ (tS - x).toInt) : pReference tS y = none := by
  rw [pReference, if_neg (fun k => hn (notAfter_iff.1 k)), if_neg (fun k => ho (notAfter_iff.1 k))]

theorem syncInterval_of {plug : MeasRecord} {tS x : Ticks} {y : SyncRecord} (h : pReference tS y = some x) :
    syncInterval plug tS y = if plug.stale = false ∧ (tS - x).toNat < plug.period then some (tS - x).toNat else none := by
  rw [syncInterval, h]

/-- The angles of an evaluation, where its interval is valid and where it is not. -/
theorem syncEvaluation_angles (plug ship : MeasRecord) (sb pb : BreakerRecord) (e : BerthEntry) (fnom : Nat) (t : Ticks) (y : SyncRecord) :
    (∀ d, syncInterval plug t y = some d →
      (syncEvaluation plug ship sb pb e fnom t y).theta = some (syncAngle d plug.period)
        ∧ (syncEvaluation plug ship sb pb e fnom t y).deltaTheta
          = some (advanceAngle ((plug.freq : Int) - ship.freq) (sb.learned + 250))
        ∧ (syncEvaluation plug ship sb pb e fnom t y).thetaPred
          = some (foldAngle (syncAngle d plug.period + advanceAngle ((plug.freq : Int) - ship.freq) (sb.learned + 250)))
        ∧ ((syncEvaluation plug ship sb pb e fnom t y).angleOk = true ↔
          (foldAngle (syncAngle d plug.period + advanceAngle ((plug.freq : Int) - ship.freq) (sb.learned + 250))).natAbs
            ≤ e.closeWindow.toNat))
      ∧ (syncInterval plug t y = none → (syncEvaluation plug ship sb pb e fnom t y).theta = none
        ∧ (syncEvaluation plug ship sb pb e fnom t y).deltaTheta = none
        ∧ (syncEvaluation plug ship sb pb e fnom t y).thetaPred = none
        ∧ (syncEvaluation plug ship sb pb e fnom t y).angleOk = false) := by
  unfold syncEvaluation
  dsimp only
  refine ⟨fun d hd => ?_, fun hd => ?_⟩
  · rw [hd]
    exact ⟨rfl, rfl, rfl, decide_eq_true_iff⟩
  · rw [hd]
    exact ⟨rfl, rfl, rfl, rfl⟩

/-- The angles of an evaluation against its P reference. -/
theorem syncEvaluation_of_reference {plug : MeasRecord} (ship : MeasRecord) (sb pb : BreakerRecord) (e : BerthEntry) (fnom : Nat)
    {t x : Ticks} {y : SyncRecord} (h : pReference t y = some x) :
    let v := syncEvaluation plug ship sb pb e fnom t y
    let gained := advanceAngle ((plug.freq : Int) - ship.freq) (sb.learned + 250)
    let theta := syncAngle (t - x).toNat plug.period
    (plug.stale = false ∧ (t - x).toNat < plug.period → v.theta = some theta ∧ v.deltaTheta = some gained
        ∧ v.thetaPred = some (foldAngle (theta + gained)) ∧ (v.angleOk = true ↔ (foldAngle (theta + gained)).natAbs ≤ e.closeWindow.toNat))
      ∧ (¬ (plug.stale = false ∧ (t - x).toNat < plug.period) → v.theta = none ∧ v.deltaTheta = none ∧ v.thetaPred = none
        ∧ v.angleOk = false) := by
  obtain ⟨hsome, hnone⟩ := syncEvaluation_angles plug ship sb pb e fnom t y
  exact ⟨fun hv => hsome _ ((syncInterval_of h).trans (if_pos hv)), fun hv => hnone ((syncInterval_of h).trans (if_neg hv))⟩

/-! ## The close (R88, R89) -/

/-- The evaluation of a ship crossing. -/
def State.evaluation (s : State) (b : Berth) (t : Ticks) : SyncEval :=
  syncEvaluation (s.meas (.plug b)) (s.meas (.ship b)) (s.breaker (.sb b)) (s.breaker (.pb b)) (s.berthEntry b) (s.osc b).fnom t
    (s.sync b)

theorem shipCrossing_eq (s : State) (b : Berth) (t : Ticks) :
    s.shipCrossing b t = if (s.sync b).attempt = .evaluating then
      if 3 ≤ (afterEvaluation (s.evaluation b t) (s.sync b)).stability then
        (s.setSync b (afterEvaluation (s.evaluation b t) (s.sync b))).issueSyncClose b
      else s.setSync b (afterEvaluation (s.evaluation b t) (s.sync b)) else s := by
  unfold State.shipCrossing
  dsimp only
  rw [setSync_sync_self]
  rfl

theorem afterEvaluation_stability (v : SyncEval) (y : SyncRecord) :
    3 ≤ (afterEvaluation v y).stability ↔ AllWindows v ∧ 2 ≤ y.stability := by
  rw [← evalPasses_iff]
  unfold afterEvaluation
  cases evalPasses v
  · simp
  · simp

theorem afterEvaluation_failed {v : SyncEval} (y : SyncRecord) (h : ¬ AllWindows v) :
    afterEvaluation v y = { y with stability := 0, lastEval := some v } := by
  rw [afterEvaluation, if_neg (fun k => h (evalPasses_iff.1 k))]

theorem afterEvaluation_passed {v : SyncEval} (y : SyncRecord) (h : AllWindows v) :
    afterEvaluation v y = { y with stability := min 3 (y.stability + 1), lastEval := some v } := by
  rw [afterEvaluation, if_pos (evalPasses_iff.2 h)]

theorem issueSyncClose_eq (s : State) (b : Berth) : ∃ r, s.issueSyncClose b = ((s.setBreaker (.sb b) r).setSync b
    { s.sync b with attempt := .closeIssued }).setSession b { s.session b with closeIssued := true } := by
  obtain ⟨r, hr⟩ := closeRequest_eq s (.sb b)
  refine ⟨r, ?_⟩
  unfold State.issueSyncClose State.syncCloseIssued
  rw [hr]
  dsimp only
  rw [setBreaker_sync, setSync_session, setBreaker_session]

theorem issueSyncClose_records (s : State) (b : Berth) : (s.issueSyncClose b).sync b = { s.sync b with attempt := .closeIssued }
    ∧ (s.issueSyncClose b).session b = { s.session b with closeIssued := true } := by
  obtain ⟨r, hr⟩ := issueSyncClose_eq s b
  rw [hr, setSession_sync, setSync_sync_self, setSession_session_self]
  exact ⟨rfl, rfl⟩

theorem issueSyncClose_free (hc : (s.breaker (.sb b)).command = .none) (hs : (s.breaker (.sb b)).status = .open) :
    ((s.issueSyncClose b).breaker (.sb b)).command = .close ∧ ((s.issueSyncClose b).breaker (.sb b)).issue = s.ext := by
  have h : (s.issueSyncClose b).breaker (.sb b) = (s.closeRequest (.sb b)).1.breaker (.sb b) := by
    unfold State.issueSyncClose State.syncCloseIssued
    dsimp only
    rw [setSession_breaker, setSync_breaker]
  have hissue : (s.issueClose (.sb b)).breaker (.sb b) = _ := setBreaker_breaker_self _ _ _
  rw [h, closeRequest_none_open hc hs, hissue]
  exact ⟨rfl, rfl⟩

end

/-- Settles O35: a plug crossing by whether it is counted and by the verdict of the eighth, an evaluation by its P reference, a ship
crossing by the attempt, the windows and the count. -/
theorem syncCloseLaw : Obligations.SyncCloseLaw := by
  refine ⟨fun s b t => ?plug, fun s b t hclose hissued => ?close, fun plug ship sb pb e fnom t y => ?evaluation, fun s b t => ?ship⟩
  case plug =>
    intro y bus u fold
    have huncounted (h : (s.sync b).alignment = .inactive ∨ countedDisplacement bus t = none) : u = s.setSync b y :=
      plugCrossing_unjudged (alignmentCrossing_uncounted h)
    obtain ⟨hnew, hold⟩ := plugCrossing_history s b t
    refine ⟨hnew, hold, fun h => ?_, fun tB htB hcoll hstale => ?_⟩
    · exact huncounted (h.imp_right countedDisplacement_none)
    intro d raw z mean passes
    have hcount := countedDisplacement_some (tP := t) htB hstale
    refine ⟨fun h => huncounted (.inr (hcount.trans (if_neg (by omega)))), fun hlow hhigh => ?_⟩
    have hcross := alignmentCrossing_counted (plug := s.meas (.plug b)) (y := s.sync b) hcoll (hcount.trans (if_pos ⟨hlow, hhigh⟩))
    rw [addAngle_collected] at hcross
    have hpass : alignmentPasses (s.meas (.plug b)) (addAngle bus.period d (s.sync b)) = true ↔ passes := alignmentPasses_iff
    refine ⟨fun h7 => ?_, fun h7 hp => ?_, fun h7 hp => ?_⟩
    · have h8 : ¬ 8 ≤ (s.sync b).collected + 1 := Nat.not_le.2 (Nat.succ_lt_succ h7)
      rw [if_neg h8] at hcross
      exact plugCrossing_unjudged hcross
    · have h8 : 8 ≤ (s.sync b).collected + 1 := Nat.succ_le_succ h7
      rw [if_pos h8, if_pos (hpass.2 hp)] at hcross
      have hu : u = _ := plugCrossing_passed hcross
      obtain ⟨ha, hoffset⟩ := alignmentSuccess_sync (s.setSync b (recordPCrossing t { addAngle bus.period d (s.sync b) with
        alignment := .inactive, cableOffset := some (meanAngle (addAngle bus.period d (s.sync b))) })) b
        (by rw [setSync_sync_self]; rfl)
      rw [hu]
      refine ⟨ha, hoffset.trans (by rw [setSync_sync_self]; rfl), fun he => alignmentSuccess_energising (by rwa [setSync_session])⟩
    · have h8 : 8 ≤ (s.sync b).collected + 1 := Nat.succ_le_succ h7
      rw [if_pos h8, if_neg (fun k => hp (hpass.1 k))] at hcross
      exact plugCrossing_failed hcross
  case close =>
    rw [shipCrossing_eq] at hissued ⊢
    have hsync (x : SyncRecord) : (s.setSync b x).breaker (.sb b) = s.breaker (.sb b) := setSync_breaker _ _ _ _
    by_cases ha : (s.sync b).attempt = .evaluating
    · rw [if_pos ha] at hissued ⊢
      by_cases h3 : 3 ≤ (afterEvaluation (s.evaluation b t) (s.sync b)).stability
      · obtain ⟨hall, h2⟩ := (afterEvaluation_stability _ _).1 h3
        obtain ⟨hy, hr⟩ := issueSyncClose_records (s.setSync b (afterEvaluation (s.evaluation b t) (s.sync b))) b
        rw [if_pos h3, hy, hr]
        exact ⟨ha, h2, hall, rfl, rfl⟩
      · rw [if_neg h3, hsync] at hissued
        exact absurd hissued hclose
    · rw [if_neg ha] at hissued
      exact absurd hissued hclose
  case evaluation =>
    intro v fold before slip advance gained valid angles noAngles
    refine ⟨fun x h hx => syncEvaluation_of_reference ship sb pb e fnom (pReference_new h hx),
      fun hn x h hx => syncEvaluation_of_reference ship sb pb e fnom (pReference_old hn h hx), fun hn ho => ?_, rfl, rfl, ?_, ?_, ?_, ?_,
      ?_, rfl, ?_, ?_⟩
    · refine (syncEvaluation_angles plug ship sb pb e fnom t y).2 ?_
      rw [syncInterval, pReference_none hn ho]
    · exact decide_eq_true_iff
    · change (match plug.pointPermille, ship.pointPermille with
        | some a, some b => decide (((a : Int) - b).natAbs ≤ e.dvMax.toNat)
        | _, _ => false) = true ↔ _
      cases plug.pointPermille <;> cases ship.pointPermille <;> simp
    · rintro rfl
      exact within_iff
    · rintro rfl
      exact within_iff
    · exact beq_iff_eq
    · change (sb.command == .none && sb.status == .open) = true ↔ _
      simp
    · exact beq_iff_eq
  case ship =>
    dsimp only
    rw [show syncEvaluation _ _ _ _ _ _ _ _ = s.evaluation b t from rfl, shipCrossing_eq]
    refine ⟨fun ha => if_neg ha, fun ha hw => ?_, fun ha hw h2 => ?_, fun ha hw h2 => ?_⟩
    · rw [if_pos ha, if_neg (fun h3 => hw ((afterEvaluation_stability _ _).1 h3).1), afterEvaluation_failed _ hw]
    · rw [if_pos ha, if_neg (fun h3 => absurd ((afterEvaluation_stability _ _).1 h3).2 (by omega)), afterEvaluation_passed _ hw,
        Nat.min_eq_right (by omega)]
    · have hfree : (s.evaluation b t).sbFree = true := hw.2.2.2.2.2.2.1
      simp only [State.evaluation, syncEvaluation, Bool.and_eq_true, beq_iff_eq] at hfree
      rw [if_pos ha, if_pos ((afterEvaluation_stability _ _).2 ⟨hw, h2⟩), afterEvaluation_passed _ hw, Nat.min_eq_left (by omega)]
      have hbreaker (x : SyncRecord) : (s.setSync b x).breaker (.sb b) = s.breaker (.sb b) := setSync_breaker _ _ _ _
      obtain ⟨hy, hr⟩ := issueSyncClose_records
        (s.setSync b { s.sync b with stability := 3, lastEval := some (s.evaluation b t) }) b
      obtain ⟨hc, hi⟩ := issueSyncClose_free
        (s := s.setSync b { s.sync b with stability := 3, lastEval := some (s.evaluation b t) }) (b := b)
        (by rw [hbreaker]; exact hfree.1) (by rw [hbreaker]; exact hfree.2)
      refine ⟨hc, hi, ?_, ?_⟩
      · rw [hy, setSync_sync_self]
      · rw [hr, setSync_session]

end Sys2Proof.Machine

/-! PROOFS. The statements about the command queue, the reset line and the ring (01): a step, the reset state, the first cycle frame, an
emission, frames passed on or removed, node health and ring continuity. -/

namespace Sys2Proof.Machine

open Sys2Proof

section
variable {s : State}

/-! ## The command of an event -/

/-- The command of a due event runs the event on the state in which it is due no longer. -/
theorem next_event {d : Due} (h : DueNow s d) :
    (Host.Outcome.next (s.eventCommand d) : Host.Outcome State Fault Refusal) = .next ((s.without d).runDue false d) :=
  congrArg Host.Outcome.next (eventCommand_of_due h)

/-- Settles O1: a step by what the queue holds. -/
theorem stepRunsFront : Obligations.StepRunsFront := by
  refine ⟨fun c l s h => ?_, fun s h => ?_⟩
  · unfold step
    rw [h]
    rfl
  · unfold step
    rw [h]

/-! ## The reset state -/

theorem reset_health (n : NodeIx) : State.reset.health n = Health.reset := vget_replicate _ _
theorem reset_module (m : ModuleId) : State.reset.module m = ModuleRecord.reset := vget_replicate _ _
theorem reset_sync (b : Berth) : State.reset.sync b = SyncRecord.reset := vget_replicate _ _
theorem reset_superv (b : Berth) : State.reset.superv b = Supervision.reset := vget_replicate _ _
theorem reset_meter (b : Berth) : State.reset.meter b = Meter.reset := vget_replicate _ _
theorem reset_nodeEntry (n : NodeIx) : State.reset.nodeEntry n = NodeEntry.reset := vget_replicate _ _
theorem reset_berthEntry (b : Berth) : State.reset.berthEntry b = BerthEntry.reset := vget_replicate _ _

theorem reset_meas (p : Point) : State.reset.meas p = MeasRecord.reset := by
  cases p
  case incomer => rfl
  all_goals exact vget_replicate _ _

theorem marks_clear_get (c : Scope) : Marks.clear.get c = 0 := by
  cases c
  case station => rfl
  case berth b => exact vget_replicate _ _

/-- Settles O2: each block's records are copies of its reset record. -/
theorem resetState : Obligations.ResetState := by
  refine ⟨⟨rfl, rfl, rfl, rfl, rfl, rfl, rfl, rfl, rfl, rfl, reset_health⟩, fun p => ?_, fun m => ?_, ⟨rfl, rfl, rfl, rfl, rfl⟩,
    fun k => ?_, fun b => ?_, fun b => ?_, ⟨rfl, rfl, rfl, rfl⟩, fun b => ?_,
    ⟨rfl, rfl, rfl, fun i => vget_replicate _ _, fun i => vget_replicate _ _, rfl, rfl, rfl⟩, fun b => ?_, ⟨rfl, rfl, rfl⟩,
    ⟨rfl, rfl, rfl, rfl, rfl, fun n => ?_, fun b => ?_⟩, ⟨rfl, rfl, rfl, rfl, rfl, fun c => ⟨marks_clear_get c, marks_clear_get c⟩⟩⟩
  · rw [reset_meas]
    exact ⟨rfl, rfl, rfl, rfl, rfl, rfl, rfl, rfl, rfl, rfl, rfl, rfl, rfl, rfl, rfl, rfl, rfl, rfl, rfl, rfl⟩
  · rw [reset_module]
    exact ⟨rfl, rfl, rfl, rfl, rfl, rfl, rfl, rfl, rfl, rfl, rfl, rfl, rfl, rfl, rfl⟩
  · rw [reset_breaker]
    exact ⟨rfl, rfl, rfl, rfl, rfl, rfl, rfl, rfl, rfl, rfl, rfl, rfl⟩
  · rw [reset_sync]
    exact ⟨rfl, rfl, rfl, rfl, rfl, rfl, rfl, rfl, rfl, rfl⟩
  · rw [reset_session]
    exact ⟨rfl, rfl, rfl, rfl, rfl, rfl, rfl, rfl, rfl, rfl, rfl, rfl, rfl, rfl⟩
  · rw [reset_superv]
    exact ⟨rfl, rfl, rfl, rfl, rfl, rfl, rfl, rfl, rfl, rfl, rfl, rfl, rfl, rfl, rfl⟩
  · rw [reset_meter]
    exact ⟨rfl, rfl, rfl, rfl, rfl, rfl, rfl, rfl, rfl, rfl, rfl, rfl, rfl⟩
  · rw [reset_nodeEntry]
    rfl
  · rw [reset_berthEntry]
    rfl

/-! ## An emission (R3, R10, R185) -/

/-- The frames that an emission inserts behind its cycle frame. -/
def State.inserted (s : State) : List RingFrame :=
  (s.mrh.responses.take 2).map (responseFrame s.rif.cycle)
    ++ (s.mrh.notices.take (2 - min 2 s.mrh.responses.length)).map s.noticeFrame

theorem emission_ringOut (s : State) : s.emission.ringOut = s.ringOut ++ s.cycleFrame :: s.inserted := by
  unfold State.inserted
  rw [← List.length_take]
  rfl

theorem inserted_length (s : State) : s.inserted.length ≤ 2 := by
  simp only [State.inserted, List.length_append, List.length_map, List.length_take]
  omega

/-- Settles O5: the insertion queue and the two lists it is filled from, field by field. -/
theorem emissionInsertsTwo : Obligations.EmissionInsertsTwo := by
  intro s
  refine ⟨emission_ringOut s, rfl, ?_, rfl, ?_, fun r => ⟨rfl, rfl, rfl, rfl⟩, fun n => ⟨rfl, rfl, rfl, rfl⟩⟩
  · rw [← List.length_take]
    rfl
  · rw [← List.length_drop]
    rfl

/-- What an emission keeps: every block but the Management Request Handler, and of the Ring Interface all but the insertion queue. -/
theorem emission_kept (s : State) : SameBlocks s s.emission ∧ s.emission.rif = { s.rif with insertion := [] }
    ∧ s.emission.due = s.due := ⟨⟨rfl, rfl, rfl, rfl, rfl, rfl, rfl, rfl, rfl⟩, rfl, rfl⟩

/-! ## The reset line and the first cycle frame (R16) -/

theorem exec_firstCycleFrame (h : Settled s) (hs : s.rif.started = false) : exec .firstCycleFrame s
    = .next ({ s.quiet with rif := { s.rif with started := true, cycleOperate := s.operating } } : State).emission := by
  have hf : s.quiet.firstFrame = ({ s.quiet with rif := { s.rif with started := true, cycleOperate := s.operating } } : State).emission :=
    if_neg (by simp [State.quiet, hs])
  exact congrArg Host.Outcome.next ((outside_of_settled h State.firstFrame).trans hf)

/-- A part held in reset takes nothing but the release (R16). -/
theorem exec_of_held (h : s.resetHeld = true) {c : Instr} (hc : c ≠ .resetRelease) : exec c s = .next { s with ringOut := [] } := by
  have hin (f : State → State) : (Host.Outcome.next (s.inside f) : Host.Outcome State Fault Refusal) = .next s.quiet :=
    congrArg Host.Outcome.next (inside_of_held h f)
  have hout (f : State → State) : (Host.Outcome.next (s.outside f) : Host.Outcome State Fault Refusal) = .next s.quiet :=
    congrArg Host.Outcome.next (outside_of_held h f)
  cases c
  case resetAssert =>
    have : { s.quiet with resetHeld := true } = s.quiet := by rw [← h]; rfl
    exact congrArg Host.Outcome.next this
  case resetRelease => exact absurd rfl hc
  case cycleBoundary | cycReturn | ownFrameReturn | foreignFrame | corruptFrame | smpDelivery | modDelivery | brkDelivery | siuDelivery
    | requestFrame | firstCycleFrame => exact hout _
  all_goals exact hin _

/-- Settles O3: the reset line's commands by their meanings, the first cycle frame by the emission that it is. -/
theorem resetAndFirstFrame : Obligations.ResetAndFirstFrame := by
  refine ⟨⟨fun s => rfl, fun s => rfl, fun c s h hc => exec_of_held h hc⟩, fun s h hs => ?_, ?_⟩
  · refine ⟨_, exec_firstCycleFrame h hs, rfl, (emission_kept _).1, _, emission_ringOut _, inserted_length _⟩
  · refine ⟨_, exec_firstCycleFrame (s := State.reset) ⟨rfl, rfl, rfl⟩ rfl, ?_⟩
    dsimp only
    rw [emission_ringOut]
    rfl

/-! ## Frames passed on (R1, R4) -/

theorem arrive_cut {f : Arrival} (hf : f.whole = false) (o : DeliveryOrder) (x : BitVec 4) : s.arrive o x f = s :=
  if_neg (by simp [hf])

theorem arrive_foreign {f : Arrival} {x : BitVec 4} (hf : f.whole = true) (hx : 8 ≤ x.toNat) (o : DeliveryOrder) :
    s.arrive o x f = s.send [arrivalFrame x f] := by
  unfold State.arrive
  rw [if_pos hf]
  exact if_pos hx

theorem arrive_known {f : Arrival} {x : BitVec 4} (hf : f.whole = true) (hx : x.toNat < 8) (o : DeliveryOrder) :
    s.arrive o x f = s.checkFrame o (kindOf (x.setWidth 3)) (arrivalFrame x f) := by
  unfold State.arrive
  rw [if_pos hf]
  exact if_neg (Nat.not_le.2 hx)

theorem checkFrame_corrupt {k : FrameKind} {f : RingFrame} (h : checksGood k f = false) (o : DeliveryOrder) :
    s.checkFrame o k f = s.send [f] := if_neg (by simp [h])

/-- The nibble with which a kind arrives. -/
def arrivalOrder (k : FrameKind) (o : DeliveryOrder) : DeliveryOrder :=
  match k with
  | .mod | .brk | .siu => o
  | .cyc | .smp | .mrq | .mrs | .evn => plainOrder

theorem exec_arrival (k : FrameKind) (o : DeliveryOrder) (f : Arrival) (s : State) :
    exec (arrivalCommand k o f) s = .next (s.frameCommand (arrivalOrder k o) (nibbleOf k) f) := by
  cases k <;> rfl

/-- A frame's command on a settled part (R4). -/
theorem exec_arrival_of_settled (h : Settled s) (k : FrameKind) (o : DeliveryOrder) (f : Arrival) :
    exec (arrivalCommand k o f) s = .next (s.quiet.arrive (arrivalOrder k o) (nibbleOf k) f) := by
  rw [exec_arrival, frameCommand_of_settled h]

theorem exec_foreignFrame (h : Settled s) (x : BitVec 3) (f : Arrival) :
    exec (.foreignFrame x f) s = .next (s.quiet.arrive plainOrder (8 ||| x.setWidth 4) f) :=
  congrArg Host.Outcome.next (frameCommand_of_settled h _ _ _)

theorem exec_corruptFrame (h : Settled s) (x : BitVec 3) (f : Arrival) :
    exec (.corruptFrame x f) s = .next (s.quiet.arrive plainOrder (x.setWidth 4) f) :=
  congrArg Host.Outcome.next (frameCommand_of_settled h _ _ _)

theorem foreignNibble : ∀ x : BitVec 3, 8 ≤ ((8 : BitVec 4) ||| x.setWidth 4).toNat := by decide

theorem kindNibble : ∀ x : BitVec 3, (x.setWidth 4 : BitVec 4).toNat < 8 ∧ (x.setWidth 4 : BitVec 4).setWidth 3 = x := by decide

/-- Settles O6: an arrival by whether it is whole, whether its kind is known and whether its checks are good. -/
theorem framesPassedOn : Obligations.FramesPassedOn := by
  refine ⟨fun s f k o x h hf => ⟨?_, ?_, ?_⟩, fun s f x h hf => ⟨?_, fun hbad => ?_⟩⟩
  · rw [exec_arrival_of_settled h, arrive_cut hf]
    rfl
  · rw [exec_foreignFrame h, arrive_cut hf]
    rfl
  · rw [exec_corruptFrame h, arrive_cut hf]
    rfl
  · rw [exec_foreignFrame h, arrive_foreign hf (foreignNibble x)]
    rfl
  · obtain ⟨hx, hk⟩ := kindNibble x
    rw [exec_corruptFrame h, arrive_known hf hx, hk, checkFrame_corrupt hbad]
    rfl

/-! ## Frames with good checks (R5) -/

theorem kindOf_nibbleOf (k : FrameKind) : kindOf ((nibbleOf k).setWidth 3) = k := by cases k <;> decide

theorem nibbleOf_lt (k : FrameKind) : (nibbleOf k).toNat < 8 := by cases k <;> decide

/-- A good frame in a running cycle is surveyed and its source checked (R4, R15). -/
theorem arrive_good {k : FrameKind} {f : Arrival} (h : GoodFrame s k f) (o : DeliveryOrder) :
    s.arrive o (nibbleOf k) f
      = (s.survey k (arrivalFrame (nibbleOf k) f)).checkSource o k (arrivalFrame (nibbleOf k) f) := by
  obtain ⟨hs, hw, hc⟩ := h
  rw [arrive_known hw (nibbleOf_lt k), kindOf_nibbleOf]
  unfold State.checkFrame
  rw [if_pos hc, if_pos hs]

/-- A survey changes the current survey set alone. -/
theorem survey_eq (s : State) (k : FrameKind) (f : RingFrame) : ∃ l, s.survey k f = { s with rif := { s.rif with current := l } } := by
  unfold State.survey
  split
  · exact ⟨_, rfl⟩
  · exact ⟨s.rif.current, rfl⟩

/-- The part's own frames are of no source that the survey counts. -/
theorem survey_own {k : FrameKind} {f : RingFrame} (h : f.source = 0) : s.survey k f = s := by
  unfold State.survey
  rw [h]
  rfl

theorem exec_own {k : FrameKind} {o : DeliveryOrder} {f : Arrival} (h : Settled s) (hg : GoodFrame s k f) (h0 : f.source = 0) :
    exec (arrivalCommand k o f) s = .next (s.quiet.ownReturn k (arrivalFrame (nibbleOf k) f)) := by
  have hgood : GoodFrame s.quiet k f := hg
  rw [exec_arrival_of_settled h, arrive_good hgood, survey_own h0]
  exact congrArg Host.Outcome.next (if_pos h0)

/-- Settles O7: the part's own frames by their kind. -/
theorem ownFrameReturn : Obligations.OwnFrameReturn := by
  refine ⟨fun s f h hg h0 => ?_, fun s f h hg h0 => ?_, fun s f h hg h0 => ?_⟩
  · refine (exec_own (k := .cyc) (o := plainOrder) h hg h0).trans (congrArg Host.Outcome.next ?_)
    unfold State.ownReturn
    by_cases hc : f.cycle = s.rif.cycle
    · rw [if_pos ⟨rfl, hc⟩, beq_iff_eq.2 hc, Bool.or_true]
      rfl
    · rw [if_neg (fun k => hc k.2), beq_eq_false_iff_ne.2 hc, Bool.or_false]
      rfl
  · exact (exec_own (k := .mrs) (o := plainOrder) h hg h0).trans (congrArg Host.Outcome.next (if_neg (by simp)))
  · exact (exec_own (k := .evn) (o := plainOrder) h hg h0).trans (congrArg Host.Outcome.next (if_neg (by simp)))

/-! ## Node health and ring continuity (R11, R12, R14) -/

/-- Settles O15: the two events by their own tests, the counting by the ring state. -/
theorem ringContinuity : Obligations.RingContinuity := by
  refine ⟨fun s h hr hm => ?_, fun s h hr hm => ?_, fun r h => ?_, fun r h => ?_⟩
  · exact (next_event h).trans (congrArg Host.Outcome.next (if_pos ⟨hr, hm⟩))
  · exact (next_event h).trans (congrArg Host.Outcome.next (if_pos ⟨hr, hm⟩))
  · unfold concludeContinuity
    rw [h]
  · unfold concludeContinuity
    rw [h]

/-- A node's record after the turn of a cycle. -/
theorem turnCycle_health (s : State) (n : NodeIx) :
    s.turnCycle.health n = concludeHealth s.operating (s.nodeEntry n) { s.health n with delivered := s.rif.present n } := by
  have hkept (r : Rif) : (closeSurvey (concludeContinuity r)).health = r.health := by
    unfold concludeContinuity closeSurvey
    split <;> rfl
  have hturn : s.turnCycle.rif.health
      = vmapIx (fun n h => concludeHealth s.operating (s.nodeEntry n) { h with delivered := s.rif.present n }) s.rif.health :=
    hkept s.concludeHealths.rif
  unfold State.health
  rw [hturn, vget_vmapIx]

theorem concludeHealth_counted {e : NodeEntry} (he : countedRole e = true) (h : Health) :
    (concludeHealth true e h).counter = if h.delivered then h.counter - 1 else min e.limit.toNat (h.counter + 2) := by
  unfold concludeHealth healthCounter
  rw [he]
  rfl

theorem nodeLost_lost {n : NodeIx} (hop : s.operating = true) (he : countedRole (s.nodeEntry n) = true) (hl : (s.health n).lost = false)
    (hc : (s.nodeEntry n).limit.toNat ≤ (s.health n).counter) :
    s.nodeLost n = ((s.setHealth n { s.health n with lost := true }).latchStation .nodeLost).presentLoss (s.nodeEntry n) := by
  unfold State.nodeLost
  exact if_pos (by simp [hop, he, hl, hc])

theorem nodeRecovered_recovered {n : NodeIx} (hop : s.operating = true) (he : countedRole (s.nodeEntry n) = true)
    (hl : (s.health n).lost = true) (hc : (s.health n).counter = 0) :
    s.nodeRecovered n
      = ((s.setHealth n { s.health n with lost := false }).latchStation .nodeRecovered).presentRecovery (s.nodeEntry n) := by
  unfold State.nodeRecovered
  exact if_pos (by simp [hop, he, hl, hc])

/-- Settles O14: a record by whether its node is counted and delivered, the events by their tests, a loss by its role. -/
theorem nodeHealth : Obligations.NodeHealth := by
  refine ⟨⟨fun e h he => ⟨concludeHealth_counted he h, rfl, rfl⟩, fun e h w hn => ?_, rfl, fun s n hop he => ?_⟩,
    fun s n h hop he hl hc => ?_, fun s n h hop he hl hc => ?_, fun s e b hb => ⟨fun hr => ?_, fun hr => ?_, fun hr => ?_⟩⟩
  · unfold concludeHealth
    rw [if_neg (by rcases hn with h | h <;> simp [h])]
  · rw [turnCycle_health, hop, concludeHealth_counted he]
    refine ⟨fun hp => if_pos ?_, fun h1 h2 h3 => if_neg ?_⟩
    · simp only [Rif.present, Bool.or_eq_true, or_assoc]
      exact hp
    · simp only [Rif.present, Bool.or_eq_true, not_or, Bool.not_eq_true]
      exact ⟨⟨h1, h2⟩, h3⟩
  · exact (next_event h).trans (congrArg Host.Outcome.next (nodeLost_lost hop he hl hc))
  · exact (next_event h).trans (congrArg Host.Outcome.next (nodeRecovered_recovered hop he hl hc))
  all_goals
    unfold State.presentLoss
    rw [hr, hb]

end
end Sys2Proof.Machine

/-! PROOFS. The statements about deliveries and the cycle boundary (01, 02): what a point cycle leaves of the ring and of the other
points, a frame that passes the source check, and the turn of a cycle. -/

namespace Sys2Proof.Machine

open Sys2Proof

section
variable {s t : State} {k : FrameKind} {o : DeliveryOrder} {f : Arrival} {n : NodeIx}

/-! ## A point cycle -/

/-- The ring output, the Ring Interface and the Configuration Store. -/
def port (s : State) : List RingFrame × Rif × Cfs := (s.ringOut, s.rif, s.cfs)

theorem port_of_outer (h : outer t = outer s) : port t = port s :=
  (congrArg port h :)

theorem ringOut_of_port (h : port t = port s) : t.ringOut = s.ringOut := congrArg Prod.fst h
theorem rif_of_port (h : port t = port s) : t.rif = s.rif := congrArg (fun x => x.2.1) h
theorem cfs_of_port (h : port t = port s) : t.cfs = s.cfs := congrArg (fun x => x.2.2) h

theorem port_foldl {ι : Type} {g : State → ι → State} (hg : ∀ t i, port (g t i) = port t) (l : List ι) (s : State) :
    port (l.foldl g s) = port s := by
  induction l generalizing s with
  | nil => rfl
  | cons i l ih => exact (ih _).trans (hg s i)

/-- A point's record after its point cycle, and what is due then. -/
def State.sampled (s : State) (p : Point) (n : Ext) (e : NodeEntry) (x : Option (Tri Int × Tri Int)) : State :=
  let r := (pointCycle p n e (s.pointVnom p) x (s.meas p)).record
  if timeoutReached r then (s.setMeas p r).addDueOnce (.noCrossingTimeout p) else s.setMeas p r

theorem addDueOnce_eq (s : State) (d : Due) : ∃ l, s.addDueOnce d = { s with due := l } := by
  unfold State.addDueOnce
  split
  · exact ⟨s.due, rfl⟩
  · exact ⟨_, rfl⟩

theorem sampled_eq (s : State) (p : Point) (n : Ext) (e : NodeEntry) (x : Option (Tri Int × Tri Int)) : ∃ l,
    s.sampled p n e x = { s.setMeas p (pointCycle p n e (s.pointVnom p) x (s.meas p)).record with due := l } := by
  unfold State.sampled
  dsimp only
  split
  · exact addDueOnce_eq _ _
  · exact ⟨_, rfl⟩

/-- The presentations of a point cycle touch neither the ring nor the front end (R32). -/
theorem runCycle_outer (s : State) (p : Point) (n : Ext) (e : NodeEntry) (x : Option (Tri Int × Tri Int)) :
    outer (s.runCycle p n e x) = outer (s.sampled p n e x) := by
  unfold State.runCycle
  refine (presentEveryCycle_outer _ _ _ _).trans ?_
  split
  · exact presentCrossing_outer _ _ _ _
  · rfl

theorem setMeas_port (s : State) (p : Point) (r : MeasRecord) : port (s.setMeas p r) = port s := by cases p <;> rfl

theorem runCycle_port (s : State) (p : Point) (n : Ext) (e : NodeEntry) (x : Option (Tri Int × Tri Int)) :
    port (s.runCycle p n e x) = port s := by
  obtain ⟨l, h⟩ := sampled_eq s p n e x
  refine (port_of_outer (runCycle_outer s p n e x)).trans ?_
  rw [h]
  exact setMeas_port s p _

theorem meas_of_mfe (h : t.mfe = s.mfe) (p : Point) : t.meas p = s.meas p := by
  unfold State.meas
  rw [h]

/-- A point cycle writes the record of its point alone (R20). -/
theorem runCycle_meas (s : State) (p q : Point) (n : Ext) (e : NodeEntry) (x : Option (Tri Int × Tri Int)) :
    (s.runCycle p n e x).meas q
      = if q = p then (pointCycle p n e (s.pointVnom p) x (s.meas p)).record else s.meas q := by
  obtain ⟨l, h⟩ := sampled_eq s p n e x
  have hs : (s.sampled p n e x).meas q = (s.setMeas p (pointCycle p n e (s.pointVnom p) x (s.meas p)).record).meas q :=
    meas_of_mfe (by rw [h]) q
  rw [meas_of_mfe (mfe_of_outer (runCycle_outer s p n e x)), hs, setMeas_meas_eq]

theorem undeliveredCycles_port (s : State) : port s.undeliveredCycles = port s := by
  unfold State.undeliveredCycles
  split
  · refine port_foldl (fun t p => ?_) _ _
    unfold State.undelivered
    split
    · split
      · rfl
      · exact runCycle_port _ _ _ _ _
    · rfl
  · rfl

/-! ## The cycle boundary (R2) -/

theorem concludeContinuity_kept (r : Rif) : (concludeContinuity r).cycle = r.cycle ∧ (concludeContinuity r).ext = r.ext
    ∧ (concludeContinuity r).current = r.current := by
  unfold concludeContinuity
  split <;> exact ⟨rfl, rfl, rfl⟩

theorem turnCycle_rif (s : State) :
    s.turnCycle.rif = openCycle s.operating (closeSurvey (concludeContinuity s.concludeHealths.rif)) := rfl

theorem openCycle_counters (w : Bool) (r : Rif) : (openCycle w r).cycle = r.cycle + 1 ∧ (openCycle w r).ext = r.ext + 1
    ∧ (openCycle w r).returned = false ∧ (openCycle w r).taken = Vector.replicate 31 false
    ∧ (openCycle w r).previous = r.previous ∧ (openCycle w r).current = r.current := ⟨rfl, rfl, rfl, rfl, rfl, rfl⟩

theorem closeSurvey_kept (r : Rif) : (closeSurvey r).cycle = r.cycle ∧ (closeSurvey r).ext = r.ext
    ∧ (closeSurvey r).previous = r.current ∧ (closeSurvey r).current = [] := ⟨rfl, rfl, rfl, rfl⟩

theorem concludeHealths_kept (s : State) : s.concludeHealths.rif.cycle = s.rif.cycle ∧ s.concludeHealths.rif.ext = s.rif.ext
    ∧ s.concludeHealths.rif.current = s.rif.current := by
  unfold State.concludeHealths
  exact ⟨rfl, rfl, rfl⟩

/-- The Ring Interface at the opening of a cycle (R2, R15). -/
theorem turnCycle_counters (s : State) : s.turnCycle.rif.cycle = s.rif.cycle + 1 ∧ s.turnCycle.rif.ext = s.rif.ext + 1
    ∧ s.turnCycle.rif.previous = s.rif.current ∧ s.turnCycle.rif.current = [] ∧ s.turnCycle.rif.returned = false
    ∧ s.turnCycle.rif.taken = Vector.replicate 31 false := by
  obtain ⟨a1, a2, a3⟩ := concludeHealths_kept s
  obtain ⟨b1, b2, b3⟩ := concludeContinuity_kept s.concludeHealths.rif
  obtain ⟨c1, c2, c3, c4⟩ := closeSurvey_kept (concludeContinuity s.concludeHealths.rif)
  obtain ⟨d1, d2, d3, d4, d5, d6⟩ := openCycle_counters s.operating (closeSurvey (concludeContinuity s.concludeHealths.rif))
  rw [turnCycle_rif]
  exact ⟨by rw [d1, c1, b1, a1], by rw [d2, c2, b2, a2], by rw [d5, c3, b3, a3], by rw [d6, c4], d3, d4⟩

theorem countOperate_ring (s : State) : s.countOperate.rif = s.rif ∧ s.countOperate.ringOut = s.ringOut := ⟨rfl, rfl⟩
theorem countConfig_ring (s : State) : s.countConfig.rif = s.rif ∧ s.countConfig.ringOut = s.ringOut := ⟨rfl, rfl⟩
theorem countAlways_ring (s : State) : s.countAlways.rif = s.rif ∧ s.countAlways.ringOut = s.ringOut := ⟨rfl, rfl⟩

theorem counted_ring (s : State) : s.counted.rif = s.rif ∧ s.counted.ringOut = s.ringOut := by
  obtain ⟨h1, h2⟩ := countAlways_ring s
  obtain ⟨k1, k2⟩ := countOperate_ring s.countAlways
  obtain ⟨l1, l2⟩ := countConfig_ring s.countAlways
  unfold State.counted
  split
  · exact ⟨k1.trans h1, k2.trans h2⟩
  · exact ⟨l1.trans h1, l2.trans h2⟩

theorem boundaryWork_rif (s : State) : s.boundaryWork.rif = s.undeliveredCycles.turnCycle.rif := by
  unfold State.boundaryWork
  dsimp only
  exact (counted_ring _).1

theorem turnCycle_ringOut (s : State) : s.turnCycle.ringOut = s.ringOut := by
  unfold State.turnCycle State.concludeHealths
  rfl

theorem boundaryWork_ringOut (s : State) : s.boundaryWork.ringOut = s.ringOut := by
  unfold State.boundaryWork
  dsimp only
  exact (counted_ring _).2.trans ((turnCycle_ringOut _).trans (ringOut_of_port (undeliveredCycles_port s)))

theorem boundary_now (s : State) : s.boundary false = s.boundaryWork.emission := by
  unfold State.boundary
  dsimp only
  rw [if_neg (by decide)]

theorem boundary_deferred (s : State) : s.boundary true = { s.boundaryWork with due := .emission :: s.boundaryWork.due } := by
  unfold State.boundary
  dsimp only
  rw [if_pos rfl]

theorem health_of_rif {t : State} {r : Rif} (h : t.rif.health = r.health) (n : NodeIx) : t.health n = vget r.health n :=
  congrArg (fun v => vget v n) h

/-- Settles O4: the turn of the cycle keeps to the Ring Interface, the point cycles before it and the counting after it keep off. -/
theorem cycleBoundary : Obligations.CycleBoundary := by
  intro s d h hs
  refine ⟨_, exec_cycleBoundary_of_settled h hs d, ?_⟩
  have hport : port s.quiet.undeliveredCycles = port s.quiet := undeliveredCycles_port s.quiet
  have hrif : s.quiet.undeliveredCycles.rif = s.rif := (rif_of_port hport).trans rfl
  obtain ⟨h1, h2, h3, h4, h5, h6⟩ := turnCycle_counters s.quiet.undeliveredCycles
  rw [hrif] at h1 h2 h3
  have hwork := boundaryWork_rif s.quiet
  have hdelivered {r : Rif} (hr : r.health = s.quiet.undeliveredCycles.turnCycle.rif.health) (i : NodeIx) :
      (vget r.health i).delivered = false := by
    have := turnCycle_health s.quiet.undeliveredCycles i
    unfold State.health at this
    rw [hr, this]
    rfl
  have htaken (i : NodeIx) : vget s.quiet.undeliveredCycles.turnCycle.rif.taken i = false := by
    rw [h6]
    exact vget_replicate _ _
  cases d
  · obtain ⟨-, hemit, -⟩ := emission_kept s.quiet.boundaryWork
    have hout := emission_ringOut s.quiet.boundaryWork
    rw [boundaryWork_ringOut] at hout
    dsimp only
    rw [boundary_now, hemit, hwork]
    refine ⟨h1, h2, h3, h4, h5, htaken, fun i => ?_, fun _ => ⟨_, _, hout, inserted_length _, rfl, rfl, ?_⟩, fun hd => (nomatch hd)⟩
    · rw [health_of_rif (r := s.quiet.boundaryWork.rif) (by rw [hemit])]
      exact hdelivered (by rw [hwork]) i
    · exact (congrArg Rif.cycle hwork).trans h1
  · dsimp only
    rw [boundary_deferred]
    dsimp only
    rw [hwork]
    refine ⟨h1, h2, h3, h4, h5, htaken, fun i => ?_, fun hd => (nomatch hd), fun _ => ⟨boundaryWork_ringOut s.quiet, rfl⟩⟩
    exact hdelivered rfl i

/-! ## The source check (R5, R7) -/

/-- The state in which a good frame meets the source check: nothing sent, the frame surveyed. -/
def State.surveyed (s : State) (k : FrameKind) (f : Arrival) : State := s.quiet.survey k (arrivalFrame (nibbleOf k) f)

theorem surveyed_eq (s : State) (k : FrameKind) (f : Arrival) :
    ∃ l, s.surveyed k f = { s with ringOut := [], rif := { s.rif with current := l } } := survey_eq s.quiet k _

theorem exec_good (h : Settled s) (hg : GoodFrame s k f) (o : DeliveryOrder) : exec (arrivalCommand k o f) s
    = .next ((s.surveyed k f).checkSource (arrivalOrder k o) k (arrivalFrame (nibbleOf k) f)) := by
  have hgood : GoodFrame s.quiet k f := hg
  rw [exec_arrival_of_settled h, arrive_good hgood]
  rfl

theorem matchingNode_surveyed (s : State) (k : FrameKind) (f : Arrival) (a : Byte) :
    (s.surveyed k f).matchingNode k a = s.matchingNode k a := by
  obtain ⟨l, h⟩ := surveyed_eq s k f
  rw [h]
  rfl

/-- A node matches a kind that units send, and no other. -/
theorem hasUnit_of_matchingNode {a : Byte} (h : s.matchingNode k a = some n) :
    ∃ r, roleOf (s.nodeEntry n).role = some r ∧ roleMatches k r = true := by
  unfold State.matchingNode at h
  split at h
  case h_1 m _ =>
    split at h
    case h_1 r hr =>
      split at h
      case isTrue hm => exact ⟨r, (Option.some.inj h) ▸ hr, hm⟩
      case isFalse => cases h
    case h_2 => cases h
  case h_2 => cases h

theorem ne_mrq_of_matchingNode {a : Byte} (h : s.matchingNode k a = some n) : k ≠ .mrq := by
  obtain ⟨r, -, hm⟩ := hasUnit_of_matchingNode h
  rintro rfl
  cases hm

theorem checkSource_unknown {g : RingFrame} (h0 : g.source ≠ 0) (hk : k ≠ .mrq) (hm : s.matchingNode k g.source = none) :
    s.checkSource o k g = s.unknownSource k g := by
  unfold State.checkSource
  rw [if_neg h0, if_neg hk, hm]

theorem checkSource_matched {g : RingFrame} (h0 : g.source ≠ 0) (hm : s.matchingNode k g.source = some n) :
    s.checkSource o k g = s.passedSource o k n g := by
  unfold State.checkSource
  rw [if_neg h0, if_neg (ne_mrq_of_matchingNode hm), hm]

/-- A command section is written from the owners' blocks and the tables alone. -/
theorem forwarded_surveyed (s : State) (x : FrameKind) (f : Arrival) (k : FrameKind) (a : Byte) (g : RingFrame) :
    (s.surveyed x f).forwarded k a g = s.forwarded k a g := by
  obtain ⟨l, h⟩ := surveyed_eq s x f
  rw [h]
  cases k <;> rfl

/-- A late or duplicate frame is only forwarded (R7). -/
theorem exec_unused (h : Settled s) (hg : GoodFrame s k f) (h0 : f.source ≠ 0) (hm : s.matchingNode k f.source = some n)
    (hlate : f.cycle ≠ s.rif.cycle ∨ vget s.rif.taken n = true) : exec (arrivalCommand k o f) s
      = .next ((s.surveyed k f).send [s.forwarded k (s.nodeEntry n).target (arrivalFrame (nibbleOf k) f)]) := by
  obtain ⟨l, hl⟩ := surveyed_eq s k f
  rw [exec_good h hg, checkSource_matched h0 ((matchingNode_surveyed s k f f.source).trans hm), ← forwarded_surveyed s k f]
  have hlate' : (arrivalFrame (nibbleOf k) f).cycle ≠ (s.surveyed k f).rif.cycle ∨ vget (s.surveyed k f).rif.taken n = true := by
    rw [hl]
    exact hlate
  have hentry : (s.surveyed k f).nodeEntry n = s.nodeEntry n := by
    rw [hl]
    rfl
  rw [← hentry]
  exact congrArg Host.Outcome.next (if_pos hlate')

/-- A first frame on time is delivered and goes on with the command section of its order (R7, R9). -/
theorem exec_delivered (h : Settled s) (hg : GoodFrame s k f) (ht : FirstOnTime s k n f) : exec (arrivalCommand k o f) s
    = .next (((s.surveyed k f).deliver (arrivalOrder k o) k n f.body).send
      [(if (arrivalOrder k o).sectionFirst then s.surveyed k f else (s.surveyed k f).deliver (arrivalOrder k o) k n f.body).forwarded k
        (s.nodeEntry n).target (arrivalFrame (nibbleOf k) f)]) := by
  obtain ⟨h0, hm, hc, hfirst⟩ := ht
  obtain ⟨l, hl⟩ := surveyed_eq s k f
  rw [exec_good h hg, checkSource_matched h0 ((matchingNode_surveyed s k f f.source).trans hm)]
  have hnot : ¬ ((arrivalFrame (nibbleOf k) f).cycle ≠ (s.surveyed k f).rif.cycle ∨ vget (s.surveyed k f).rif.taken n = true) := by
    rw [hl]
    exact not_or.2 ⟨fun k => k hc, by rw [show vget s.rif.taken n = false from hfirst]; decide⟩
  have hentry : (s.surveyed k f).nodeEntry n = s.nodeEntry n := by
    rw [hl]
    rfl
  rw [← hentry]
  exact congrArg Host.Outcome.next (if_neg hnot)

theorem surveyed_blocks (s : State) (k : FrameKind) (f : Arrival) : SameBlocks s (s.surveyed k f) ∧ (s.surveyed k f).mrh = s.mrh
    ∧ (s.surveyed k f).rif.health = s.rif.health ∧ (s.surveyed k f).rif.taken = s.rif.taken
    ∧ (s.surveyed k f).rif.returned = s.rif.returned ∧ (s.surveyed k f).ringOut = [] := by
  obtain ⟨l, h⟩ := surveyed_eq s k f
  rw [h]
  exact ⟨⟨rfl, rfl, rfl, rfl, rfl, rfl, rfl, rfl, rfl⟩, rfl, rfl, rfl, rfl, rfl⟩

/-- Settles O8: the source check of a frame of no node, and the forwarding of one that is late or a duplicate. -/
theorem framesNotUsed : Obligations.FramesNotUsed := by
  refine ⟨fun s k o f h hg hk h0 hm => ?_, fun s k o f n h hg h0 hm hlate => ?_⟩
  · obtain ⟨hsame, hmrh, hhealth, htaken, hreturned, hout⟩ := surveyed_blocks s k f
    refine ⟨_, exec_good h hg o, ?_⟩
    rw [checkSource_unknown (g := arrivalFrame (nibbleOf k) f) h0 hk ((matchingNode_surveyed s k f f.source).trans hm)]
    refine ⟨?_, rfl, ?_, hsame, hhealth, htaken, hreturned, ?_, ?_⟩
    · exact congrArg (· ++ [arrivalFrame (nibbleOf k) f]) hout
    · exact latchStation_isLatched_self _ .unknownNode
    · refine (latchNumber_requests _ _ _).trans ?_
      exact (congrArg Mrh.requests hmrh).trans h.2.2
    · refine (latchNumber_responses _ _ _).trans ?_
      exact congrArg Mrh.responses hmrh
  · obtain ⟨hsame, hmrh, hhealth, htaken, -, hout⟩ := surveyed_blocks s k f
    refine ⟨_, exec_unused h hg h0 hm hlate, ?_, hsame, hhealth, htaken, hmrh⟩
    exact congrArg (· ++ _) hout

/-! ## Deliveries (R8, R20) -/

/-- A delivery marked: what it changes is the Ring Interface's. -/
theorem markDelivered_rif (s : State) (n : NodeIx) : (∃ r, s.markDelivered n = { s with rif := r })
    ∧ (∀ i, vget (s.markDelivered n).rif.taken i = if i = n then true else vget s.rif.taken i)
    ∧ (∀ i, (s.markDelivered n).health i = if i = n then { s.health n with delivered := true } else s.health i)
    ∧ (s.markDelivered n).rif.cycleOperate = s.rif.cycleOperate ∧ (s.markDelivered n).rif.ext = s.rif.ext :=
  ⟨⟨_, rfl⟩, fun _ => vget_vset _ _ _ _, fun _ => vget_vset _ _ _ _, rfl, rfl⟩

theorem forwarded_marked (s : State) (n : NodeIx) (k : FrameKind) (a : Byte) (g : RingFrame) :
    (s.markDelivered n).forwarded k a g = s.forwarded k a g := by cases k <;> rfl

theorem cycleRuns_of (s : State) (k : FrameKind) (f : Arrival) (n : NodeIx) :
    ((s.surveyed k f).markDelivered n).cycleRuns = s.cycleRuns := by
  obtain ⟨l, h⟩ := surveyed_eq s k f
  rw [h]
  rfl

/-- The state in which a delivery is handed on. -/
def State.arrived (s : State) (k : FrameKind) (n : NodeIx) (f : Arrival) : State := (s.surveyed k f).markDelivered n

/-- Marked, and handed on where the cycle runs (R8). -/
theorem deliver_surveyed (s : State) (o : DeliveryOrder) (k : FrameKind) (n : NodeIx) (f : Arrival) :
    (s.surveyed k f).deliver o k n f.body
      = if s.cycleRuns then (s.arrived k n f).handOn o k (s.nodeEntry n) f.body else s.arrived k n f := by
  have hentry : (s.surveyed k f).nodeEntry n = s.nodeEntry n := by
    obtain ⟨l, h⟩ := surveyed_eq s k f
    rw [h]
    rfl
  unfold State.deliver
  dsimp only
  rw [cycleRuns_of, hentry]
  rfl

/-- The state in which a delivery is handed on differs from the one before it in the Ring Interface and the ring output. -/
theorem arrived_eq (s : State) (k : FrameKind) (n : NodeIx) (f : Arrival) :
    (∃ r, s.arrived k n f = { s with ringOut := [], rif := r })
      ∧ (∀ i, vget (s.arrived k n f).rif.taken i = if i = n then true else vget s.rif.taken i)
      ∧ (∀ i, (s.arrived k n f).health i = if i = n then { s.health n with delivered := true } else s.health i)
      ∧ (s.arrived k n f).rif.ext = s.rif.ext := by
  obtain ⟨l, h⟩ := surveyed_eq s k f
  obtain ⟨-, h2, h3, -, -⟩ := markDelivered_rif (s.surveyed k f) n
  unfold State.arrived
  refine ⟨?_, fun i => ?_, fun i => ?_, ?_⟩
  · rw [h]
    exact ⟨_, rfl⟩
  · rw [h2, h]
  · rw [h3, h]
    rfl
  · rw [h]
    rfl

/-- Settles O11: a delivery that is not handed on is marked. -/
theorem configDelivery : Obligations.ConfigDelivery := by
  intro s k o f n h hg ht hruns
  refine ⟨_, exec_delivered h hg ht, ?_⟩
  obtain ⟨⟨r, hr⟩, htaken, hhealth, -⟩ := arrived_eq s k n f
  have hmark : (s.surveyed k f).deliver (arrivalOrder k o) k n f.body = s.arrived k n f := by
    rw [deliver_surveyed, if_neg (by rw [hruns]; decide)]
  have hfwd (g : RingFrame) : (if (arrivalOrder k o).sectionFirst then s.surveyed k f else s.arrived k n f).forwarded k
      (s.nodeEntry n).target g = s.forwarded k (s.nodeEntry n).target g := by
    split
    · exact forwarded_surveyed s k f k _ g
    · exact (forwarded_marked _ _ _ _ _).trans (forwarded_surveyed s k f k _ g)
  rw [hmark, hfwd]
  refine ⟨?_, ?_, ?_, ?_, ?_, fun i hi => ⟨?_, ?_⟩⟩
  · rw [hr]
    rfl
  · rw [hr]
    exact ⟨rfl, rfl, rfl, rfl, rfl, rfl, rfl, rfl, rfl⟩
  · rw [hr]
    rfl
  · rw [send_health, hhealth, if_pos rfl]
  · exact (htaken n).trans (if_pos rfl)
  · rw [send_health, hhealth, if_neg hi]
  · exact (htaken i).trans (if_neg hi)

/-- A unit that sends samples alone feeds one point at most. -/
theorem pointsFedBy_smp {e : NodeEntry} {r : Role} (hr : roleOf e.role = some r) (hm : roleMatches .smp r = true) :
    pointsFedBy e = [] ∨ ∃ p, pointsFedBy e = [p] := by
  unfold pointsFedBy
  rw [hr]
  cases r
  case muBerth =>
    dsimp only
    split
    · exact .inr ⟨_, rfl⟩
    · exact .inl rfl
  case muIncomer => exact .inr ⟨_, rfl⟩
  all_goals cases hm

theorem pointVnom_arrived (s : State) (k : FrameKind) (n : NodeIx) (f : Arrival) (p : Point) :
    (s.arrived k n f).pointVnom p = s.pointVnom p := by
  obtain ⟨⟨r, hr⟩, -⟩ := arrived_eq s k n f
  rw [hr]
  cases p <;> rfl

theorem meas_arrived (s : State) (k : FrameKind) (n : NodeIx) (f : Arrival) (p : Point) :
    (s.arrived k n f).meas p = s.meas p := by
  obtain ⟨⟨r, hr⟩, -⟩ := arrived_eq s k n f
  rw [hr]
  cases p <;> rfl

/-- A sample delivery runs the point cycle of the one point it feeds (R20). -/
theorem samplesDelivery_meas (s : State) {e : NodeEntry} (body : List Byte) (hp : pointsFedBy e = [] ∨ ∃ p, pointsFedBy e = [p])
    (q : Point) : (s.samplesDelivery e body).meas q
      = if q ∈ pointsFedBy e then
          (pointCycle q s.ext e (s.pointVnom q) (some (samplesAt body 0, samplesAt body 6)) (s.meas q)).record
        else s.meas q := by
  unfold State.samplesDelivery
  rcases hp with hp | ⟨p, hp⟩
  · rw [hp]
    rfl
  · rw [hp]
    refine (runCycle_meas s p q _ _ _).trans ?_
    by_cases hq : q = p
    · subst hq
      simp
    · simp [hq]

theorem samplesDelivery_port (s : State) (e : NodeEntry) (body : List Byte) : port (s.samplesDelivery e body) = port s :=
  port_foldl (fun _ _ => runCycle_port _ _ _ _ _) _ _

/-- Settles O10: a sample delivery is marked, and its point cycle runs on the state that it found. -/
theorem smpDelivery : Obligations.SmpDelivery := by
  intro s f n h hg ht hruns
  refine ⟨_, exec_delivered (o := plainOrder) h hg ht, ?_⟩
  obtain ⟨⟨r, hr⟩, htaken, hhealth, hext⟩ := arrived_eq s .smp n f
  obtain ⟨role, hrole, hmatch⟩ := hasUnit_of_matchingNode ht.2.1
  have hd : (s.surveyed .smp f).deliver (arrivalOrder .smp plainOrder) .smp n f.body
      = (s.arrived .smp n f).samplesDelivery (s.nodeEntry n) f.body := by
    rw [deliver_surveyed, if_pos hruns]
    rfl
  have hmeas := samplesDelivery_meas (s.arrived .smp n f) f.body (pointsFedBy_smp hrole hmatch)
  have hport := samplesDelivery_port (s.arrived .smp n f) (s.nodeEntry n) f.body
  have hE : (s.arrived .smp n f).ext = s.ext := hext
  rw [hd]
  refine ⟨?_, ?_, ?_, fun p hp => ?_, fun p hp => ?_⟩
  · have hout : ((s.arrived .smp n f).samplesDelivery (s.nodeEntry n) f.body).ringOut = [] := by
      rw [ringOut_of_port hport, hr]
    exact congrArg (· ++ _) hout
  · rw [send_health]
    unfold State.health
    rw [rif_of_port hport]
    exact congrArg Health.delivered ((hhealth n).trans (if_pos rfl))
  · rw [send_rif, rif_of_port hport]
    exact (htaken n).trans (if_pos rfl)
  · rw [send_meas, hmeas, if_pos hp, pointVnom_arrived, meas_arrived, hE]
  · rw [send_meas, hmeas, if_neg hp, meas_arrived]

end
end Sys2Proof.Machine

/-! PROOFS. The statements about requests in general (11): a request executed at the head, its length, its arrival, the requests that
only read, and the event flags. -/

namespace Sys2Proof.Machine

open Sys2Proof

section
variable {s : State} {r : Request} {l : List Request}

/-! ## The head executed (R183) -/

/-- A request whose length fits is answered as its owner says, on the state that its owner leaves. -/
theorem next_request {code : Byte} (h : AtHead s r l) (hc : r.code = code) (hf : lengthFits r = true) (n : Nat) :
    (Host.Outcome.next (s.requestCommand code (ownerOf n)) : Host.Outcome State Fault Refusal)
      = .next ((ownerOf n r.args s.quiet).1.answered r l (ownerOf n r.args s.quiet).2) := by
  have hq : (ownerOf n r.args s.quiet).1.mrh.requests = r :: l :=
    (requests_of_mail (owner_mail s.quiet n r.args)).trans h.2.2
  rw [requestCommand_of_head h hc, execute_of_fits hf _ hq]

/-- A request of another length than its code requires is refused RANGE. -/
theorem next_misfit {code : Byte} (h : AtHead s r l) (hc : r.code = code) (hf : lengthFits r = false)
    (owner : List Byte → State → State × Answer) :
    (Host.Outcome.next (s.requestCommand code owner) : Host.Outcome State Fault Refusal)
      = .next (s.quiet.answered r l (refused .range)) := by
  have hq : s.quiet.mrh.requests = r :: l := h.2.2
  rw [requestCommand_of_head h hc, execute_of_misfit hf owner hq]

theorem lengthFits_eq {n : Nat} (hc : r.code ≠ 2) (ha : argLength r.code r.args = some n) :
    lengthFits r = (r.args.length == n) := by
  unfold lengthFits
  rw [if_neg (fun k => hc k.1), ha]

/-- A request other than WRITE TABLE ENTRY with the number of argument bytes that its code requires. -/
theorem fits_of_length {code : Byte} (hc : r.code = code) (h2 : code ≠ 2) (ha : argLength code r.args = some r.args.length) :
    lengthFits r = true := by
  subst hc
  rw [lengthFits_eq h2 ha, beq_self_eq_true]

/-! ## The arrival of a request (R6, R181, R182) -/

/-- The state in which a request frame is used: nothing sent, and the survey written. -/
theorem exec_requestFrame {f : Arrival} (h : Settled s) (hw : f.whole = true)
    (hc : checksGood .mrq (arrivalFrame (nibbleOf .mrq) f) = true) (h0 : f.source ≠ 0) : ∃ x : Rif,
      exec (.requestFrame f) s
        = .next (({ s with ringOut := [], rif := x } : State).requestFrame (arrivalFrame (nibbleOf .mrq) f)) := by
  have harrive : exec (.requestFrame f) s
      = .next (s.quiet.checkFrame plainOrder .mrq (arrivalFrame (nibbleOf .mrq) f)) := by
    refine (exec_arrival_of_settled h .mrq plainOrder f).trans ?_
    rw [arrive_known hw (nibbleOf_lt .mrq), kindOf_nibbleOf]
    rfl
  cases hs : s.rif.started
  · refine ⟨s.rif, harrive.trans (congrArg Host.Outcome.next ?_)⟩
    unfold State.checkFrame
    rw [if_pos hc, if_neg (by simp [State.quiet, hs]), if_pos ⟨rfl, h0⟩]
    rfl
  · obtain ⟨x, hx⟩ := surveyed_eq s .mrq f
    refine ⟨{ s.rif with current := x }, harrive.trans (congrArg Host.Outcome.next ?_)⟩
    unfold State.checkFrame State.checkSource
    have h0' : (arrivalFrame (nibbleOf .mrq) f).source ≠ 0 := h0
    rw [if_pos hc, if_pos (by simp [State.quiet, hs]), if_neg h0', if_pos rfl]
    exact congrArg (fun u => State.requestFrame u (arrivalFrame (nibbleOf .mrq) f)) hx

theorem requestArrival_full (hr : 16 ≤ s.mrh.count) (q : Request) : s.requestArrival q
    = ({ s with mrh := { s.mrh with dropped := min 65535 (s.mrh.dropped + 1) } } : State).latchStation .requestDropped := if_pos hr

theorem requestArrival_refused {q : Request} (hr : s.mrh.count < 16) (hs : s.sourceAccepted q.source = false) : s.requestArrival q
    = { s with mrh := { s.mrh with responses := s.mrh.responses ++ [responseTo q (refused .source)] }.updateHold } := by
  unfold State.requestArrival
  rw [if_neg (Nat.not_le.2 hr), if_neg (by rw [hs]; decide)]

theorem requestArrival_queued {q : Request} (hr : s.mrh.count < 16) (hs : s.sourceAccepted q.source = true) : s.requestArrival q
    = ({ s with mrh := { s.mrh with requests := s.mrh.requests ++ [q] }.updateHold } : State).answerUnknown := by
  unfold State.requestArrival
  rw [if_neg (Nat.not_le.2 hr), if_pos hs]

theorem answerUnknown_known {q : Request} (hq : s.mrh.requests = q :: l) (hk : knownCode q.code = true) : s.answerUnknown = s := by
  unfold State.answerUnknown
  rw [hq]
  exact if_pos hk

theorem answerUnknown_unknown {q : Request} (hq : s.mrh.requests = q :: l) (hk : knownCode q.code = false) :
    s.answerUnknown = s.answered q l (refused .unknown) := by
  unfold State.answerUnknown
  rw [hq]
  exact (if_neg (by rw [hk]; decide)).trans (answerHead_of_head hq _)

theorem knownCode_iff {c : Byte} : knownCode c = true ↔ 1 ≤ c.toNat ∧ c.toNat ≤ 26 := by simp [knownCode]

/-- The catalogue of O53: each code with its command and the number of its argument bytes. -/
theorem catalogue_of_mem {x : Byte × Instr × Nat} (hx : x ∈ ([(1, .readTableEntry, 2), (3, .commit, 4), (4, .enterConfiguration, 0),
    (5, .setClock, 6), (6, .writeTariffEntry, 8), (7, .activateTariff, 5), (8, .cancelActivation, 0), (9, .openSession, 12),
    (10, .handoverIn, 1), (11, .abortHandover, 1), (12, .handoverOut, 1), (13, .closeSession, 1), (14, .abortSession, 1),
    (15, .clearFault, 1), (16, .blockModule, 1), (17, .unblockModule, 1), (18, .markBreaker, 1), (19, .readBilling, 0),
    (20, .releaseBilling, 4), (21, .readMeter, 1), (22, .ringSurvey, 0), (23, .readStatus, 2), (24, .readEvents, 1),
    (25, .clearEvents, 3), (26, .setEventMask, 3)] : List (Byte × Instr × Nat))) :
    x.1 ≠ 2 ∧ (∀ args, argLength x.1 args = some x.2.2)
      ∧ ∀ s, exec x.2.1 s = .next (s.requestCommand x.1 (ownerOf x.1.toNat)) := by
  revert x
  simp only [List.forall_mem_cons, List.not_mem_nil, false_implies, implies_true, and_true]
  refine ⟨?_, ?_, ?_, ?_, ?_, ?_, ?_, ?_, ?_, ?_, ?_, ?_, ?_, ?_, ?_, ?_, ?_, ?_, ?_, ?_, ?_, ?_, ?_, ?_, ?_⟩
  all_goals exact ⟨by decide, fun _ => rfl, fun _ => rfl⟩

/-- Settles O53: a request at the head by its length, a request frame by its address, the count, its source and its code. -/
theorem requestIntake : Obligations.RequestIntake := by
  refine ⟨fun x hx s r l h hc hlen => ?_, fun s r l h hc hargs => ?_, fun s f h hw hgood h0 => ?_⟩
  · obtain ⟨h2, hlength, hexec⟩ := catalogue_of_mem hx
    have hmis : lengthFits r = false := by
      rw [lengthFits_eq (hc ▸ h2) (hc ▸ hlength r.args)]
      exact beq_eq_false_iff_ne.2 hlen
    exact (hexec s).trans (next_misfit h hc hmis _)
  · have hmis : lengthFits r = false := by
      unfold lengthFits
      by_cases ha : r.args = []
      · rw [if_pos ⟨hc, ha⟩]
      · rw [if_neg (fun k => ha k.2), hc]
        have hlen : ∀ n, imageSize (byteAt r.args 0) = some n → r.args.length ≠ n + 2 := hargs.resolve_left ha
        change (match (imageSize (byteAt r.args 0)).map (fun n => n + 2) with
          | some n => r.args.length == n
          | none => false) = false
        cases hsize : imageSize (byteAt r.args 0) with
        | none => rfl
        | some n => exact beq_eq_false_iff_ne.2 (hlen n hsize)
    exact next_misfit h hc hmis reqWriteTableEntry
  · obtain ⟨x, hx⟩ := exec_requestFrame h hw hgood h0
    intro count hold r
    have hreq : s.mrh.requests = [] := h.2.2
    have hcount : ({ s with ringOut := [], rif := x } : State).mrh.count = s.mrh.responses.length := by
      simp [Mrh.count, hreq]
    have hhere (hd : f.dest = 0) : exec (.requestFrame f) s = .next (({ s with ringOut := [], rif := x } : State).requestArrival r) :=
      hx.trans (congrArg Host.Outcome.next (if_pos hd))
    refine ⟨fun hd => ?_, fun hd hfull => ?_, fun hd hroom hsource => ?_, fun hd hroom hsource => ?_⟩
    · have helse : exec (.requestFrame f) s = .next (({ s with ringOut := [], rif := x } : State).send
          [arrivalFrame (nibbleOf .mrq) f]) := hx.trans (congrArg Host.Outcome.next (if_neg hd))
      exact ⟨_, helse, rfl, rfl, rfl, rfl, rfl, rfl, rfl, rfl, rfl, rfl, rfl⟩
    · refine ⟨_, (hhere hd).trans (congrArg Host.Outcome.next (requestArrival_full (by rwa [hcount]) r)), ?_⟩
      refine ⟨rfl, ?_, ?_, ?_, latchStation_isLatched_self _ .requestDropped, rfl, rfl, rfl, rfl, rfl, rfl, rfl, rfl, rfl⟩
      · exact latchNumber_dropped _ _ _
      · exact (latchNumber_requests _ _ _).trans hreq
      · exact latchNumber_responses _ _ _
    · refine ⟨_, (hhere hd).trans (congrArg Host.Outcome.next (requestArrival_refused (by rwa [hcount]) hsource)), ?_⟩
      refine ⟨rfl, hreq, rfl, ?_, rfl, rfl, rfl, rfl, rfl, rfl, rfl, rfl, rfl⟩
      simp [Mrh.updateHold, Mrh.count, holdAfter, hreq, hold, count]
    · have hrequests : ({ s.mrh with requests := s.mrh.requests ++ [r] } : Mrh).updateHold.requests = [r] := by
        simp [Mrh.updateHold, hreq]
      have hholds : ({ s.mrh with requests := s.mrh.requests ++ [r] } : Mrh).updateHold.hold = hold := by
        simp [Mrh.updateHold, Mrh.count, holdAfter, hreq, hold, count, Nat.add_comm]
      have hqueued := (hhere hd).trans (congrArg Host.Outcome.next (requestArrival_queued (by rwa [hcount]) hsource))
      cases hk : knownCode r.code
      · rw [answerUnknown_unknown (l := []) hrequests hk] at hqueued
        refine ⟨_, hqueued, rfl, hholds, ⟨rfl, rfl, rfl, rfl, rfl, rfl, rfl, rfl, rfl⟩, fun hn => ?_, fun _ => ⟨rfl, rfl⟩⟩
        rw [knownCode_iff.2 hn] at hk
        cases hk
      · rw [answerUnknown_known hrequests hk] at hqueued
        exact ⟨_, hqueued, rfl, hholds, ⟨rfl, rfl, rfl, rfl, rfl, rfl, rfl, rfl, rfl⟩, fun _ => ⟨hrequests, rfl⟩,
          fun hn => absurd (knownCode_iff.1 hk) hn⟩

/-! ## The requests that read -/

theorem byteAt_head (a : Byte) (q : List Byte) : byteAt (a :: q) 0 = a := rfl

theorem onBerth_of_some {a : Byte} {b : Berth} (h : berthOf a = some b) (q : List Byte) (f : Berth → State → State × Answer) :
    onBerth (a :: q) s f = f b s := by
  unfold onBerth
  rw [byteAt_head, h]

theorem onBerth_of_none {a : Byte} (h : berthOf a = none) (q : List Byte) (f : Berth → State → State × Answer) :
    onBerth (a :: q) s f = (s, refused .range) := by
  unfold onBerth
  rw [byteAt_head, h]
  rfl

theorem onScope_of_some {a : Byte} {c : Scope} (h : scopeOf a.toNat = some c) (q : List Byte) (f : Scope → State → State × Answer) :
    onScope (a :: q) s f = f c s := by
  unfold onScope
  rw [byteAt_head, h]

theorem onScope_of_none {a : Byte} (h : scopeOf a.toNat = none) (q : List Byte) (f : Scope → State → State × Answer) :
    onScope (a :: q) s f = (s, refused .range) := by
  unfold onScope
  rw [byteAt_head, h]
  rfl

theorem scopeFlagCount_le (c : Scope) : scopeFlagCount c ≤ 16 := by
  cases c
  case station => decide
  case berth b => exact Nat.le.intro (n := 13) (k := 3) rfl

theorem scopeOf_eq_none {n : Nat} (h : 4 < n) : scopeOf n = none := by
  unfold scopeOf
  rw [if_neg (by omega), dif_neg (by omega)]

/-- A request whose owner leaves the state as it is. -/
theorem next_answer {code : Byte} (h : AtHead s r l) (hc : r.code = code) (hf : lengthFits r = true) (n : Nat) {a : Answer}
    (ho : ownerOf n r.args s.quiet = (s.quiet, a)) :
    (Host.Outcome.next (s.requestCommand code (ownerOf n)) : Host.Outcome State Fault Refusal) = .next (s.quiet.answered r l a) := by
  rw [next_request h hc hf, ho]

/-- Settles O54: each of the five by what its owner finds. -/
theorem readRequests : Obligations.ReadRequests := by
  intro s r l h
  refine ⟨fun hc table entry ha => ?_, fun hc a ha => ?_, fun hc ha => ?_, fun hc a c ha => ?_, fun hc a ha => ?_⟩
  · have hf : lengthFits r = true := fits_of_length hc (by decide) (by rw [ha]; rfl)
    refine ⟨fun e he => next_answer h hc hf 1 ?_, fun he => next_answer h hc hf 1 ?_⟩
    all_goals
      change reqReadTableEntry r.args s.quiet = _
      rw [ha]
      unfold reqReadTableEntry
      rw [show entryNamed (byteAt [table, entry] 0) (byteAt [table, entry] 1) = _ from he]
      rfl
  · have hf : lengthFits r = true := fits_of_length hc (by decide) (by rw [ha]; rfl)
    refine ⟨fun b hb => next_answer h hc hf 21 ?_, fun hb => next_answer h hc hf 21 ?_⟩
    · rw [ha]
      change reqReadMeter [a] s.quiet = _
      unfold reqReadMeter
      exact onBerth_of_some hb _ _
    · rw [ha]
      change reqReadMeter [a] s.quiet = _
      unfold reqReadMeter
      exact onBerth_of_none hb _ _
  · have hf : lengthFits r = true := fits_of_length hc (by decide) (by rw [ha]; rfl)
    exact next_answer h hc hf 22 rfl
  · have hf : lengthFits r = true := fits_of_length hc (by decide) (by rw [ha]; rfl)
    refine ⟨fun k x hk hx => next_answer h hc hf 23 ?_, fun k hk hx => next_answer h hc hf 23 ?_, fun h4 => next_answer h hc hf 23 ?_⟩
    · rw [ha]
      change reqReadStatus [a, c] s.quiet = _
      unfold reqReadStatus
      refine (onScope_of_some hk _ _).trans ?_
      rw [show s.quiet.statusSection k (byteAt [a, c] 1).toNat = some x from hx]
    · rw [ha]
      change reqReadStatus [a, c] s.quiet = _
      unfold reqReadStatus
      refine (onScope_of_some hk _ _).trans ?_
      rw [show s.quiet.statusSection k (byteAt [a, c] 1).toNat = none from hx]
      rfl
    · rw [ha]
      change reqReadStatus [a, c] s.quiet = _
      unfold reqReadStatus
      exact onScope_of_none (scopeOf_eq_none h4) _ _
  · have hf : lengthFits r = true := fits_of_length hc (by decide) (by rw [ha]; rfl)
    refine ⟨fun k hk => next_answer h hc hf 24 ?_, fun h4 => next_answer h hc hf 24 ?_⟩
    · rw [ha]
      change reqReadEvents [a] s.quiet = _
      unfold reqReadEvents
      exact onScope_of_some hk _ _
    · rw [ha]
      change reqReadEvents [a] s.quiet = _
      unfold reqReadEvents
      exact onScope_of_none (scopeOf_eq_none h4) _ _

/-! ## The event flags (R186 to R189) -/

theorem latchNumber_clear {m : Mrh} {c : Scope} {n : Nat} (h : (m.latched.get c).getLsbD n = false) : latchNumber m c n
    = { m with
        latched := m.latched.set c (m.latched.get c ||| (1#16 <<< n))
        notices := if (m.masked.get c).getLsbD n then m.notices else addToNotice m.notices c n } :=
  if_neg (by rw [h]; decide)

/-- A flag of a scope without a notice begins one at the back (R189). -/
theorem addToNotice_new {q : List Notice} {c : Scope} (n : Nat) (h : ∀ x ∈ q, x.scope ≠ c) : addToNotice q c n = q ++ [⟨c, [n]⟩] :=
  if_neg (by simpa using h)

/-- A flag joins the notice of its scope, and the others stand (R189). -/
theorem addToNotice_joined {a b : List Notice} {x : Notice} {c : Scope} (n : Nat) (hx : x.scope = c)
    (h : ∀ y ∈ a ++ b, y.scope ≠ c) :
    addToNotice (a ++ x :: b) c n = a ++ (if n ∈ x.flags then x else { x with flags := x.flags ++ [n] }) :: b := by
  have hany : (a ++ x :: b).any (fun x => x.scope == c) = true := List.any_eq_true.2 ⟨x, by simp, by simp [hx]⟩
  have hkept (q : List Notice) (hq : ∀ y ∈ q, y.scope ≠ c) :
      q.map (fun x => if x.scope == c && !(x.flags.contains n) then { x with flags := x.flags ++ [n] } else x) = q := by
    refine (List.map_congr_left fun y hy => ?_).trans (List.map_id q)
    simp [hq y hy]
  unfold addToNotice
  rw [if_pos hany, List.map_append, List.map_cons, hkept a fun y hy => h y (List.mem_append_left _ hy),
    hkept b fun y hy => h y (List.mem_append_right _ hy)]
  by_cases hn : n ∈ x.flags <;> simp [hx, hn]

theorem mem_addToNotice (q : List Notice) (c : Scope) (n : Nat) : ∃ x ∈ addToNotice q c n, x.scope = c ∧ n ∈ x.flags := by
  by_cases h : q.any (fun x => x.scope == c) = true
  · obtain ⟨x, hx, hc⟩ := List.any_eq_true.1 h
    rw [beq_iff_eq] at hc
    unfold addToNotice
    rw [if_pos h]
    refine ⟨_, List.mem_map_of_mem hx, ?_⟩
    by_cases hn : n ∈ x.flags <;> simp [hc, hn]
  · unfold addToNotice
    rw [if_neg h]
    exact ⟨⟨c, [n]⟩, by simp, rfl, by simp⟩

/-- The two mark bytes of a request read as bits, those above the scope's flags left out (R195). -/
theorem marksArgument_getLsbD (a x y : Byte) (c : Scope) (i : Nat) :
    (marksArgument [a, x, y] c).getLsbD i = ((x ++ y).getLsbD i && decide (i < scopeFlagCount c)) := by
  have hv : BitVec.ofNat 16 (natOf (field [a, x, y] 1 2)) = x ++ y := by
    apply BitVec.eq_of_toNat_eq
    have hn : natOf (field [a, x, y] 1 2) = x.toNat * 256 + y.toNat := by simp [natOf, field]
    rw [hn, BitVec.toNat_append, BitVec.toNat_ofNat, Nat.mod_eq_of_lt (by have := x.isLt; have := y.isLt; omega),
      ← Nat.shiftLeft_add_eq_or_of_lt y.isLt, Nat.shiftLeft_eq]
  have hmask : (BitVec.ofNat 16 (2 ^ scopeFlagCount c - 1)).getLsbD i = decide (i < scopeFlagCount c) := by
    have hlt := scopeFlagCount_le c
    rw [BitVec.getLsbD_ofNat, Nat.testBit_two_pow_sub_one]
    by_cases h : i < scopeFlagCount c <;> simp [h]
    omega
  unfold marksArgument scopeMask
  rw [hv, BitVec.getLsbD_and, hmask]

/-- Settles O55: a flag by whether it is latched and masked, the two requests by their scope. -/
theorem eventFlags : Obligations.EventFlags := by
  refine ⟨fun m c n h => if_pos h, fun m c n hn h => ?_, fun s r l a x y h hc ha => ⟨fun h4 => ?_, fun c hs => ?_⟩,
    fun s r l a x y h hc ha => ⟨fun h4 => ?_, fun c hs => ?_⟩⟩
  · refine ⟨by rw [latchNumber_latched _ _ _ _ _ hn]; simp, fun i hi => by rw [latchNumber_latched _ _ _ _ _ hn]; simp [hi],
      fun d hd => ?_, latchNumber_masked _ _ _, latchNumber_requests _ _ _, latchNumber_responses _ _ _, fun hm => ?_, fun hm => ?_⟩
    · rw [latchNumber_clear h]
      exact marks_get_set_ne _ _ hd
    · rw [latchNumber_clear h]
      exact if_pos hm
    · have hq : (latchNumber m c n).notices = addToNotice m.notices c n := by
        rw [latchNumber_clear h]
        exact if_neg (by rw [hm]; decide)
      rw [hq]
      refine ⟨mem_addToNotice _ _ _, fun hnone => addToNotice_new n hnone, fun p q x hl hx hrest => ?_⟩
      rw [hl, addToNotice_joined n hx hrest]
      exact ⟨fun hnot => by rw [if_neg hnot], fun hin => by rw [if_pos hin]⟩
  · have hf : lengthFits r = true := fits_of_length hc (by decide) (by rw [ha]; rfl)
    refine next_answer h hc hf 25 ?_
    rw [ha]
    change reqClearEvents [a, x, y] s.quiet = _
    unfold reqClearEvents
    exact onScope_of_none (scopeOf_eq_none h4) _ _
  · have hf : lengthFits r = true := fits_of_length hc (by decide) (by rw [ha]; rfl)
    refine ⟨_, next_request h hc hf 25, ?_⟩
    have ho : ownerOf 25 r.args s.quiet = ({ s.quiet with mrh := { s.mrh with
        latched := s.mrh.latched.set c (s.mrh.latched.get c &&& ~~~ marksArgument [a, x, y] c) } },
        doneWith [marksItem (s.mrh.latched.get c)]) := by
      rw [ha]
      change reqClearEvents [a, x, y] s.quiet = _
      unfold reqClearEvents
      exact onScope_of_some hs _ _
    rw [ho]
    refine ⟨fun i hi => ?_, fun i hi => ?_, fun d hd => marks_get_set_ne _ _ hd, rfl, rfl, rfl, rfl⟩
    · change ((s.mrh.latched.set c _).get c).getLsbD i = _
      rw [marks_get_set_self, BitVec.getLsbD_and, BitVec.getLsbD_not, marksArgument_getLsbD]
      have : i < 16 := lt_of_lt_of_le hi (scopeFlagCount_le c)
      simp [hi, this]
    · change ((s.mrh.latched.set c _).get c).getLsbD i = _
      rw [marks_get_set_self, BitVec.getLsbD_and, BitVec.getLsbD_not, marksArgument_getLsbD]
      by_cases h16 : i < 16
      · simp [Nat.not_lt.2 hi, h16]
      · simp [BitVec.getLsbD_of_ge _ i (Nat.not_lt.1 h16)]
  · have hf : lengthFits r = true := fits_of_length hc (by decide) (by rw [ha]; rfl)
    refine next_answer h hc hf 26 ?_
    rw [ha]
    change reqSetEventMask [a, x, y] s.quiet = _
    unfold reqSetEventMask
    exact onScope_of_none (scopeOf_eq_none h4) _ _
  · have hf : lengthFits r = true := fits_of_length hc (by decide) (by rw [ha]; rfl)
    refine ⟨_, next_request h hc hf 26, ?_⟩
    have ho : ownerOf 26 r.args s.quiet
        = ({ s.quiet with mrh := { s.mrh with masked := s.mrh.masked.set c (marksArgument [a, x, y] c) } }, done) := by
      rw [ha]
      change reqSetEventMask [a, x, y] s.quiet = _
      unfold reqSetEventMask
      exact onScope_of_some hs _ _
    rw [ho]
    refine ⟨fun i hi => ?_, fun d hd => marks_get_set_ne _ _ hd, rfl, rfl, rfl, rfl⟩
    change ((s.mrh.masked.set c _).get c).getLsbD i = _
    rw [marks_get_set_self, marksArgument_getLsbD]
    simp [hi]

end
end Sys2Proof.Machine

/-! PROOFS. The statements about single events and requests of the measurement, the pool and the breakers (02, 04, 05): what a grant
evaluation leaves of a module that is not FREE, a module's failure, and the limits. -/

namespace Sys2Proof.Machine

open Sys2Proof

section
variable {s t u : State} {m : ModuleId} {b : Berth}

/-! ## The no-crossing timeout (R25) -/

/-- Settles O16: the event's record, and its figures. -/
theorem noCrossingTimeout_computes : Obligations.NoCrossingTimeout := by
  refine ⟨fun s p i h hi hc => (next_event h).trans (congrArg Host.Outcome.next ?_), fun vfs u r => ?_⟩
  · have hreached : timeoutReached ((s.without (.noCrossingTimeout p)).meas p) = true := decide_eq_true hc
    change (s.without (.noCrossingTimeout p)).noCrossing p = _
    unfold State.noCrossing
    rw [show feedingNode (s.without (.noCrossingTimeout p)).cfs.tables p = some i from hi]
    exact if_pos hreached
  · exact ⟨rfl, rfl, rfl, rfl, rfl, rfl, computeRms_figures vfs u r⟩

/-! ## The limits of a breaker (R79) -/

/-- Settles O31: the record's command decides. -/
theorem breakerOperateLimit_law : Obligations.BreakerOperateLimit := by
  refine ⟨fun s k h hop hc hl => ?_, fun s k h hop hc hr hl => ?_⟩
  · have hreached : limitReached s.ext (s.breaker k) = true := by
      unfold limitReached
      rw [hc]
      exact decide_eq_true hl
    refine (next_event h).trans (congrArg Host.Outcome.next ?_)
    change (s.without (.breakerOperateLimit k)).breakerLimit k = _
    unfold State.breakerLimit
    refine (if_pos (Bool.and_eq_true_iff.2 ⟨hop, hreached⟩)).trans ?_
    rw [show ((s.without (.breakerOperateLimit k)).breaker k).command = _ from hc]
    rfl
  · have hreached : limitReached s.ext (s.breaker k) = true := by
      unfold limitReached
      rw [hc, hr]
      exact decide_eq_true hl
    refine (next_event h).trans (congrArg Host.Outcome.next ?_)
    change (s.without (.breakerOperateLimit k)).breakerLimit k = _
    unfold State.breakerLimit
    refine (if_pos (Bool.and_eq_true_iff.2 ⟨hop, hreached⟩)).trans ?_
    split
    case h_1 k => exact absurd (hc.symm.trans k) (by decide)
    case h_2 => rfl
    case h_3 k => exact absurd (hc.symm.trans k) (by decide)

/-! ## What an evaluation leaves of a module -/

/-- A module's record stands, and no operation is queued for it that was not. -/
def Spares (m : ModuleId) (s t : State) : Prop :=
  t.module m = s.module m ∧ ∀ e ∈ t.mpm.switching, e.module = m → e ∈ s.mpm.switching

theorem Spares.refl (m : ModuleId) (s : State) : Spares m s s := ⟨rfl, fun _ h _ => h⟩

theorem Spares.trans (h : Spares m s t) (k : Spares m t u) : Spares m s u :=
  ⟨k.1.trans h.1, fun e he hm => h.2 e (k.2 e he hm) hm⟩

theorem spares_of_mpm (h : t.mpm = s.mpm) (m : ModuleId) : Spares m s t := ⟨module_of_mpm h m, by rw [h]; exact fun _ he _ => he⟩

theorem releaseOne_spares (s : State) {i : ModuleId} (h : m ≠ i) : Spares m s (s.releaseOne i) := by
  refine ⟨releaseOne_module_ne s h, ?_⟩
  have hstop : ∀ e ∈ (s.stopping i).mpm.switching, e.module = m → e ∈ s.mpm.switching := fun e he _ => List.mem_of_mem_filter he
  have hopen : ∀ e ∈ ((s.stopping i).queueOp i .open).mpm.switching, e.module = m → e ∈ s.mpm.switching := by
    intro e he hm
    rcases List.mem_append.1 he with he | he
    · exact hstop e he hm
    · rw [List.mem_singleton.1 he] at hm
      exact absurd hm.symm h
  cases hh : isHolding (s.module i)
  · rw [releaseOne_other hh]
    exact fun _ he _ => he
  · rw [releaseOne_holding hh]
    split
    · exact hstop
    · exact hopen
    · exact hopen
    · split
      · exact hstop
      · exact hopen

theorem releaseModules_spares (s : State) (b : Berth) {l : List ModuleId} (h : m ∉ l) : Spares m s (s.releaseModules b l) := by
  have heach (l : List ModuleId) : ∀ s : State, m ∉ l → Spares m s (s.releaseEach l) := by
    induction l with
    | nil => exact fun s _ => .refl m s
    | cons i l ih =>
      intro s h
      rw [List.mem_cons, not_or] at h
      exact (releaseOne_spares s h.1).trans (ih (s.releaseOne i) h.2)
  exact (heach l s h).trans (spares_of_mpm (releaseModules_mpm s b l) m)

theorem grantPresented_spares (s : State) (b : Berth) {l : List ModuleId} (h : m ∉ l) : Spares m s (s.grantPresented b l) := by
  unfold State.grantPresented
  split
  · exact spares_of_mpm (enterState_mpm _ _ _) m
  iterate 3 exact releaseModules_spares s b h
  · exact .refl m s

/-- The allocation queue with other entries. -/
def State.queued (s : State) (l : List AllocEntry) : State := { s with mpm := { s.mpm with alloc := l } }

theorem queued_spares (s : State) (l : List AllocEntry) (m : ModuleId) : Spares m s (s.queued l) := ⟨rfl, fun _ he _ => he⟩

theorem grantHead_spares {e : AllocEntry} (hc : e.count ≤ s.freeCount) (h : (s.module m).state ≠ .free) :
    Spares m s (s.grantHead e) := by
  obtain ⟨hp, -⟩ := pickAll_picked (b := e.berth) hc
  have hmem : m ∉ (s.pickAll e.berth e.count).2 := fun k => h (grantable_iff.1 (hp.grantable m k)).1
  have hpicked : Spares m s (s.pickAll e.berth e.count).1 := by
    refine ⟨(hp.module m).trans (if_neg hmem), ?_⟩
    obtain ⟨v, hv⟩ := hp.rest
    rw [hv]
    exact fun _ he _ => he
  rw [grantHead_eq]
  refine .trans ?_ (spares_of_mpm (changeOfHoldings_mpm _ _) m)
  refine .trans ?_ (grantPresented_spares _ _ hmem)
  exact hpicked.trans (queued_spares _ _ m)

/-- A grant evaluation changes FREE modules alone. -/
theorem grantEvaluation_spares (s : State) (h : (s.module m).state ≠ .free) : Spares m s s.grantEvaluation := by
  have hloop (n : Nat) : ∀ s : State, (s.module m).state ≠ .free → Spares m s (s.grantLoop n) := by
    induction n with
    | zero => exact fun s _ => .refl m s
    | succ n ih =>
      intro s h
      unfold State.grantLoop
      split
      · split
        case isTrue hc =>
          have hm := grantHead_spares hc h
          exact hm.trans (ih _ (by rwa [hm.1]))
        case isFalse => exact .refl m s
      · exact .refl m s
  unfold State.grantEvaluation
  split
  · exact hloop _ s h
  · exact .refl m s

/-! ## Allocation requests (R63) -/

theorem mem_insertUrgent {e x : AllocEntry} {l : List AllocEntry} (h : x ∈ insertUrgent e l) : x ∈ l ∨ x = e := by
  unfold insertUrgent at h
  rcases List.mem_append.1 h with h | h
  · rcases List.mem_append.1 h with h | h
    · exact .inl (List.mem_of_mem_filter h)
    · exact .inr (List.mem_singleton.1 h)
  · exact .inl (List.mem_of_mem_filter h)

/-- A merged request changes the entries of its berth alone. -/
theorem mem_mergeRequest {b : Berth} {n room : Nat} {w : Urgency} {l : List AllocEntry} {x : AllocEntry}
    (h : x ∈ mergeRequest b n w room l) : x ∈ l ∨ x.berth = b := by
  unfold mergeRequest at h
  split at h
  case h_1 e hfind =>
    have hb : e.berth = b := by simpa using List.find?_some hfind
    dsimp only at h
    split at h
    · rcases mem_insertUrgent h with h | h
      · exact .inl (List.mem_of_mem_filter h)
      · exact .inr (by rw [h]; exact hb)
    · obtain ⟨y, hy, rfl⟩ := List.mem_map.1 h
      split
      · exact .inr hb
      · exact .inl hy
  case h_2 => exact .inl h

/-- An allocation request leaves the queue with entries of its berth besides those that stood, and a grant evaluation may follow. -/
theorem allocRequest_cases (s : State) (b : Berth) (n : Nat) (w : Urgency) : ∃ l, (∀ x ∈ l, x ∈ s.mpm.alloc ∨ x.berth = b)
    ∧ (s.allocRequest b n w = s.queued l ∨ s.allocRequest b n w = (s.queued l).grantEvaluation) := by
  unfold State.allocRequest
  dsimp only
  split
  · exact ⟨_, fun x h => mem_mergeRequest h, .inl rfl⟩
  · split
    · exact ⟨s.mpm.alloc, fun x h => .inl h, .inl rfl⟩
    · refine ⟨_, fun x h => ?_, .inr rfl⟩
      split at h
      · rcases mem_insertUrgent h with h | h
        · exact .inl h
        · exact .inr (by rw [h])
      · rcases List.mem_append.1 h with h | h
        · exact .inl h
        · exact .inr (by rw [List.mem_singleton.1 h])

theorem allocRequest_spares (s : State) (b : Berth) (n : Nat) (w : Urgency) (h : (s.module m).state ≠ .free) :
    Spares m s (s.allocRequest b n w) := by
  obtain ⟨l, -, k | k⟩ := allocRequest_cases s b n w
  · rw [k]
    exact queued_spares s l m
  · rw [k]
    exact (queued_spares s l m).trans (grantEvaluation_spares (s.queued l) h)

theorem touches_allocRequest {B : Berth → Prop} (s : State) (n : Nat) (w : Urgency) (hb : B b) (hB : ∀ e ∈ s.mpm.alloc, B e.berth) :
    Touches B s (s.allocRequest b n w) := by
  obtain ⟨l, hl, k | k⟩ := allocRequest_cases s b n w
  · rw [k]
    exact touches_mpm B s _
  · rw [k]
    refine (touches_mpm B s _).trans (touches_grantEvaluation (s.queued l) fun e he => ?_)
    rcases hl e he with h | h
    · exact hB e h
    · rw [h]
      exact hb

/-! ## Failure (R59, R60) -/

/-- A failed module's record (R60). -/
def failedRecord (c : FailureCause) (r : ModuleRecord) : ModuleRecord :=
  { protectedRecord r with state := .failed, run := .stop, stopPhase := false, cause := some c, berth := none }

/-- The state in which a module has failed, before its former berth hears of it (R60). -/
def State.failed (s : State) (m : ModuleId) (c : FailureCause) : State :=
  (((s.removeOps m).protect m).setModule m (failedRecord c (s.module m))).latchStation .moduleFailed

theorem failModule_eq (s : State) (m : ModuleId) (c : FailureCause) :
    s.failModule m c = match (s.module m).state, (s.module m).berth with
      | .starting, some b => (s.failed m c).failureHoldings b .starting
      | .bound, some b => (s.failed m c).failureHoldings b .bound
      | .stopping, some b => (s.failed m c).failureHoldings b .stopping
      | _, _ => s.failed m c := by
  have hr : ((s.removeOps m).protect m).module m = protectedRecord (s.module m) := by
    rw [protect_module, if_pos rfl]
    rfl
  unfold State.failModule
  dsimp only
  rw [hr] <;> rfl

theorem failModule_cases (s : State) (m : ModuleId) (c : FailureCause) :
    s.failModule m c = s.failed m c ∨ ∃ b old, s.failModule m c = (s.failed m c).failureHoldings b old := by
  have h := failModule_eq s m c
  split at h
  · exact .inr ⟨_, _, h⟩
  · exact .inr ⟨_, _, h⟩
  · exact .inr ⟨_, _, h⟩
  · exact .inl h

theorem failed_module (s : State) (m : ModuleId) (c : FailureCause) : (s.failed m c).module m = failedRecord c (s.module m) :=
  setModule_module_self _ _ _

theorem failed_switching (s : State) (m : ModuleId) (c : FailureCause) : ∀ e ∈ (s.failed m c).mpm.switching, e.module ≠ m := by
  intro e he
  have hp : e ∈ ((s.removeOps m).protect m).mpm.switching := he
  rw [protect_switching] at hp
  simpa using List.of_mem_filter hp

theorem failureHoldings_spares (s : State) (b : Berth) (old : ModuleState) (h : (s.module m).state ≠ .free) :
    Spares m s (s.failureHoldings b old) := by
  have hlatch : Spares m s (if old = .bound then s.latchBerth b .capacityLost else s) := by
    split
    · exact spares_of_mpm rfl m
    · exact .refl m s
  unfold State.failureHoldings
  dsimp only
  refine .trans ?_ (spares_of_mpm (changeOfHoldings_mpm _ _) m)
  generalize (if old = .bound then s.latchBerth b .capacityLost else s) = u at hlatch ⊢
  split
  · exact hlatch.trans (allocRequest_spares u b 1 .urgent (by rwa [hlatch.1]))
  · exact hlatch

/-- Berths of any number: a change that clears no event. -/
def anyBerth (_ : Berth) : Prop := True

theorem touches_failureHoldings (s : State) (b : Berth) (old : ModuleState) : Touches anyBerth s (s.failureHoldings b old) := by
  unfold State.failureHoldings
  dsimp only
  refine .trans ?_ (touches_changeOfHoldings trivial _)
  have hlatch : Touches anyBerth s (if old = .bound then s.latchBerth b .capacityLost else s) :=
    .ite (touches_latchBerth _ s b _) (.refl _ s)
  exact .ite (hlatch.trans (touches_allocRequest _ _ _ trivial fun _ _ => trivial)) hlatch

theorem failed_latched (s : State) (m : ModuleId) (c : FailureCause) : (s.failed m c).isLatched .station 5 = true := by
  unfold State.failed
  exact latchStation_isLatched_self _ .moduleFailed

/-- What stands of a failure when its module is spared and no event is cleared. -/
theorem failed_stands {c : FailureCause} (h : Spares m (s.failed m c) t) (k : Touches anyBerth (s.failed m c) t) :
    t.module m = failedRecord c (s.module m) ∧ (∀ e ∈ t.mpm.switching, e.module ≠ m) ∧ t.isLatched .station 5 = true := by
  refine ⟨h.1.trans (failed_module s m c), fun e he hm => ?_, k.latched _ _ (failed_latched s m c)⟩
  exact failed_switching s m c e (h.2 e he hm) hm

theorem failureHoldings_stands (s : State) (m : ModuleId) (c : FailureCause) (b : Berth) (old : ModuleState) :
    ((s.failed m c).failureHoldings b old).module m = failedRecord c (s.module m)
      ∧ (∀ e ∈ ((s.failed m c).failureHoldings b old).mpm.switching, e.module ≠ m)
      ∧ ((s.failed m c).failureHoldings b old).isLatched .station 5 = true := by
  have hfailed : ((s.failed m c).module m).state ≠ .free := by
    rw [failed_module]
    exact ModuleState.noConfusion
  exact failed_stands (failureHoldings_spares (s.failed m c) b old hfailed) (touches_failureHoldings _ b old)

/-- What a failure leaves of the module and its queue, whatever its berth does then. -/
theorem failModule_kept (s : State) (m : ModuleId) (c : FailureCause) :
    (s.failModule m c).module m = failedRecord c (s.module m) ∧ (∀ e ∈ (s.failModule m c).mpm.switching, e.module ≠ m)
      ∧ (s.failModule m c).isLatched .station 5 = true := by
  rcases failModule_cases s m c with h | ⟨b, old, h⟩
  · rw [h]
    exact ⟨failed_module s m c, failed_switching s m c, failed_latched s m c⟩
  · rw [h]
    exact failureHoldings_stands s m c b old

theorem failModule_fields (s : State) (m : ModuleId) (c : FailureCause) :
    ((s.failModule m c).module m).state = .failed ∧ ((s.failModule m c).module m).cause = some c
      ∧ ((s.failModule m c).module m).berth = none ∧ ((s.failModule m c).module m).run = .stop
      ∧ ((s.failModule m c).module m).stopPhase = false ∧ (∀ e ∈ (s.failModule m c).mpm.switching, e.module ≠ m)
      ∧ (s.failModule m c).isLatched .station 5 = true := by
  obtain ⟨hm, hq, hl⟩ := failModule_kept s m c
  rw [hm]
  exact ⟨rfl, rfl, rfl, rfl, rfl, hq, hl⟩

theorem moduleOperateLimit_reached (ho : (s.module m).op ≠ .none) (ha : 4000 ≤ (s.module m).opAge) :
    s.moduleOperateLimit m = match (s.module m).state with
      | .starting | .bound | .stopping => s.failModule m .operateLimit
      | .failed | .blocked | .free | .cooldown => s.setModule m { s.module m with op := .none, opAge := 0 } := by
  unfold State.moduleOperateLimit
  exact if_pos ⟨ho, ha⟩

/-- Settles O25: the two limits, the second by the module's state. -/
theorem moduleLimits : Obligations.ModuleLimits := by
  refine ⟨fun s m h hr hl => ?_, fun s m h ho ha hst => ?_, fun s m h ho ha hst => ?_⟩
  · have hrun : (s.without (.moduleStartLimit m)).moduleStartLimit m = (s.without (.moduleStartLimit m)).failModule m .startLimit :=
      if_pos (Bool.and_eq_true_iff.2 ⟨hr, decide_eq_true hl⟩)
    exact ⟨_, (next_event h).trans (congrArg Host.Outcome.next hrun), failModule_fields _ m _⟩
  · have hrun : (s.without (.moduleOperateLimit m)).moduleOperateLimit m
        = (s.without (.moduleOperateLimit m)).failModule m .operateLimit := by
      rw [moduleOperateLimit_reached (s := s.without (.moduleOperateLimit m)) ho ha]
      rcases hst with k | k | k <;> rw [show ((s.without (.moduleOperateLimit m)).module m).state = _ from k]
    exact ⟨_, (next_event h).trans (congrArg Host.Outcome.next hrun), failModule_fields _ m _⟩
  · refine (next_event h).trans (congrArg Host.Outcome.next ?_)
    refine (moduleOperateLimit_reached (s := s.without (.moduleOperateLimit m)) ho ha).trans ?_
    rcases hst with k | k <;> rw [show ((s.without (.moduleOperateLimit m)).module m).state = _ from k] <;> rfl

/-! ## Cooldown, block and unblock (R58, R62) -/

theorem grantEvaluation_of_not_operating (h : s.operating = false) : s.grantEvaluation = s := if_neg (by rw [h]; decide)

/-- With no berth waiting an evaluation does nothing. -/
theorem grantEvaluation_of_nil (h : s.mpm.alloc = []) : s.grantEvaluation = s := by
  unfold State.grantEvaluation
  split
  · unfold State.grantLoop
    rw [h]
  · rfl

/-- Settles O26: the event's guard, and an empty queue. -/
theorem cooldownEnd_frees : Obligations.CooldownEnd := by
  intro s m h hs hc
  have hrun : exec (.cooldownEnd m) s
      = .next (((s.without (.cooldownEnd m)).setModule m { s.module m with state := .free }).grantEvaluation) :=
    (next_event h).trans (congrArg Host.Outcome.next (if_pos ⟨hs, hc⟩))
  refine ⟨hrun, fun hnil => hrun.trans (congrArg Host.Outcome.next (grantEvaluation_of_nil ?_))⟩
  exact hnil

theorem moduleOf_eq {a : Byte} (h : a.toNat = m.val) : moduleOf a = some m := by
  unfold moduleOf
  rw [dif_pos (by rw [h]; exact m.isLt)]
  exact congrArg some (Fin.ext h)

theorem moduleOf_eq_none {a : Byte} (h : 8 ≤ a.toNat) : moduleOf a = none := dif_neg (Nat.not_lt.2 h)

theorem onModule_of_some {a : Byte} (h : moduleOf a = some m) (q : List Byte) (f : ModuleId → State → State × Answer) :
    onModule (a :: q) s f = f m s := by
  unfold onModule
  rw [byteAt_head, h]

theorem onModule_of_none {a : Byte} (h : moduleOf a = none) (q : List Byte) (f : ModuleId → State → State × Answer) :
    onModule (a :: q) s f = (s, refused .range) := by
  unfold onModule
  rw [byteAt_head, h]
  rfl

theorem reqBlockModule_eq {a : Byte} (h : a.toNat = m.val) (s : State) :
    reqBlockModule [a] s = match (s.module m).state with
      | .free | .cooldown | .failed => (s.setModule m { s.module m with state := .blocked, cooldown := 0 }, done)
      | .starting | .bound | .stopping => refuse s .state
      | .blocked => (s, done) := by
  unfold reqBlockModule
  exact onModule_of_some (moduleOf_eq h) _ _

theorem reqUnblockModule_eq {a : Byte} (h : a.toNat = m.val) (s : State) :
    reqUnblockModule [a] s = if (s.module m).state = .blocked then
        if (s.module m).op = .none then ((s.setModule m { s.module m with state := .free }).grantEvaluation, done)
        else refuse s .state
      else (s, done) := by
  unfold reqUnblockModule
  exact onModule_of_some (moduleOf_eq h) _ _

/-- A request whose owner's result is known. -/
theorem next_owned {r : Request} {l : List Request} {code : Byte} (h : AtHead s r l) (hc : r.code = code) (hf : lengthFits r = true)
    (n : Nat) {a : Answer} (ho : ownerOf n r.args s.quiet = (t, a)) :
    (Host.Outcome.next (s.requestCommand code (ownerOf n)) : Host.Outcome State Fault Refusal) = .next (t.answered r l a) := by
  rw [next_request h hc hf, ho]

/-- Settles O28: the module's state decides. -/
theorem blockAndUnblock : Obligations.BlockAndUnblock := by
  refine ⟨fun s r l a h hc ha h8 => ?_, fun s r l a m h hc ha hm => ?_, fun s r l a h hc ha h8 => ?_, fun s r l a m h hc ha hm => ?_⟩
  all_goals have hf : lengthFits r = true := fits_of_length hc (by decide) (by rw [ha]; rfl)
  · refine next_owned h hc hf 16 ?_
    rw [ha]
    change reqBlockModule [a] s.quiet = _
    unfold reqBlockModule
    exact onModule_of_none (moduleOf_eq_none h8) _ _
  · have ho : ownerOf 16 r.args s.quiet = _ := (congrArg (ownerOf 16 · s.quiet) ha).trans (reqBlockModule_eq hm s.quiet)
    refine ⟨fun hst => next_owned h hc hf 16 (ho.trans ?_), fun hst => next_owned h hc hf 16 (ho.trans ?_),
      fun hst => next_owned h hc hf 16 (ho.trans ?_)⟩
    · rcases hst with k | k | k <;> rw [show (s.quiet.module m).state = _ from k] <;> rfl
    · rcases hst with k | k | k <;> rw [show (s.quiet.module m).state = _ from k] <;> rfl
    · rw [show (s.quiet.module m).state = _ from hst]
  · refine next_owned h hc hf 17 ?_
    rw [ha]
    change reqUnblockModule [a] s.quiet = _
    unfold reqUnblockModule
    exact onModule_of_none (moduleOf_eq_none h8) _ _
  · have ho : ownerOf 17 r.args s.quiet = _ := (congrArg (ownerOf 17 · s.quiet) ha).trans (reqUnblockModule_eq hm s.quiet)
    refine ⟨fun hst hop => ?_, fun hst hop => next_owned h hc hf 17 ?_, fun hst => next_owned h hc hf 17 ?_⟩
    · have hfree : ownerOf 17 r.args s.quiet = ((s.quiet.setModule m { s.module m with state := .free }).grantEvaluation, done) :=
        ho.trans ((if_pos hst).trans (if_pos hop))
      refine ⟨next_owned h hc hf 17 hfree, fun hidle => next_owned h hc hf 17 (hfree.trans ?_)⟩
      rcases hidle with k | k
      · rw [grantEvaluation_of_not_operating (s := s.quiet.setModule m { s.module m with state := .free }) k]
      · rw [grantEvaluation_of_nil (s := s.quiet.setModule m { s.module m with state := .free }) k]
    · exact ho.trans ((if_pos hst).trans (if_neg hop))
    · exact ho.trans (if_neg hst)

end
end Sys2Proof.Machine

/-! PROOFS. The command sections of forwarded frames (01, R9): their lengths, and what they carry by the state of their owner. -/

namespace Sys2Proof.Machine

open Sys2Proof

section
variable {s : State} {m : ModuleId} {b : Berth} {k : FrameKind} {target : Byte}

theorem bytesOf_one (n : Nat) : bytesOf 1 n = [BitVec.ofNat 8 n] := by simp [bytesOf]

theorem bytesOf_length (w n : Nat) : (bytesOf w n).length = w := by
  induction w with
  | zero => rfl
  | succ w ih => exact congrArg (· + 1) ih

theorem bytesOfInt_length (w : Nat) (z : Int) : (bytesOfInt w z).length = w := bytesOf_length _ _

theorem oscillatorItems_length (s : State) (m : ModuleId) : (s.oscillatorItems m).length = 11 := by
  unfold State.oscillatorItems
  dsimp only
  split
  · simp [bytesOf_length]
  · exact List.length_replicate

theorem ownerSection_length {x : List Byte} (h : s.ownerSection k target = some x) : x.length = (sectionPlace k).2 := by
  unfold State.ownerSection at h
  split at h
  · obtain ⟨m, -, rfl⟩ := Option.map_eq_some_iff.1 h
    simp [State.moduleSection, bytesOf_length, bytesOfInt_length, oscillatorItems_length, sectionPlace]
  · obtain ⟨b, -, rfl⟩ := Option.map_eq_some_iff.1 h
    exact bytesOf_length _ _
  · obtain ⟨b, -, rfl⟩ := Option.map_eq_some_iff.1 h
    simp [State.shipSection, bytesOf_length, sectionPlace]
  all_goals cases h

theorem commandSection_length (s : State) (k : FrameKind) (target : Byte) : (s.commandSection k target).length = (sectionPlace k).2 := by
  have hzeros : (List.replicate (sectionPlace k).2 (0 : Byte)).length = (sectionPlace k).2 := List.length_replicate
  unfold State.commandSection
  dsimp only
  split
  · cases h : s.ownerSection k target with
    | none => exact hzeros
    | some x => exact ownerSection_length h
  · exact hzeros

/-- A body of the length its kind requires ends with its command section (R192). -/
theorem body_length_of_good {n : Nat} (h : hasSection k = true) (hn : lengthGood k n = true) :
    n = (sectionPlace k).1 + (sectionPlace k).2 := by
  revert h hn
  cases k <;> simp [hasSection, lengthGood, sectionPlace]

theorem commandSection_config (h : s.operating = false) (k : FrameKind) (target : Byte) :
    s.commandSection k target = List.replicate (sectionPlace k).2 0 := if_neg (by rw [h]; decide)

theorem commandSection_owner {x : List Byte} (h : s.operating = true) (hx : s.ownerSection k target = some x) :
    s.commandSection k target = x := by
  unfold State.commandSection
  dsimp only
  rw [if_pos h, hx]
  rfl

theorem forwarded_section (h : hasSection k = true) (f : RingFrame) :
    s.forwarded k target f = rewriteFrame f (f.body.take (sectionPlace k).1 ++ s.commandSection k target) := if_pos h

theorem rewriteFrame_body (f : RingFrame) (x : List Byte) : (rewriteFrame f x).body = x := rfl

theorem rewriteFrame_crc (f : RingFrame) (x : List Byte) : (rewriteFrame f x).crc = crc16 (headerBytes f ++ x) := by
  unfold rewriteFrame frameCrc headerBytes
  dsimp only

/-! ## A module's section (R53, R46 to R48) -/

theorem commandSection_mod (h : s.operating = true) (hm : moduleOf target = some m) :
    s.commandSection .mod target = [BitVec.ofNat 8 (moduleCommandCodes (s.module m)).1,
      BitVec.ofNat 8 (moduleCommandCodes (s.module m)).2.1, BitVec.ofNat 8 (moduleCommandCodes (s.module m)).2.2]
      ++ s.oscillatorItems m ++ bytesOfInt 2 (s.powerSetpoint m) := by
  have howner : s.ownerSection .mod target = some (s.moduleSection m) := congrArg (Option.map s.moduleSection) hm
  rw [commandSection_owner h howner]
  unfold State.moduleSection
  simp only [bytesOf_one]
  rfl

/-- A module that is neither STARTING nor BOUND is written no setpoint. -/
theorem section_zeros (h : isHolding (s.module m) = false) :
    s.oscillatorItems m ++ bytesOfInt 2 (s.powerSetpoint m) = List.replicate 13 0 := by
  have hitems : s.oscillatorItems m = List.replicate 11 0 := by
    unfold State.oscillatorItems
    dsimp only
    rw [h]
  have hpower : s.powerSetpoint m = 0 := powerSetpoint_of_not_bound fun k => by simp [isHolding, k] at h
  rw [hitems, hpower]
  decide

theorem commandSection_idle (h : s.operating = true) (hm : moduleOf target = some m) (hr : isHolding (s.module m) = false) :
    s.commandSection .mod target = [BitVec.ofNat 8 (moduleCommandCodes (s.module m)).1,
      BitVec.ofNat 8 (moduleCommandCodes (s.module m)).2.1, BitVec.ofNat 8 (moduleCommandCodes (s.module m)).2.2]
      ++ List.replicate 13 0 := by
  rw [commandSection_mod h hm, List.append_assoc, section_zeros hr]

theorem ofNat_moduleOpCode (o : ModuleOp) :
    BitVec.ofNat 8 (moduleOpCode o) = if o = .none then 0 else if o = .close then 1 else 2 := by
  cases o <;> rfl

theorem moduleCommandCodes_holding {r : ModuleRecord} (h : r.state = .starting ∨ r.state = .bound) (hb : r.berth = some b) :
    moduleCommandCodes r = (1, b.val + 2, moduleOpCode r.op) := by
  unfold moduleCommandCodes
  rcases h with h | h <;> rw [h, hb] <;> rfl

theorem ofNat_controlModeFor (st : SessionState) : [BitVec.ofNat 8 (controlModeFor st)]
    = [if st = .idle then 0 else if st = .parallel ∨ st = .rampIn ∨ st = .rampOut then 2 else (1 : Byte)] := by
  cases st <;> rfl

theorem voltageSetpoint_eq (st : SessionState) (v w : Nat) :
    voltageSetpoint st v w = if st = .syncing then max (v - v / 10) (min (v + v / 10) w) else v := by
  cases st <;> rfl

theorem oscillatorItems_holding {v : Nat} (h : isHolding (s.module m) = true) (hb : (s.module m).berth = some b)
    (hv : (s.session b).vnom = some v) : s.oscillatorItems m
      = bytesOf 4 (s.osc b).k.toNat ++ bytesOf 4 ((s.osc b).phase + (s.osc b).k).toNat
        ++ bytesOf 2 (voltageSetpoint (s.session b).state v (s.meas (.ship b)).lineVolts)
        ++ [BitVec.ofNat 8 (controlModeFor (s.session b).state)] := by
  unfold State.oscillatorItems
  dsimp only
  rw [h, hb]
  dsimp only
  rw [hv, bytesOf_one]
  rfl

/-! ## A breaker's section (R76, R119) -/

theorem ofNat_breakerCode (r : BreakerRecord) : BitVec.ofNat 8 (breakerCode r)
    = if r.command = .open then 2 else if r.command = .close ∧ r.withdrawn = false then 1 else (0 : Byte) := by
  unfold breakerCode
  cases r.command
  · rfl
  · cases r.withdrawn <;> rfl
  · rfl

theorem ofNat_requestBits (r : Session) : BitVec.ofNat 8 (requestBits r)
    = (if r.gensMayDisconnect then 1 else 0) ||| (if r.gensStart then 2 else (0 : Byte)) := by
  unfold requestBits
  cases r.gensMayDisconnect <;> cases r.gensStart <;> rfl

/-- Settles O9: the frame's parts, and the sections by the state of module and breaker. -/
theorem forwardedRewritten : Obligations.ForwardedRewritten := by
  refine ⟨fun s k target f => ⟨fun h => if_neg (by rw [h]; decide), fun h hlen => ?_⟩, fun s m target hop hm => ?_,
    fun s b target hop hb => ?_⟩
  · have hn := body_length_of_good h hlen
    have htake : (f.body.take (sectionPlace k).1).length = (sectionPlace k).1 := by
      rw [List.length_take, hn, Nat.min_eq_left (Nat.le_add_right _ _)]
    have hbody : (f.body.take (sectionPlace k).1 ++ s.commandSection k target).length = f.body.length := by
      rw [List.length_append, htake, commandSection_length, hn]
    dsimp only
    rw [forwarded_section h, rewriteFrame_body, rewriteFrame_crc]
    refine ⟨rfl, rfl, rfl, rfl, rfl, rfl, hbody, rfl, fun hconf i hi hlt => ?_⟩
    rw [commandSection_config hconf] at hlt ⊢
    rw [List.length_append, htake, List.length_replicate] at hlt
    rw [List.getElem?_append_right (by rwa [htake]), htake, List.getElem?_replicate_of_lt (by omega)]
  · intro r op zeros
    have hcodes := commandSection_idle (target := target) hop hm
    have hop' : BitVec.ofNat 8 (moduleOpCode r.op) = op := ofNat_moduleOpCode r.op
    refine ⟨fun hst => ?_, fun hst => ?_, fun b hb => ⟨fun hst => ?_, fun v hv hst => ?_⟩⟩
    · rw [hcodes (by rcases hst with k | k <;> simp [isHolding, r] at k ⊢ <;> simp [k])]
      unfold moduleCommandCodes
      rcases hst with k | k <;> rw [show (s.module m).state = _ from k] <;> rfl
    · rw [hcodes (by rcases hst with k | k <;> simp [isHolding, r] at k ⊢ <;> simp [k]), ← hop']
      unfold moduleCommandCodes
      rcases hst with k | k <;> rw [show (s.module m).state = _ from k] <;> rfl
    · rw [hcodes (by simp [isHolding, r] at hst ⊢; simp [hst]), ← hop']
      unfold moduleCommandCodes
      rw [show (s.module m).state = _ from hst, show (s.module m).berth = _ from hb]
      change _ = (if (s.module m).stopPhase = true then _ else _) ++ _
      cases (s.module m).stopPhase <;> rfl
    · intro x volts mode
      have hhold : isHolding (s.module m) = true := isHolding_iff.2 hst
      have hpower : s.powerSetpoint m = if r.state = .bound then s.powerSetpoint m else 0 := by
        split
        · rfl
        case isFalse h => exact powerSetpoint_of_not_bound h
      rw [commandSection_mod hop hm, moduleCommandCodes_holding hst hb, oscillatorItems_holding hhold hb hv, voltageSetpoint_eq,
        ofNat_controlModeFor, ← hpower, ← hop']
      simp only [List.append_assoc]
      rfl
  · intro command phase x
    have hbrk : s.ownerSection .brk target = some (s.plugSection b) := congrArg (Option.map s.plugSection) hb
    have hsiu : s.ownerSection .siu target = some (s.shipSection b) := congrArg (Option.map s.shipSection) hb
    rw [commandSection_owner hop hbrk, commandSection_owner hop hsiu]
    unfold State.plugSection State.shipSection
    dsimp only
    have hphase : BitVec.ofNat 8 (phaseCode (s.session b).phase) = phase (s.session b).phase := by
      cases (s.session b).phase <;> rfl
    simp only [bytesOf_one, ofNat_breakerCode, ofNat_requestBits, hphase, List.append_assoc]
    exact ⟨rfl, rfl⟩

end
end Sys2Proof.Machine

/-! PROOFS. The handover requests and the ramp (06): the state's entry by its record, and the statements about HANDOVER IN, ABORT
HANDOVER, HANDOVER OUT, SETTLE_END and RAMP_STEP. -/

namespace Sys2Proof.Machine

open Sys2Proof

section
variable {s : State} {b : Berth} {a : Byte}

/-! ## The entry of a state (R95) -/

theorem enterState_sb (s : State) (b : Berth) (st : SessionState) : (s.enterState b st).bsy.sb = s.bsy.sb := by
  obtain ⟨o, h⟩ := enterState_eq s b st
  rw [h]
  rfl

theorem enterState_budget (s : State) (b : Berth) (st : SessionState) : (s.enterState b st).ses.budget = s.ses.budget := by
  obtain ⟨o, h⟩ := enterState_eq s b st
  rw [h]
  rfl

theorem changeMode_phase (o : Osc) (m : OscMode) : (changeMode o m).phase = o.phase ∧ (changeMode o m).fset = o.fset := by
  unfold changeMode
  split <;> exact ⟨rfl, rfl⟩

/-! ## Requests of a berth, by their owners -/

theorem reqHandoverIn_eq (h : berthOf a = some b) (s : State) :
    reqHandoverIn [a] s = if s.operating = false ∨ s.cfs.invalid = true then refuse s .mode
      else if (s.session b).state = .connected ∧ (s.session b).ship = .readyForShore then (s.enterState b .syncing, acceptedWith [])
      else refuse s .state := by
  unfold reqHandoverIn
  exact onBerth_of_some h _ _

theorem reqAbortHandover_eq (h : berthOf a = some b) (s : State) :
    reqAbortHandover [a] s = if (s.session b).state = .syncing then
        if (s.session b).closeIssued = false then (s.enterState b .connected, done)
        else if (s.session b).abortPending then (s, acceptedWith [])
        else (s.withdrawClose b, acceptedWith [])
      else refuse s .state := by
  unfold reqAbortHandover
  exact onBerth_of_some h _ _

theorem reqHandoverOut_eq (h : berthOf a = some b) (s : State) :
    reqHandoverOut [a] s = match (s.session b).state with
      | .shore => (s.enterRecall b, acceptedWith [])
      | .parallel => (s.rampOutIdle b, done)
      | .rampIn => (s.enterState b .rampOut, done)
      | _ => refuse s .state := by
  unfold reqHandoverOut
  exact (onBerth_of_some h _ _).trans rfl

theorem next_range {r : Request} {l : List Request} {code : Byte} (h : AtHead s r l) (hc : r.code = code)
    (hf : lengthFits r = true) (n : Nat) (f : Berth → State → State × Answer) (ha : r.args = [a]) (hn : berthOf a = none)
    (ho : ∀ args t, ownerOf n args t = onBerth args t f) :
    (Host.Outcome.next (s.requestCommand code (ownerOf n)) : Host.Outcome State Fault Refusal)
      = .next (s.quiet.answered r l (refused .range)) := by
  refine next_owned h hc hf n ?_
  rw [ha, ho]
  exact onBerth_of_none hn _ _

/-- A sync close in flight that is withdrawn (R100, R78). -/
theorem withdrawClose_eq (hc : (s.breaker (.sb b)).command = .close) (hw : (s.breaker (.sb b)).withdrawn = false) :
    s.withdrawClose b = (s.setSession b { s.session b with abortPending := true }).setBreaker (.sb b)
      { s.breaker (.sb b) with withdrawn := true, withdrawCycle := s.ext } := by
  have hx : (s.setSession b { s.session b with abortPending := true }).openRequest (.sb b)
      = ((s.setSession b { s.session b with abortPending := true }).setBreaker (.sb b)
          { s.breaker (.sb b) with withdrawn := true, withdrawCycle := s.ext }, false) := by
    exact openRequest_close (s := s.setSession b { s.session b with abortPending := true }) hc hw
  unfold State.withdrawClose
  dsimp only
  rw [hx]
  rfl

/-- Settles O37: the tests of each request in order. -/
theorem handoverRequests : Obligations.HandoverRequests := by
  refine ⟨fun s r l a h hc ha => ⟨fun hn => ?_, fun b hb => ?_⟩, fun s r l a h hc ha => ⟨fun hn => ?_, fun b hb => ?_⟩⟩
  all_goals have hf : lengthFits r = true := fits_of_length hc (by decide) (by rw [ha]; rfl)
  · exact next_range h hc hf 10 _ ha hn fun _ _ => rfl
  · have ho : ownerOf 10 r.args s.quiet = _ := (congrArg (ownerOf 10 · s.quiet) ha).trans (reqHandoverIn_eq hb s.quiet)
    have hready (hop : s.operating = true) (hv : s.cfs.invalid = false) : ¬ (s.operating = false ∨ s.cfs.invalid = true) := by
      simp [hop, hv]
    refine ⟨fun hm => next_owned h hc hf 10 (ho.trans (if_pos hm)), fun hst hop hv => next_owned h hc hf 10 ?_,
      fun hst hop hv => ⟨fun hship => next_owned h hc hf 10 ?_, fun hship => ?_⟩⟩
    · exact ho.trans ((if_neg (hready hop hv)).trans (if_neg fun k => hst k.1))
    · exact ho.trans ((if_neg (hready hop hv)).trans (if_neg fun k => hship k.2))
    · have hx : ownerOf 10 r.args s.quiet = (s.quiet.enterState b .syncing, acceptedWith []) :=
        ho.trans ((if_neg (hready hop hv)).trans (if_pos ⟨hst, hship⟩))
      refine ⟨_, next_owned h hc hf 10 hx, ?_⟩
      have hosc := enterState_osc_self s.quiet b .syncing (by decide)
      simp only [answered_session, answered_osc, answered_sync, answered_mpm, answered_responses, enterState_session_self,
        enterState_sync_self, enterState_mpm, enterState_responses, hosc]
      refine ⟨rfl, rfl, changeMode_mode _ _, (changeMode_phase _ _).1, (changeMode_phase _ _).2, rfl, rfl, rfl, rfl, rfl,
        fun i hi => enterState_session_ne s.quiet _ hi, rfl⟩
  · exact next_range h hc hf 11 _ ha hn fun _ _ => rfl
  · have ho : ownerOf 11 r.args s.quiet = _ := (congrArg (ownerOf 11 · s.quiet) ha).trans (reqAbortHandover_eq hb s.quiet)
    refine ⟨fun hst => next_owned h hc hf 11 (ho.trans (if_neg hst)), fun hst hi => ?_, fun hst hi hp hk hw => ?_,
      fun hst hi hp => next_owned h hc hf 11 ?_⟩
    · have hx : ownerOf 11 r.args s.quiet = (s.quiet.enterState b .connected, done) := ho.trans ((if_pos hst).trans (if_pos hi))
      refine ⟨_, next_owned h hc hf 11 hx, ?_⟩
      have hstate : (s.quiet.session b).state = .syncing := hst
      simp only [answered_session, answered_sync, answered_bsy, answered_responses, enterState_session_self,
        enterState_sync_self, enterState_responses, enterState_sb, hstate]
      exact ⟨rfl, rfl, rfl, rfl⟩
    · have hx : ownerOf 11 r.args s.quiet = (s.quiet.withdrawClose b, acceptedWith []) := by
        refine ho.trans ((if_pos hst).trans ((if_neg ?_).trans (if_neg ?_)))
        · change (s.session b).closeIssued ≠ false
          rw [hi]
          decide
        · change (s.session b).abortPending ≠ true
          rw [hp]
          decide
      refine (next_owned h hc hf 11 hx).trans ?_
      rw [withdrawClose_eq (s := s.quiet) hk hw]
      rfl
    · refine ho.trans ((if_pos hst).trans ((if_neg ?_).trans (if_pos hp)))
      change (s.session b).closeIssued ≠ false
      rw [hi]
      decide

/-- Settles O38: the session's state decides. -/
theorem handoverOut : Obligations.HandoverOut := by
  intro s r l a h hc ha
  have hf : lengthFits r = true := fits_of_length hc (by decide) (by rw [ha]; rfl)
  refine ⟨fun hn => next_range h hc hf 12 _ ha hn fun _ _ => rfl, fun b hb => ?_⟩
  have ho : ownerOf 12 r.args s.quiet = _ := (congrArg (ownerOf 12 · s.quiet) ha).trans (reqHandoverOut_eq hb s.quiet)
  refine ⟨fun hst => ?_, fun hst => ?_, fun hst => ?_, fun h1 h2 h3 => next_owned h hc hf 12 (ho.trans ?_)⟩
  · rw [show (s.quiet.session b).state = _ from hst] at ho
    refine ⟨_, next_owned h hc hf 12 ho, ?_⟩
    unfold State.enterRecall
    dsimp only
    simp only [answered_session, answered_osc, answered_responses, setSession_session_self, setSession_osc, enterState_session_self,
      enterState_osc_self s.quiet b .recall (by decide)]
    exact ⟨rfl, True.intro, rfl, changeMode_mode _ _, rfl, congrArg (· ++ _) (enterState_responses s.quiet b .recall)⟩
  · rw [show (s.quiet.session b).state = _ from hst] at ho
    refine ⟨_, next_owned h hc hf 12 ho, ?_⟩
    unfold State.rampOutIdle
    dsimp only
    simp only [answered_session, answered_responses, setSession_session_self, enterState_session_self]
    exact ⟨rfl, True.intro, congrArg (· ++ _) (enterState_responses s.quiet b .rampOut)⟩
  · rw [show (s.quiet.session b).state = _ from hst] at ho
    refine ⟨_, next_owned h hc hf 12 ho, ?_⟩
    have hstate : (s.quiet.session b).state = .rampIn := hst
    simp only [answered_session, answered_responses, enterState_session_self, enterState_responses]
    refine ⟨rfl, rfl, rfl, rfl, ?_, rfl⟩
    unfold sessionAtEntry
    dsimp only
    rw [if_pos hstate]
  · split
    case h_1 k => exact absurd k h1
    case h_2 k => exact absurd k h2
    case h_3 k => exact absurd k h3
    case h_4 => rfl

/-! ## The ramp (R101 to R106) -/

theorem settleEnd_eq (h1 : (s.session b).state = .parallel) (h2 : (s.session b).settle = 0) :
    s.settleEnd b = (s.enterState b .rampIn).setSession b { (s.enterState b .rampIn).session b with share := 0 } :=
  if_pos ⟨h1, h2⟩

/-- The state with a berth's step timer restarted and its cap formed (R102, R104). -/
def State.stepBegun (s : State) (b : Berth) : State := (s.setSession b { s.session b with stepTimer := 0 }).formCap b

theorem rampStep_eq (hk : keepsShare (s.session b).state = true) (ht : 399 ≤ (s.session b).stepTimer) :
    s.rampStep b = if (s.session b).state = .rampIn then (s.stepBegun b).rampInStep b else (s.stepBegun b).rampOutStep b :=
  if_pos ⟨hk, ht⟩

theorem stepBegun_session (s : State) (b : Berth) : (s.stepBegun b).session b = { s.session b with
    stepTimer := 0, sigma := s.boundRating b, cap := s.boundRating b * (s.berthEntry b).loading.toNat / 100,
    share := min (s.session b).share (s.boundRating b * (s.berthEntry b).loading.toNat / 100) } := by
  unfold State.stepBegun
  rw [formCap_session_self, setSession_session_self]
  rfl

theorem stepBegun_session_ne (s : State) {b i : Berth} (h : i ≠ b) : (s.stepBegun b).session i = s.session i := by
  unfold State.stepBegun
  rw [formCap_session_ne _ h, setSession_session_ne _ _ _ h]

/-- What a ramp step leaves alone. -/
theorem stepBegun_rest (s : State) (b : Berth) : (s.stepBegun b).mpm = s.mpm ∧ (s.stepBegun b).bsy = s.bsy
    ∧ (s.stepBegun b).mbu = s.mbu ∧ (s.stepBegun b).ses.budget = s.ses.budget ∧ (s.stepBegun b).cfs = s.cfs := ⟨rfl, rfl, rfl, rfl, rfl⟩

/-- The increase of a RAMP_IN step (R102). -/
def State.increase (s : State) (b : Berth) : Nat :=
  min (stepSize (s.berthEntry b).rampRate.toNat) ((s.session b).cap - (s.session b).share)

theorem rampInStep_taken (h1 : (s.session b).share < (s.session b).cap) (h2 : s.increase b ≤ s.ses.budget) :
    s.rampInStep b = { s.setSession b { s.session b with share := (s.session b).share + s.increase b } with
      ses := { (s.setSession b { s.session b with share := (s.session b).share + s.increase b }).ses with
        budget := s.ses.budget - s.increase b } } := if_pos ⟨h1, h2⟩

theorem rampInStep_not_taken (h : ¬ ((s.session b).share < (s.session b).cap ∧ s.increase b ≤ s.ses.budget)) :
    s.rampInStep b = s := if_neg h

/-- A RAMP_IN step: the whole increase when the budget holds it, nothing else besides share and budget (R102, R106). -/
theorem rampInStep_fields (hcap : (s.session b).share ≤ (s.session b).cap) :
    ((s.rampInStep b).session b = { s.session b with
        share := if s.increase b ≤ s.ses.budget then (s.session b).share + s.increase b else (s.session b).share })
      ∧ (s.rampInStep b).ses.budget = (if s.increase b ≤ s.ses.budget then s.ses.budget - s.increase b else s.ses.budget)
      ∧ (∀ i, i ≠ b → (s.rampInStep b).session i = s.session i) ∧ (s.rampInStep b).mpm = s.mpm ∧ (s.rampInStep b).bsy = s.bsy
      ∧ (s.rampInStep b).mbu = s.mbu := by
  by_cases hb : s.increase b ≤ s.ses.budget
  · rw [if_pos hb, if_pos hb]
    by_cases hlt : (s.session b).share < (s.session b).cap
    · rw [rampInStep_taken hlt hb]
      exact ⟨setSession_session_self _ _ _, rfl, fun i hi => setSession_session_ne _ _ _ hi, rfl, rfl, rfl⟩
    · have hzero : s.increase b = 0 := by
        unfold State.increase
        omega
      rw [rampInStep_not_taken fun k => hlt k.1, hzero]
      exact ⟨rfl, rfl, fun _ _ => rfl, rfl, rfl, rfl⟩
  · rw [if_neg hb, if_neg hb, rampInStep_not_taken fun k => hb k.2]
    exact ⟨rfl, rfl, fun _ _ => rfl, rfl, rfl, rfl⟩

theorem rampOutStep_session (s : State) (b : Berth) : (s.rampOutStep b).session b = { s.session b with
    share := (s.session b).share - min (stepSize (s.berthEntry b).rampRate.toNat) (s.session b).share
    quietSeconds := if min (stepSize (s.berthEntry b).rampRate.toNat) (s.session b).share = 0 then (s.session b).quietSeconds
      else 0 } := setSession_session_self _ _ _

/-- Settles O42: the end of the settle time, and a step in each of the two states. -/
theorem settleAndRamp : Obligations.SettleAndRamp := by
  refine ⟨fun s b h hst hset => ?_, fun s b h ht => ?_⟩
  · refine ⟨_, (next_event h).trans (congrArg Host.Outcome.next (settleEnd_eq (s := s.without (.settleEnd b)) hst hset)), ?_⟩
    simp only [setSession_session_self, setSession_osc, enterState_session_self,
      enterState_osc_self (s.without (.settleEnd b)) b .rampIn (by decide)]
    refine ⟨rfl, True.intro, rfl, rfl, changeMode_mode _ _, ?_, ?_, ?_⟩
    · exact enterState_budget _ _ _
    · exact enterState_mpm _ _ _
    · exact enterState_sb _ _ _
  · intro cap p size
    have hkeep (st : SessionState) (hst : (s.session b).state = st) (hk : keepsShare st = true) :=
      rampStep_eq (s := s.without (.rampStep b)) (b := b) (by rw [show ((s.without (.rampStep b)).session b).state = st from hst]; exact hk) ht
    have hsession : ((s.without (.rampStep b)).stepBegun b).session b = { s.session b with
        stepTimer := 0, sigma := s.boundRating b, cap := cap, share := p } := stepBegun_session _ b
    refine ⟨fun hst => ?_, fun hst => ?_⟩
    · have hrun : exec (.rampStep b) s = .next (((s.without (.rampStep b)).stepBegun b).rampInStep b) :=
        (next_event h).trans (congrArg Host.Outcome.next ((hkeep _ hst rfl).trans (if_pos hst)))
      have hinc : ((s.without (.rampStep b)).stepBegun b).increase b = min size (cap - p) := by
        unfold State.increase
        rw [hsession]
        rfl
      have hcap : (((s.without (.rampStep b)).stepBegun b).session b).share
          ≤ (((s.without (.rampStep b)).stepBegun b).session b).cap := by
        rw [hsession]
        exact Nat.min_le_right _ _
      obtain ⟨hself, hbudget, hothers, hmpm, hbsy, hmbu⟩ := rampInStep_fields hcap
      rw [hinc, hsession] at hself
      rw [hinc] at hbudget
      refine ⟨_, hrun, ?_⟩
      dsimp only
      rw [hself, hbudget]
      refine ⟨rfl, rfl, hst, fun hle => ⟨if_pos hle, if_pos hle⟩, fun hlt => ⟨if_neg (Nat.not_le.2 hlt), if_neg (Nat.not_le.2 hlt)⟩,
        fun i hi => (hothers i hi).trans (stepBegun_session_ne _ hi), hmpm, hbsy, hmbu⟩
    · have hrun : exec (.rampStep b) s = .next (((s.without (.rampStep b)).stepBegun b).rampOutStep b) :=
        (next_event h).trans (congrArg Host.Outcome.next ((hkeep _ hst rfl).trans (if_neg (by
          rw [show ((s.without (.rampStep b)).session b).state = _ from hst]
          decide))))
      have hself := rampOutStep_session ((s.without (.rampStep b)).stepBegun b) b
      rw [hsession] at hself
      refine ⟨_, hrun, ?_⟩
      dsimp only
      rw [hself]
      refine ⟨rfl, rfl, hst, ?_, rfl, fun hp => if_neg ?_, fun i hi => ?_, rfl, rfl, rfl⟩
      · change p - min size p = p - size
        omega
      · change min size p ≠ 0
        have hsize : 1 ≤ size := Nat.le_max_left _ _
        omega
      · exact (setSession_session_ne _ _ _ hi).trans (stepBegun_session_ne _ hi)

end
end Sys2Proof.Machine

/-! PROOFS. What grants and faults leave of a session that has been opened (04, 06, 07): its identity, its oscillator's tone and its
supervision's attempts; and the statements about OPEN SESSION and the stage limits. -/

namespace Sys2Proof.Machine

open Sys2Proof

/-- What a session carries from its opening to its end: its number and what its request gave, its end reason, and the ship's state. -/
def identity (r : Session) : Option Nat × Option (BitVec 32) × Option Nat × Option Nat × Nat × Option EndReason × ShipState :=
  (r.number, r.account, r.fnom, r.vnom, r.requested, r.endReason, r.ship)

/-- A session's state with its strikes and its stage timer. -/
def stageOf (r : Session) : SessionState × Nat × Nat := (r.state, r.strikes, r.stageTimer)

/-- The supervision's record of the trip. -/
def tripOf (v : Supervision) : Nat × Option FaultKind × Option FaultClass × Bool × Nat :=
  (v.attempts, v.tripKind, v.tripClass, v.restartDue, v.restartTimer)

/-- A berth's session carried on: its identity, its oscillator's nominal frequency and phase, its attempts. -/
structure Carries (b : Berth) (s t : State) : Prop where
  identity : identity (t.session b) = identity (s.session b)
  fnom : (t.osc b).fnom = (s.osc b).fnom
  phase : (t.osc b).phase = (s.osc b).phase
  attempts : (t.superv b).attempts = (s.superv b).attempts

/-- A berth's session carried on by grants: it may pass from RESERVING to ENERGISING. -/
structure Serves (b : Berth) (s t : State) : Prop extends Carries b s t where
  trip : tripOf (t.superv b) = tripOf (s.superv b)
  stage : stageOf (t.session b) = stageOf (s.session b)
    ∨ (s.session b).state = .reserving ∧ (t.session b).state = .energising

section
variable {s t u : State} {b : Berth} {k : FaultKind}

theorem Carries.refl (b : Berth) (s : State) : Carries b s s := ⟨rfl, rfl, rfl, rfl⟩

theorem Carries.trans (h : Carries b s t) (k : Carries b t u) : Carries b s u :=
  ⟨k.identity.trans h.identity, k.fnom.trans h.fnom, k.phase.trans h.phase, k.attempts.trans h.attempts⟩

theorem Serves.refl (b : Berth) (s : State) : Serves b s s := ⟨.refl b s, rfl, .inl rfl⟩

theorem stageOf_state {r q : Session} (h : stageOf r = stageOf q) : r.state = q.state := congrArg Prod.fst h

theorem Serves.trans (h : Serves b s t) (k : Serves b t u) : Serves b s u := by
  refine ⟨h.toCarries.trans k.toCarries, k.trip.trans h.trip, ?_⟩
  rcases h.stage with hs | ⟨hs, hst⟩
  · rcases k.stage with ks | ⟨ks, kst⟩
    · exact .inl (ks.trans hs)
    · exact .inr ⟨(stageOf_state hs).symm.trans ks, kst⟩
  · rcases k.stage with ks | ⟨ks, kst⟩
    · exact .inr ⟨hs, (stageOf_state ks).trans hst⟩
    · exact .inr ⟨hs, kst⟩

theorem SameBerth.serves (h : SameBerth b s t) : Serves b s t := by
  refine ⟨⟨?_, ?_, ?_, ?_⟩, ?_, .inl ?_⟩
  · rw [h.session]
  · rw [h.osc]
  · rw [h.osc]
  · rw [h.superv]
  · rw [h.superv]
  · rw [h.session]

/-- A session that is open and not ending. -/
def live (r : Session) : Prop := r.state ≠ .draining ∧ r.state ≠ .faulted ∧ r.state ≠ .idle

theorem Serves.live (h : Serves b s t) (hl : live (s.session b)) : live (t.session b) := by
  rcases h.stage with hs | ⟨-, hst⟩
  · rw [Machine.live, stageOf_state hs]
    exact hl
  · rw [Machine.live, hst]
    decide

/-- A written session record that keeps identity and stage. -/
theorem serves_setSession {r : Session} (hi : identity r = identity (s.session b)) (hs : stageOf r = stageOf (s.session b)) :
    Serves b s (s.setSession b r) := by
  refine ⟨⟨?_, rfl, rfl, rfl⟩, rfl, .inl ?_⟩
  · rw [setSession_session_self]
    exact hi
  · rw [setSession_session_self]
    exact hs

/-! ## The records that the plug breaker's close leaves -/

theorem closeRequest_osc (s : State) (x : Breaker) (c : Berth) : (s.closeRequest x).1.osc c = s.osc c := by
  obtain ⟨r, h⟩ := closeRequest_eq s x
  rw [h, setBreaker_osc]

theorem closeRequest_superv (s : State) (x : Breaker) (c : Berth) : (s.closeRequest x).1.superv c = s.superv c := by
  obtain ⟨r, h⟩ := closeRequest_eq s x
  rw [h, setBreaker_superv]

theorem pbCloseComplete_osc (s : State) (b c : Berth) : (s.pbCloseComplete b).osc c = s.osc c := by
  unfold State.pbCloseComplete
  split
  · exact (((BillingOnly.refl b (s.setSession b { s.session b with metering := true, phase := .cableLive })).startMetering _ _ _).osc c)
  · rfl

theorem pbCloseComplete_superv (s : State) (b c : Berth) : (s.pbCloseComplete b).superv c = s.superv c := by
  unfold State.pbCloseComplete
  split
  · exact (((BillingOnly.refl b (s.setSession b { s.session b with metering := true, phase := .cableLive })).startMetering _ _ _).superv c)
  · rfl

theorem presentPbClose_osc (s : State) (b c : Berth) : (s.presentPbClose b).osc c = s.osc c := by
  unfold State.presentPbClose
  dsimp only
  split
  · exact closeRequest_osc s _ c
  · exact closeRequest_osc s _ c
  · exact (pbCloseComplete_osc _ b c).trans (closeRequest_osc s _ c)
  · exact closeRequest_osc s _ c

theorem presentPbClose_superv (s : State) (b c : Berth) : (s.presentPbClose b).superv c = s.superv c := by
  unfold State.presentPbClose
  dsimp only
  split
  · exact closeRequest_superv s _ c
  · exact closeRequest_superv s _ c
  · exact (pbCloseComplete_superv _ b c).trans (closeRequest_superv s _ c)
  · exact closeRequest_superv s _ c

/-! ## Grants -/

theorem not_ready_of_live {r : Session} (hd : r.state ≠ .draining) (hf : r.state ≠ .faulted) : readyForIdle r = false := by
  cases k : readyForIdle r
  · rfl
  · rcases readyForIdle_state k with k | k
    · exact absurd k hd
    · exact absurd k hf

/-- A change of holdings of a session that is not ending writes its counts and its cap, and in ENERGISING the plug breaker's close. -/
theorem changeOfHoldings_serves (hd : (s.session b).state ≠ .draining) (hf : (s.session b).state ≠ .faulted) :
    Serves b s (s.changeOfHoldings b) := by
  have hcount : Serves b s (s.recount b) := by
    rw [recount_eq]
    exact serves_setSession rfl rfl
  rw [changeOfHoldings_eq, tryIdle_of_not_ready]
  · split
    · obtain ⟨⟨a, r, m, p, h⟩, -⟩ := presentPbClose_session (s.recount b) b
      refine hcount.trans ⟨⟨by rw [h]; rfl, ?_, ?_, ?_⟩, ?_, .inl (by rw [h]; rfl)⟩
      · rw [presentPbClose_osc]
      · rw [presentPbClose_osc]
      · rw [presentPbClose_superv]
      · rw [presentPbClose_superv]
    · exact hcount
  · refine not_ready_of_live ?_ ?_
    all_goals
      split
      · obtain ⟨⟨a, r, m, p, h⟩, -⟩ := presentPbClose_session (s.recount b) b
        rw [h, recount_eq, setSession_session_self]
        assumption
      · rw [recount_eq, setSession_session_self]
        assumption

theorem filtersAtEntry_trip (st : SessionState) (v : Supervision) : tripOf (filtersAtEntry st v) = tripOf v := by
  cases st <;> rfl

theorem changeMode_fnom (o : Osc) (m : OscMode) : (changeMode o m).fnom = o.fnom := by
  unfold changeMode
  split <;> rfl

/-- An entry into a state other than RESERVING carries the session on. -/
theorem enterState_carries (s : State) (b : Berth) {st : SessionState} (h : st ≠ .reserving) : Carries b s (s.enterState b st) := by
  refine ⟨?_, ?_, ?_, ?_⟩
  · rw [enterState_session_self]
    rfl
  · rw [enterState_osc_self _ _ _ h, changeMode_fnom]
  · rw [enterState_osc_self _ _ _ h, (changeMode_phase _ _).1]
  · rw [enterState_superv_self]
    exact congrArg Prod.fst (filtersAtEntry_trip st (s.superv b))

theorem energise_serves (h : (s.session b).state = .reserving) : Serves b s (s.enterState b .energising) := by
  refine ⟨enterState_carries s b (by decide), ?_, .inr ⟨h, ?_⟩⟩
  · rw [enterState_superv_self]
    exact filtersAtEntry_trip _ _
  · rw [enterState_session_self]
    rfl

theorem granted_serves {e : AllocEntry} (hc : e.count ≤ s.freeCount) : Serves b s (s.granted e) := by
  obtain ⟨hp, -⟩ := pickAll_picked (b := e.berth) hc
  obtain ⟨v, hv⟩ := hp.rest
  unfold State.granted
  rw [hv]
  exact ⟨⟨rfl, rfl, rfl, rfl⟩, rfl, .inl rfl⟩

theorem grantHead_serves {e : AllocEntry} (hc : e.count ≤ s.freeCount) (hl : live (s.session b)) : Serves b s (s.grantHead e) := by
  by_cases hb : b = e.berth
  · have hg : Serves b s (s.granted e) := granted_serves hc
    obtain ⟨hd, hf, hi⟩ := hg.live hl
    have hp : Serves b (s.granted e) ((s.granted e).grantPresented b (s.pickAll b e.count).2) := by
      rw [grantPresented_kept _ hd hf hi]
      split
      case isTrue h => exact energise_serves h
      case isFalse => exact .refl b _
    obtain ⟨hd', hf', -⟩ := hp.live (hg.live hl)
    rw [grantHead_eq, ← hb]
    exact (hg.trans hp).trans (changeOfHoldings_serves hd' hf')
  · exact ((touches_grantHead (B := (· = e.berth)) s rfl).frame b hb).serves

/-- A grant evaluation carries on every session that is not ending (R64, R96). -/
theorem grantEvaluation_serves (hl : live (s.session b)) : Serves b s s.grantEvaluation := by
  have hloop (n : Nat) : ∀ s : State, live (s.session b) → Serves b s (s.grantLoop n) := by
    induction n with
    | zero => exact fun s _ => .refl b s
    | succ n ih =>
      intro s hl
      unfold State.grantLoop
      split
      · split
        case isTrue hc =>
          have hg := grantHead_serves hc hl
          exact hg.trans (ih _ (hg.live hl))
        case isFalse => exact .refl b s
      · exact .refl b s
  unfold State.grantEvaluation
  split
  · exact hloop _ s hl
  · exact .refl b s

theorem queued_serves (s : State) (b : Berth) (l : List AllocEntry) : Serves b s (s.queued l) := ⟨⟨rfl, rfl, rfl, rfl⟩, rfl, .inl rfl⟩

theorem allocRequest_serves (c : Berth) (n : Nat) (w : Urgency) (hl : live (s.session b)) : Serves b s (s.allocRequest c n w) := by
  obtain ⟨l, -, h | h⟩ := allocRequest_cases s c n w
  · rw [h]
    exact queued_serves s b l
  · rw [h]
    exact (queued_serves s b l).trans (grantEvaluation_serves hl)

/-! ## Faults -/

theorem tripModules_carries (hs : (s.session b).state = .faulted) (he : (s.session b).endReason ≠ some .fault) :
    Carries b s (s.tripModules b) := by
  obtain ⟨p, hp⟩ := tripEach_rest s (s.modulesOf b)
  rw [tripModules_eq, hp, changeOfHoldings_of_plain]
  · refine ⟨?_, rfl, rfl, rfl⟩
    rw [setSession_session_self]
    rfl
  · exact fun h => absurd (hs.symm.trans h) (by decide)
  · exact readyForIdle_of_faulted hs he

theorem tripPbComplete_carries (hs : (s.session b).state = .faulted) : Carries b s (s.tripPbComplete b) := by
  have hstay := tripPbComplete_staysFaulted hs
  refine ⟨?_, by rw [hstay.osc], by rw [hstay.osc], by rw [hstay.superv]⟩
  unfold State.tripPbComplete
  split
  · rw [pbOpenComplete_faulted hs]
    split
    · rw [setSession_session_self, endMetering_session]
      rfl
    · rfl
  · rfl

theorem tripBreakers_carries (s : State) (b : Berth) : Carries b s (s.tripBreakers b) := by
  obtain ⟨p, h, hr⟩ := tripBreakers_rest s b
  rw [hr]
  exact ⟨rfl, rfl, rfl, rfl⟩

theorem setSuperv_carries {v : Supervision} (h : v.attempts = (s.superv b).attempts) : Carries b s (s.setSuperv b v) :=
  ⟨rfl, rfl, rfl, by rw [setSuperv_superv_self]; exact h⟩

theorem enterFaulted_carries (hi : (s.session b).state ≠ .idle) : Carries b s (s.enterFaulted b) := by
  have hcancel : Carries b s (s.cancelAlloc b) := (cancelAlloc_same s b).serves.toCarries
  rw [enterFaulted_eq hi]
  refine (hcancel.trans (enterState_carries _ b (by decide))).trans ⟨?_, rfl, rfl, rfl⟩
  rw [setSession_session_self]
  rfl

theorem latchBerth_carries (s : State) (b c : Berth) (f : BerthFlag) : Carries b s (s.latchBerth c f) :=
  ⟨rfl, rfl, rfl, rfl⟩

/-- The pool's part of a trip and what follows it carry a FAULTED session on. -/
theorem tripped_carries (hs : (s.session b).state = .faulted) (he : (s.session b).endReason ≠ some .fault) :
    Carries b s ((s.tripModules b).tripPbComplete b) :=
  (tripModules_carries hs he).trans (tripPbComplete_carries (tripModules_staysFaulted hs he).state)

theorem setRestartTimer_carries (s : State) (b : Berth) : Carries b s (s.setRestartTimer b) := setSuperv_carries rfl

/-- A fault carries on a session that is not IDLE, into FAULTED or in the state it has (R130, R131). -/
theorem fault_carries (hi : (s.session b).state ≠ .idle) (he : (s.session b).endReason ≠ some .fault) :
    Carries b s (s.fault b k)
      ∧ (((s.fault b k).session b).state = (s.session b).state ∨ ((s.fault b k).session b).state = .faulted) := by
  by_cases hc : s.classFor k = .warn
  · rw [fault_warn hi hc]
    refine ⟨(setSuperv_carries ?_).trans (latchBerth_carries _ b b _), .inl rfl⟩
    rfl
  · by_cases hf : (s.session b).state = .faulted
    · rw [fault_later hf hc]
      refine ⟨?_, .inr (laterFault_kept _ hf he).1⟩
      rw [laterFault_eq]
      have hl : Carries b s (s.laterTripped b k (s.classFor k)) :=
        (setSuperv_carries (v := { s.superv b with
          laterFaults := satAdd 255 (s.superv b).laterFaults 1, laterKind := some k,
          tripClass := some (laterClass (s.classFor k) (s.superv b).tripClass) }) rfl).trans (tripBreakers_carries _ b)
      have hsame := laterTripped_session s b k (s.classFor k)
      exact ((hl.trans (tripped_carries (by rwa [hsame]) (by rwa [hsame]))).trans (setRestartTimer_carries _ b)).trans
        (latchBerth_carries _ b b _)
    · rw [fault_trip hi hf hc]
      refine ⟨?_, .inr (trip_kept _ hi he).1⟩
      generalize tripClassFor (s.superv b).attempts (s.classFor k) = c
      rw [trip_eq]
      have hbreakers : Carries b s ((s.setSuperv b (tripRecord k c s.rif.cycle s.ctu.time (s.superv b))).tripBreakers b) :=
        (setSuperv_carries (v := tripRecord k c s.rif.cycle s.ctu.time (s.superv b)) rfl).trans (tripBreakers_carries _ b)
      have hidle : (((s.setSuperv b (tripRecord k c s.rif.cycle s.ctu.time (s.superv b))).tripBreakers b).session b).state ≠ .idle := by
        rwa [tripBreakers_session, setSuperv_session]
      have hentered : Carries b s (s.tripEntered b k c) := hbreakers.trans (enterFaulted_carries hidle)
      obtain ⟨e, hses⟩ := tripEntered_session (k := k) hi c
      refine ((hentered.trans (tripped_carries ?_ ?_)).trans (latchBerth_carries _ b b _)).trans (setRestartTimer_carries _ b)
      · rw [hses]
        rfl
      · rw [hses]
        exact he

theorem Carries.endReason (h : Carries b s t) : (t.session b).endReason = (s.session b).endReason :=
  congrArg (fun x => x.2.2.2.2.2.1) h.identity

theorem faultIf_carries (w : Bool) (hi : (s.session b).state ≠ .idle) (he : (s.session b).endReason ≠ some .fault) :
    Carries b s (s.faultIf w b k) ∧ ((s.faultIf w b k).session b).state ≠ .idle := by
  unfold State.faultIf
  split
  · obtain ⟨hc, hs⟩ := fault_carries (k := k) hi he
    refine ⟨hc, ?_⟩
    rcases hs with hs | hs
    · rwa [hs]
    · rw [hs]
      decide
  · exact ⟨.refl b s, hi⟩

/-- The checks at an opening carry the session on (R129). -/
theorem openingFaults_carries (hi : (s.session b).state ≠ .idle) (he : (s.session b).endReason ≠ some .fault) :
    Carries b s (s.openingFaults b) ∧ ((s.openingFaults b).session b).state ≠ .idle := by
  unfold State.openingFaults
  dsimp only
  obtain ⟨h1, i1⟩ := faultIf_carries (k := .meterLost) (s.roleLost .muBerth b.val) hi he
  obtain ⟨h2, i2⟩ := faultIf_carries (k := .plugUnitLost) (s.roleLost .plugBu b.val) i1 (by rwa [h1.endReason])
  have h12 := h1.trans h2
  obtain ⟨h3, i3⟩ := faultIf_carries (k := .shipLinkLost) (s.roleLost .siu b.val) i2 (by rwa [h12.endReason])
  have h13 := h12.trans h3
  obtain ⟨h4, i4⟩ := faultIf_carries (k := .shipEsd) ((s.session b).ship == .shipEsd) i3 (by rwa [h13.endReason])
  exact ⟨h13.trans h4, i4⟩

theorem openingFaults_of_sound (hl : s.berthNodeLost b = false) (hs : (s.session b).ship ≠ .shipEsd) : s.openingFaults b = s := by
  unfold State.berthNodeLost at hl
  simp only [Bool.or_eq_false_iff] at hl
  obtain ⟨⟨h1, h2⟩, h3⟩ := hl
  unfold State.openingFaults
  rw [h1, h2, h3, beq_eq_false_iff_ne.2 hs]
  rfl

/-! ## OPEN SESSION (R94) -/

theorem roleLost_of (hr : t.rif = s.rif) (hc : t.cfs = s.cfs) (r : Role) (n : Nat) : t.roleLost r n = s.roleLost r n := by
  unfold State.roleLost State.health
  rw [hr, hc]

theorem berthNodeLost_of (hr : t.rif = s.rif) (hc : t.cfs = s.cfs) (b : Berth) : t.berthNodeLost b = s.berthNodeLost b := by
  unfold State.berthNodeLost
  rw [roleLost_of hr hc, roleLost_of hr hc, roleLost_of hr hc]

theorem touches_openingFaults (s : State) (b : Berth) : Touches anyBerth s (s.openingFaults b) := by
  unfold State.openingFaults
  have step (u : State) (w : Bool) (k : FaultKind) : Touches anyBerth u (u.faultIf w b k) :=
    touches_faultIf trivial u (fun _ _ _ => trivial) w k
  exact (((step _ _ _).trans (step _ _ _)).trans (step _ _ _)).trans (step _ _ _)

/-- The state in which an opened session is in RESERVING, before its modules are asked for (R94). -/
def State.reserved (s : State) (b : Berth) (a : OpenArgs) : State :=
  ((({ s with ses := { s.ses with nextNumber := numberAfter s.ses.nextNumber } } : State).setSession b
    { s.session b with
      number := some s.ses.nextNumber, account := some a.account, fnom := some a.fnom, vnom := some a.vnom
      requested := a.count, endReason := none }).setSuperv b { s.superv b with attempts := 0 }).enterState b .reserving

theorem openedSession_eq (s : State) (b : Berth) (a : OpenArgs) :
    s.openedSession b a = ((s.reserved b a).allocRequest b a.count .normal).openingFaults b := rfl

theorem reserved_session (s : State) (b : Berth) (a : OpenArgs) : (s.reserved b a).session b
    = sessionAtEntry (s.berthEntry b) .reserving { s.session b with
      number := some s.ses.nextNumber, account := some a.account, fnom := some a.fnom, vnom := some a.vnom
      requested := a.count, endReason := none } := by
  unfold State.reserved
  rw [enterState_session_self, setSuperv_session, setSession_session_self]
  rfl

theorem reserved_osc (s : State) (b : Berth) (a : OpenArgs) : (s.reserved b a).osc b = reinitialise a.fnom := by
  unfold State.reserved
  rw [enterState_osc_reserving, setSuperv_session, setSession_session_self]
  rfl

theorem reserved_superv (s : State) (b : Berth) (a : OpenArgs) : ((s.reserved b a).superv b).attempts = 0 := by
  unfold State.reserved
  rw [enterState_superv_self, setSuperv_superv_self]
  rfl

theorem reserved_mpm (s : State) (b : Berth) (a : OpenArgs) : (s.reserved b a).mpm = s.mpm := by
  unfold State.reserved
  rw [enterState_mpm]
  rfl

theorem reserved_nextNumber (s : State) (b : Berth) (a : OpenArgs) :
    (s.reserved b a).ses.nextNumber = numberAfter s.ses.nextNumber := by
  unfold State.reserved
  obtain ⟨v, hv⟩ := (touches_enterState (B := anyBerth) (b := b) trivial _ .reserving).headroom
  rw [hv]
  rfl

theorem reserved_outer (s : State) (b : Berth) (a : OpenArgs) : outer (s.reserved b a) = outer s := by
  unfold State.reserved
  exact (enterState_outer _ _ _).trans rfl

/-- An opened session keeps what it was opened with, through its grants and the checks at its opening (R94, R129). -/
theorem openedSession_carries (s : State) (b : Berth) (a : OpenArgs) :
    Carries b (s.reserved b a) (s.openedSession b a) ∧ ((s.openedSession b a).session b).state ≠ .idle := by
  have hlive : live ((s.reserved b a).session b) := by
    rw [reserved_session]
    exact ⟨SessionState.noConfusion, SessionState.noConfusion, SessionState.noConfusion⟩
  have hg : Serves b (s.reserved b a) ((s.reserved b a).allocRequest b a.count .normal) := allocRequest_serves b a.count .normal hlive
  have he : (((s.reserved b a).allocRequest b a.count .normal).session b).endReason ≠ some .fault := by
    rw [hg.endReason, reserved_session]
    change (none : Option EndReason) ≠ some .fault
    decide
  rw [openedSession_eq]
  obtain ⟨hf, hi⟩ := openingFaults_carries (hg.live hlive).2.2 he
  exact ⟨hg.toCarries.trans hf, hi⟩

/-- A NORMAL request of a berth that has no entry goes to the back of the queue (R63). -/
theorem allocRequest_normal {n : Nat} (hn : 0 < min n (s.room b)) (ha : ∀ e ∈ s.mpm.alloc, e.berth ≠ b) :
    s.allocRequest b n .normal
      = (s.queued (s.mpm.alloc ++ [⟨b, min n (s.room b), .normal, s.ctu.time⟩])).grantEvaluation := by
  have hany : ¬ (s.mpm.alloc.any (fun x => x.berth == b) = true) := by
    rw [List.any_eq_true]
    rintro ⟨e, he, hb⟩
    exact ha e he (beq_iff_eq.1 hb)
  unfold State.allocRequest
  dsimp only
  rw [if_neg hany, if_neg (Nat.pos_iff_ne_zero.1 hn)]
  rfl

/-- A head that the FREE count does not serve keeps the queue as it is (R64). -/
theorem grantEvaluation_of_unserved (h : ∀ e ∈ s.mpm.alloc.head?, s.freeCount < e.count) : s.grantEvaluation = s := by
  unfold State.grantEvaluation
  split
  · unfold State.grantLoop
    split
    case h_1 e l hl =>
      rw [if_neg (Nat.not_le.2 (h e (by rw [hl]; rfl)))]
    case h_2 => rfl
  · rfl

/-- A queue of one entry that the FREE count serves is granted, and no more (R64). -/
theorem grantEvaluation_of_single {e : AllocEntry} (hop : s.operating = true) (hl : s.mpm.alloc = [e]) (hc : e.count ≤ s.freeCount) :
    s.grantEvaluation = s.grantHead e := by
  have hnil : (s.grantHead e).mpm.alloc = [] := grantHead_alloc hl hc
  unfold State.grantEvaluation
  rw [if_pos hop]
  conv_lhs => unfold State.grantLoop
  rw [hl]
  dsimp only
  rw [if_pos hc, List.length_cons, List.length_nil]
  unfold State.grantLoop
  rw [hnil]

theorem touches_openedSession (s : State) (b : Berth) (a : OpenArgs) : Touches anyBerth (s.reserved b a) (s.openedSession b a) := by
  rw [openedSession_eq]
  exact (touches_allocRequest _ _ _ trivial fun _ _ => trivial).trans (touches_openingFaults _ b)

theorem openedSession_outer (s : State) (b : Berth) (a : OpenArgs) : outer (s.openedSession b a) = outer s := by
  rw [openedSession_eq]
  exact ((openingFaults_outer _ _).trans (allocRequest_outer _ _ _ _)).trans (reserved_outer s b a)

theorem freeCount_of (hm : t.mpm.module = s.mpm.module) (hc : t.cfs = s.cfs) : t.freeCount = s.freeCount := by
  unfold State.freeCount State.grantable State.module State.moduleEntry
  rw [hm, hc]

theorem queued_held (s : State) (l : List AllocEntry) (b : Berth) : (s.queued l).held b = s.held b := by
  unfold State.held State.countIn State.queued
  rfl

/-- The allocation entry of an opened session (R63, R94). -/
def State.openingEntry (s : State) (b : Berth) (n : Nat) : AllocEntry :=
  ⟨b, min n ((s.berthEntry b).maxModules.toNat - s.held b), .normal, s.ctu.time⟩

/-- An opened session's allocation request of a berth that has no entry, with nothing that faults the session (R63, R64). -/
theorem openedSession_queue {a : OpenArgs} (hop : s.operating = true) (hlost : s.berthNodeLost b = false)
    (hesd : (s.session b).ship ≠ .shipEsd) (hcount : 0 < (s.openingEntry b a.count).count) (hnone : ∀ e ∈ s.mpm.alloc, e.berth ≠ b) :
    ((∀ e ∈ (s.mpm.alloc ++ [s.openingEntry b a.count]).head?, s.freeCount < e.count) →
        (s.openedSession b a).mpm.alloc = s.mpm.alloc ++ [s.openingEntry b a.count]
          ∧ ((s.openedSession b a).session b).state = .reserving)
      ∧ (s.mpm.alloc = [] → (s.openingEntry b a.count).count ≤ s.freeCount →
        (s.openedSession b a).mpm.alloc = [] ∧ ((s.openedSession b a).session b).state = .energising
          ∧ (s.openedSession b a).held b = s.held b + (s.openingEntry b a.count).count) := by
  have houter := reserved_outer s b a
  have hmpm := reserved_mpm s b a
  have hcfs : (s.reserved b a).cfs = s.cfs := cfs_of_outer houter
  have hsession := reserved_session s b a
  have hroom : (s.reserved b a).room b = (s.berthEntry b).maxModules.toNat - s.held b := by
    unfold State.room
    rw [held_of_mpm hmpm]
    unfold State.berthEntry
    rw [hcfs]
  have hentry : (⟨b, min a.count ((s.reserved b a).room b), .normal, (s.reserved b a).ctu.time⟩ : AllocEntry)
      = s.openingEntry b a.count := by
    rw [hroom, ctu_of_outer houter]
    rfl
  have halloc : (s.reserved b a).allocRequest b a.count .normal
      = ((s.reserved b a).queued (s.mpm.alloc ++ [s.openingEntry b a.count])).grantEvaluation := by
    rw [allocRequest_normal, hentry, hmpm]
    · rw [hroom]
      exact hcount
    · rw [hmpm]
      exact hnone
  have hlive : live ((s.reserved b a).session b) := by
    rw [hsession]
    exact ⟨SessionState.noConfusion, SessionState.noConfusion, SessionState.noConfusion⟩
  have hsound : s.openedSession b a = (s.reserved b a).allocRequest b a.count .normal := by
    rw [openedSession_eq, openingFaults_of_sound]
    · rw [berthNodeLost_of ((allocRequest_rif _ _ _ _).trans (rif_of_outer houter)) ((allocRequest_cfs _ _ _ _).trans hcfs)]
      exact hlost
    · have hid := (allocRequest_serves (s := s.reserved b a) b a.count .normal hlive).identity
      have hship : (((s.reserved b a).allocRequest b a.count .normal).session b).ship = ((s.reserved b a).session b).ship :=
        congrArg (fun x => x.2.2.2.2.2.2) hid
      rw [hship, hsession]
      exact hesd
  have hfree (l : List AllocEntry) : ((s.reserved b a).queued l).freeCount = s.freeCount := freeCount_of (by rw [← hmpm]; rfl) hcfs
  have hoperating (l : List AllocEntry) : ((s.reserved b a).queued l).operating = true := by
    change (s.reserved b a).operating = true
    unfold State.operating
    rw [hcfs]
    exact hop
  rw [hsound, halloc]
  refine ⟨fun hwait => ?_, fun hnil hfit => ?_⟩
  · rw [grantEvaluation_of_unserved (s := (s.reserved b a).queued (s.mpm.alloc ++ [s.openingEntry b a.count]))
      (fun e he => by rw [hfree]; exact hwait e he)]
    refine ⟨rfl, ?_⟩
    change ((s.reserved b a).session b).state = _
    rw [hsession]
    rfl
  · rw [hnil, List.nil_append, grantEvaluation_of_single (e := s.openingEntry b a.count) (hoperating _) rfl (by rwa [hfree])]
    have hstate : ((s.reserved b a).session b).state = .reserving := by
      rw [hsession]
      rfl
    obtain ⟨hheld, hst, -⟩ := grantHead_served (s := (s.reserved b a).queued [s.openingEntry b a.count])
      (e := s.openingEntry b a.count) (by rwa [hfree]) hlive.1 hlive.2.1 hlive.2.2
    refine ⟨grantHead_alloc (l := []) rfl (by rwa [hfree]), ?_, ?_⟩
    · exact hst.trans (if_pos hstate)
    · refine hheld.trans ?_
      exact congrArg (· + (s.openingEntry b a.count).count) ((queued_held _ _ b).trans (held_of_mpm hmpm b))

theorem reqOpenSession_eq {args : List Byte} (h : berthOf (byteAt args 0) = some b) (s : State) :
    reqOpenSession args s = if s.operating = false ∨ s.cfs.invalid = true then refuse s .mode
      else if flagOf (s.berthEntry b).enabled = false ∨ (s.session b).state ≠ .idle then refuse s .state
      else if (s.meter b).finalPending then refuse s .billingFull
      else if openInRange (s.berthEntry b) (openArgs args) then
        (s.openedSession b (openArgs args), acceptedWith [natItem s.ses.nextNumber])
      else refuse s .range := by
  unfold reqOpenSession onBerth
  rw [h]

/-- Settles O36: the five tests in order; what the session was opened with is carried on (`openedSession_carries`). -/
theorem openSession : Obligations.OpenSession := by
  intro s r l h hc hlen
  have hf : lengthFits r = true := fits_of_length hc (by decide) (by rw [hlen]; rfl)
  refine ⟨fun hn => next_owned h hc hf 9 ?_, fun b hb => ?_⟩
  · change reqOpenSession r.args s.quiet = _
    unfold reqOpenSession onBerth
    rw [hn]
    rfl
  · have ho : ownerOf 9 r.args s.quiet = _ := reqOpenSession_eq hb s.quiet
    refine ⟨fun hm => next_owned h hc hf 9 (ho.trans (if_pos hm)), fun hop hv => ?_⟩
    have hmode : ¬ (s.operating = false ∨ s.cfs.invalid = true) := by simp [hop, hv]
    refine ⟨fun hst => next_owned h hc hf 9 (ho.trans ((if_neg hmode).trans (if_pos hst))), fun hen hst => ?_⟩
    have hstate : ¬ (flagOf (s.berthEntry b).enabled = false ∨ (s.session b).state ≠ .idle) := by simp [hen, hst]
    have htests := ho.trans ((if_neg hmode).trans (if_neg hstate))
    refine ⟨fun hp => next_owned h hc hf 9 (htests.trans (if_pos hp)), fun hp hr => ?_, fun hp hr => ?_⟩
    · refine next_owned h hc hf 9 (htests.trans ((if_neg ?_).trans (if_neg ?_)))
      · change (s.meter b).finalPending ≠ true
        rw [hp]
        decide
      · change openInRange (s.berthEntry b) (openArgs r.args) ≠ true
        rw [hr]
        decide
    · have hx : ownerOf 9 r.args s.quiet
          = (s.quiet.openedSession b (openArgs r.args), acceptedWith [natItem s.ses.nextNumber]) := by
        refine htests.trans ((if_neg ?_).trans (if_pos hr))
        change (s.meter b).finalPending ≠ true
        rw [hp]
        decide
      obtain ⟨hcarry, hidle⟩ := openedSession_carries s.quiet b (openArgs r.args)
      have hid := hcarry.identity
      rw [reserved_session] at hid
      simp only [identity, Prod.mk.injEq] at hid
      obtain ⟨hnum, hacc, hfnom, hvnom, hreq, hend, -⟩ := hid
      refine ⟨_, next_owned h hc hf 9 hx, ?_⟩
      simp only [answered_session, answered_osc, answered_superv, answered_mpm, answered_ses, answered_requests, answered_responses]
      refine ⟨hnum, hacc, hfnom, hvnom, hreq, hend, hidle, ?_, ?_, ?_, ?_, True.intro, ?_, fun hlost hesd hcount hnone => ?_⟩
      · obtain ⟨v, hv⟩ := (touches_openedSession s.quiet b (openArgs r.args)).headroom
        rw [hv]
        exact reserved_nextNumber s.quiet b (openArgs r.args)
      · rw [hcarry.fnom, reserved_osc]
        rfl
      · rw [hcarry.phase, reserved_osc]
        rfl
      · rw [hcarry.attempts, reserved_superv]
      · rw [responses_of_outer (openedSession_outer s.quiet b (openArgs r.args))]
        rfl
      · exact openedSession_queue (s := s.quiet) (a := openArgs r.args) hop hlost hesd hcount hnone

end
end Sys2Proof.Machine

/-! PROOFS. The end of a session (06): what a drain leaves from its entry to IDLE, and the statements about CLOSE SESSION, ABORT SESSION,
CLEAR FAULT and the stage limits. -/

namespace Sys2Proof.Machine

open Sys2Proof

/-- A session that is ending without a fault, or has ended: its end reason, no share, the trip's record as it was, and no entry in the
allocation queue besides those given. -/
structure Drained (b : Berth) (w : Option EndReason) (v : Supervision) (l : List AllocEntry) (t : State) : Prop where
  state : (t.session b).state = .draining ∨ (t.session b).state = .idle
  reason : (t.session b).endReason = w
  share : (t.session b).share = 0
  trip : tripOf (t.superv b) = tripOf v
  alloc : t.mpm.alloc = l

section
variable {s t u : State} {b : Berth} {a : Byte} {w : Option EndReason} {v : Supervision} {l : List AllocEntry}

/-- What agrees in the berth's records and in the queue is as drained. -/
theorem Drained.same (h : Drained b w v l s) (hs : t.session b = s.session b) (hv : t.superv b = s.superv b)
    (hm : t.mpm.alloc = s.mpm.alloc) : Drained b w v l t :=
  ⟨by rw [hs]; exact h.state, by rw [hs]; exact h.reason, by rw [hs]; exact h.share, by rw [hv]; exact h.trip, hm.trans h.alloc⟩

theorem Drained.setSession (h : Drained b w v l s) {r : Session} (h1 : r.state = (s.session b).state)
    (h2 : r.endReason = (s.session b).endReason) (h3 : r.share = 0) : Drained b w v l (s.setSession b r) := by
  refine ⟨?_, ?_, ?_, h.trip, h.alloc⟩
  · rw [setSession_session_self, h1]
    exact h.state
  · rw [setSession_session_self, h2]
    exact h.reason
  · rw [setSession_session_self, h3]

theorem Drained.step (h : Drained b w v l s) (d : DrainStep) : Drained b w v l (s.setSession b { s.session b with drain := d }) :=
  h.setSession (r := { s.session b with drain := d }) rfl rfl h.share

theorem Drained.unmetered (h : Drained b w v l s) : Drained b w v l (s.setSession b { s.session b with metering := false }) :=
  h.setSession (r := { s.session b with metering := false }) rfl rfl h.share

theorem Drained.idleEntry (h : Drained b w v l s) : Drained b w v l (s.idleEntry b) := by
  have hv : (s.idleEntry b).superv b = filtersAtEntry .idle (s.superv b) := by
    unfold State.idleEntry
    rw [latchBerth_superv, setSession_superv, enterState_superv_self]
  refine ⟨.inr ?_, ?_, ?_, ?_, ?_⟩
  · rw [idleEntry_session_self]
    rfl
  · rw [idleEntry_session_self]
    exact h.reason
  · rw [idleEntry_session_self]
    rfl
  · rw [hv, filtersAtEntry_trip]
    exact h.trip
  · rw [idleEntry_mpm]
    exact h.alloc

theorem Drained.tryIdle (h : Drained b w v l s) : Drained b w v l (s.tryIdle b) := by
  unfold State.tryIdle
  split
  · exact h.idleEntry
  · exact h

theorem Drained.changeOfHoldings (h : Drained b w v l s) : Drained b w v l (s.changeOfHoldings b) := by
  have hcount : Drained b w v l (s.setSession b (s.recounted b)) := by
    refine h.setSession rfl rfl ?_
    change min (s.session b).share _ = 0
    rw [h.share, Nat.zero_min]
  have he : (s.session b).state ≠ .energising := by
    rcases h.state with k | k <;> rw [k] <;> decide
  cases hr : readyForIdle (s.recounted b)
  · rw [changeOfHoldings_of_plain he hr]
    exact hcount
  · rw [changeOfHoldings_of_ready hr]
    exact hcount.idleEntry

theorem Drained.releaseBerth (h : Drained b w v l s) : Drained b w v l (s.releaseBerth b) := by
  have hsame : SameBerth b s (s.releaseEach (s.modulesOf b)) :=
    (Touches.foldl (touches_releaseOne fun _ => False) _ (.refl _ s)).frame b id
  have heach : Drained b w v l (s.releaseEach (s.modulesOf b)) := h.same hsame.session hsame.superv (releaseEach_alloc _ _)
  unfold State.releaseBerth
  rw [releaseModules_eq]
  split
  · exact heach.changeOfHoldings
  · exact heach

theorem Drained.openRequest (h : Drained b w v l s) (k : Breaker) : Drained b w v l (s.openRequest k).1 := by
  obtain ⟨r, hr⟩ := openRequest_eq s k
  refine h.same ?_ ?_ (by rw [openRequest_mpm])
  · rw [hr, setBreaker_session]
  · rw [hr, setBreaker_superv]

theorem Drained.endMetering (h : Drained b w v l s) (c : CloseReason) : Drained b w v l (s.endMetering b c) := by
  have hm := (BillingOnly.refl b s).endMetering c
  exact h.same (hm.session b) (hm.superv b) (by rw [endMetering_mpm])

theorem Drained.drainReturn (h : Drained b w v l s) : Drained b w v l (s.drainReturn b) := by
  unfold State.drainReturn
  have hm : Drained b w v l (if (s.session b).metering then s.endMetering b .sessionEnd else s) := by
    split
    · exact h.endMetering _
    · exact h
  exact hm.unmetered.releaseBerth

theorem Drained.pbDrained (h : Drained b w v l s) : Drained b w v l (s.pbDrained b) :=
  (h.step .done).drainReturn.tryIdle

theorem Drained.drainPb (h : Drained b w v l s) : Drained b w v l (s.drainPb b) := by
  have hx : Drained b w v l ((s.setSession b { s.session b with drain := .pb }).openRequest (.pb b)).1 :=
    (h.step .pb).openRequest _
  unfold State.drainPb
  dsimp only
  split
  · exact hx.pbDrained
  · exact hx

theorem Drained.sbDrained (h : Drained b w v l s) : Drained b w v l (s.sbDrained b) := by
  unfold State.sbDrained
  split
  · exact (h.step .done).tryIdle
  · exact h.drainPb

/-- The state in which DRAINING has been entered, before its first step (R113 to R115). -/
def State.drainBegun (s : State) (b : Berth) (w : EndReason) : State :=
  ((s.cancelAlloc b).setSession b { (s.cancelAlloc b).session b with endReason := some w }).enterState b .draining

theorem enterDraining_eq (s : State) (b : Berth) (w : EndReason) (sbFirst : Bool) :
    s.enterDraining b w sbFirst = if sbFirst then
        if (((s.drainBegun b w).setSession b { (s.drainBegun b w).session b with drain := .sb }).openRequest (.sb b)).2 then
          (((s.drainBegun b w).setSession b { (s.drainBegun b w).session b with drain := .sb }).openRequest (.sb b)).1.sbDrained b
        else (((s.drainBegun b w).setSession b { (s.drainBegun b w).session b with drain := .sb }).openRequest (.sb b)).1
      else (s.drainBegun b w).drainPb b := rfl

theorem drainBegun_session (s : State) (b : Berth) (w : EndReason) : (s.drainBegun b w).session b
    = sessionAtEntry ((s.cancelAlloc b).berthEntry b) .draining { s.session b with endReason := some w } := by
  unfold State.drainBegun
  rw [enterState_session_self, setSession_session_self, (cancelAlloc_same s b).session]
  rfl

theorem drainBegun_drained (s : State) (b : Berth) (w : EndReason) :
    Drained b (some w) (s.superv b) (s.cancelAlloc b).mpm.alloc (s.drainBegun b w) := by
  have hs := drainBegun_session s b w
  refine ⟨.inl (by rw [hs]; rfl), by rw [hs]; rfl, by rw [hs]; rfl, ?_, ?_⟩
  · unfold State.drainBegun
    rw [enterState_superv_self, setSession_superv, (cancelAlloc_same s b).superv]
    exact filtersAtEntry_trip _ _
  · unfold State.drainBegun
    rw [enterState_mpm, setSession_mpm]

/-- A drain ends its session with the reason given, and leaves the supervision's trip as it was (R113 to R115). -/
theorem enterDraining_drained (s : State) (b : Berth) (w : EndReason) (sbFirst : Bool) :
    Drained b (some w) (s.superv b) (s.cancelAlloc b).mpm.alloc (s.enterDraining b w sbFirst) := by
  have h := drainBegun_drained s b w
  have hsb := (h.step .sb).openRequest (.sb b)
  rw [enterDraining_eq]
  split
  · split
    · exact hsb.sbDrained
    · exact hsb
  · exact h.drainPb

/-- An abort ends the session with the reason given; in DRAINING it stays in its drain (R114). -/
theorem abortSession_ended (s : State) (b : Berth) (w : EndReason) :
    ((s.abortSession b w).session b).endReason = some w
      ∧ (((s.abortSession b w).session b).state = .draining ∨ ((s.abortSession b w).session b).state = .idle)
      ∧ (∀ e ∈ (s.abortSession b w).mpm.alloc, e.berth ≠ b)
      ∧ ((s.session b).state ≠ .draining → ((s.abortSession b w).session b).share = 0)
      ∧ tripOf ((s.abortSession b w).superv b) = tripOf (s.superv b) := by
  unfold State.abortSession
  split
  case h_1 hd =>
    have hsame := cancelAlloc_same s b
    dsimp only
    rw [setSession_session_self, setSession_superv, setSession_mpm, hsame.superv, hsame.session]
    exact ⟨rfl, .inl hd, cancelAlloc_alloc s b, fun h => absurd hd h, rfl⟩
  case h_2 =>
    have h := enterDraining_drained s b w true
    refine ⟨h.reason, h.state, ?_, fun _ => h.share, h.trip⟩
    rw [h.alloc]
    exact cancelAlloc_alloc s b

/-! ## CLOSE SESSION and ABORT SESSION -/

theorem reqCloseSession_eq (h : berthOf a = some b) (s : State) :
    reqCloseSession [a] s = if (s.session b).state = .connected then (s.enterDraining b .closed false, acceptedWith [])
      else refuse s .state := by
  unfold reqCloseSession
  exact onBerth_of_some h _ _

/-- The berth's session with the class dropped when it is FAULTED (R136). -/
def State.classDropped (s : State) (b : Berth) : State := if (s.session b).state = .faulted then s.dropClass b else s

theorem reqAbortSession_eq (h : berthOf a = some b) (s : State) :
    reqAbortSession [a] s = if (s.session b).state = .idle then refuse s .state
      else if s.operating = false then refuse s .mode
      else ((s.classDropped b).abortSession b .aborted, acceptedWith []) := by
  unfold reqAbortSession
  exact onBerth_of_some h _ _

theorem dropClass_superv (s : State) (b : Berth) :
    (s.dropClass b).superv b = { s.superv b with restartDue := false, restartTimer := 0, tripClass := none } :=
  setSuperv_superv_self _ _ _

theorem classDropped_session (s : State) (b : Berth) : (s.classDropped b).session b = s.session b := by
  unfold State.classDropped
  split <;> rfl

theorem enterDraining_answers (s : State) (b : Berth) (w : EndReason) (x : Bool) :
    (s.enterDraining b w x).mrh.responses = s.mrh.responses := responses_of_outer (enterDraining_outer s b w x)

/-- The first step of a drain from PB with the breaker CLOSED at rest: its OPEN is issued, and the session waits in it (R115). -/
theorem enterDraining_pb (w : EndReason) (hc : (s.breaker (.pb b)).command = .none) (hs : (s.breaker (.pb b)).status = .closed) :
    ((s.enterDraining b w false).session b).state = .draining ∧ ((s.enterDraining b w false).session b).drain = .pb
      ∧ ((s.enterDraining b w false).breaker (.pb b)).command = .open
      ∧ ((s.enterDraining b w false).session b).metering = (s.session b).metering := by
  have hpb : (s.drainBegun b w).breaker (.pb b) = s.breaker (.pb b) := by
    unfold State.drainBegun
    rw [enterState_breaker, setSession_breaker, (cancelAlloc_same s b).pb]
  have hx : ((s.drainBegun b w).setSession b { (s.drainBegun b w).session b with drain := .pb }).openRequest (.pb b)
      = (((s.drainBegun b w).setSession b { (s.drainBegun b w).session b with drain := .pb }).issueOpen (.pb b), false) := by
    refine openRequest_none_notOpen ?_ ?_
    · rw [setSession_breaker, hpb, hc]
    · rw [setSession_breaker, hpb, hs]
      decide
  have hdrain : s.enterDraining b w false
      = ((s.drainBegun b w).setSession b { (s.drainBegun b w).session b with drain := .pb }).issueOpen (.pb b) := by
    rw [enterDraining_eq, if_neg Bool.false_ne_true]
    unfold State.drainPb
    dsimp only
    rw [hx]
    rfl
  have hsession : ((((s.drainBegun b w).setSession b { (s.drainBegun b w).session b with drain := .pb }).issueOpen (.pb b)).session b)
      = { (s.drainBegun b w).session b with drain := .pb } := by
    unfold State.issueOpen
    rw [setBreaker_session, setSession_session_self]
  rw [hdrain, hsession, drainBegun_session]
  refine ⟨rfl, rfl, ?_, rfl⟩
  unfold State.issueOpen
  rw [setBreaker_breaker_self]

/-- Settles O39: each request by the state of the session. -/
theorem endingRequests : Obligations.EndingRequests := by
  refine ⟨fun s r l a h hc ha b hb => ?_, fun s r l a h hc ha b hb => ?_⟩
  all_goals have hf : lengthFits r = true := fits_of_length hc (by decide) (by rw [ha]; rfl)
  · have ho : ownerOf 13 r.args s.quiet = _ := (congrArg (ownerOf 13 · s.quiet) ha).trans (reqCloseSession_eq hb s.quiet)
    refine ⟨fun hst => next_owned h hc hf 13 (ho.trans (if_neg hst)), fun hst => ?_⟩
    have hd := enterDraining_drained s.quiet b .closed false
    refine ⟨_, next_owned h hc hf 13 (ho.trans (if_pos hst)), ?_⟩
    simp only [answered_session, answered_mpm, answered_breaker, answered_responses]
    refine ⟨hd.reason, hd.state, ?_, ?_, fun hcmd hclosed _ => enterDraining_pb .closed ?_ ?_⟩
    · rw [hd.alloc]
      exact cancelAlloc_alloc s.quiet b
    · rw [enterDraining_answers]
      rfl
    · rw [quiet_breaker, hcmd]
    · rw [quiet_breaker, hclosed]
  · have ho : ownerOf 14 r.args s.quiet = _ := (congrArg (ownerOf 14 · s.quiet) ha).trans (reqAbortSession_eq hb s.quiet)
    refine ⟨fun hst => next_owned h hc hf 14 (ho.trans (if_pos hst)), fun hst hop => next_owned h hc hf 14 ?_, fun hst hop => ?_⟩
    · exact ho.trans ((if_neg hst).trans (if_pos hop))
    · have hx : ownerOf 14 r.args s.quiet = ((s.quiet.classDropped b).abortSession b .aborted, acceptedWith []) := by
        refine ho.trans ((if_neg hst).trans (if_neg ?_))
        change s.operating ≠ false
        rw [hop]
        decide
      have hses := classDropped_session s.quiet b
      obtain ⟨hreason, hstate, halloc, hshare, htrip⟩ := abortSession_ended (s.quiet.classDropped b) b .aborted
      refine ⟨_, next_owned h hc hf 14 hx, ?_⟩
      simp only [answered_session, answered_mpm, answered_superv, answered_responses]
      refine ⟨hreason, hstate, halloc, fun hne => hshare (by rw [hses]; exact hne), fun hfault => ?_, ?_⟩
      · have hdrop : s.quiet.classDropped b = s.quiet.dropClass b := if_pos hfault
        rw [hdrop, dropClass_superv] at htrip
        simp only [tripOf, Prod.mk.injEq] at htrip
        obtain ⟨-, -, hclass, hdue, htimer⟩ := htrip
        rw [hdrop]
        exact ⟨hclass, hdue, htimer⟩
      · rw [responses_of_outer (abortSession_outer _ _ _)]
        unfold State.classDropped
        split <;> rfl

/-! ## CLEAR FAULT (R135) -/

/-- The state in which a fault has been cleared, before the test for IDLE. -/
def State.faultCleared (s : State) (b : Berth) : State :=
  (s.dropClass b).setSession b { (s.dropClass b).session b with endReason := some .fault }

theorem reqClearFault_eq (h : berthOf a = some b) (s : State) :
    reqClearFault [a] s = if (s.session b).state ≠ .faulted then refuse s .state
      else if (s.superv b).tripClass = some .latched ∧ s.operating = true then refuse s .mode
      else if breakerAtRest (s.breaker (.pb b)) && breakerAtRest (s.breaker (.sb b)) then ((s.faultCleared b).tryIdle b, done)
      else refuse s .state := by
  unfold reqClearFault
  exact onBerth_of_some h _ _

theorem idleEntry_superv (s : State) (b : Berth) : (s.idleEntry b).superv b = filtersAtEntry .idle (s.superv b) := by
  unfold State.idleEntry
  rw [latchBerth_superv, setSession_superv, enterState_superv_self]

theorem faultCleared_superv (s : State) (b : Berth) : (s.faultCleared b).superv b
    = { s.superv b with restartDue := false, restartTimer := 0, tripClass := none } := dropClass_superv s b

theorem faultCleared_session (s : State) (b : Berth) :
    (s.faultCleared b).session b = { s.session b with endReason := some .fault } := setSession_session_self _ _ _

theorem tryIdle_trip (s : State) (b : Berth) : tripOf ((s.tryIdle b).superv b) = tripOf (s.superv b) := by
  unfold State.tryIdle
  split
  · rw [idleEntry_superv, filtersAtEntry_trip]
  · rfl

theorem tryIdle_endReason (s : State) (b : Berth) : ((s.tryIdle b).session b).endReason = (s.session b).endReason := by
  unfold State.tryIdle
  split
  · rw [idleEntry_session_self]
    rfl
  · rfl

/-- Settles O40: the tests in order, and the fault cleared. -/
theorem clearFault : Obligations.ClearFault := by
  intro s r l a h hc ha
  have hf : lengthFits r = true := fits_of_length hc (by decide) (by rw [ha]; rfl)
  refine ⟨fun hn => next_range h hc hf 15 _ ha hn fun _ _ => rfl, fun b hb => ?_⟩
  have ho : ownerOf 15 r.args s.quiet = _ := (congrArg (ownerOf 15 · s.quiet) ha).trans (reqClearFault_eq hb s.quiet)
  refine ⟨fun hst => next_owned h hc hf 15 (ho.trans (if_pos hst)), fun hst hl hop => next_owned h hc hf 15 ?_,
    fun hst hl => ⟨fun hrest => next_owned h hc hf 15 ?_, fun hpb hsb => ?_⟩⟩
  · exact ho.trans ((if_neg (not_not.2 hst)).trans (if_pos ⟨hl, hop⟩))
  · refine ho.trans ((if_neg (not_not.2 hst)).trans ((if_neg hl).trans (if_neg ?_)))
    rw [quiet_breaker, quiet_breaker, hrest]
    decide
  · have hx : ownerOf 15 r.args s.quiet = ((s.quiet.faultCleared b).tryIdle b, done) := by
      refine ho.trans ((if_neg (not_not.2 hst)).trans ((if_neg hl).trans (if_pos ?_)))
      rw [quiet_breaker, quiet_breaker, hpb, hsb]
      rfl
    have htrip := tryIdle_trip (s.quiet.faultCleared b) b
    rw [faultCleared_superv] at htrip
    simp only [tripOf, Prod.mk.injEq] at htrip
    obtain ⟨-, hkind, hclass, hdue, htimer⟩ := htrip
    refine ⟨_, next_owned h hc hf 15 hx, ?_⟩
    simp only [answered_session, answered_superv, answered_responses]
    refine ⟨hclass, hdue, htimer, hkind, ?_, fun hstart hbound => ?_, ?_⟩
    · rw [tryIdle_endReason, faultCleared_session]
    · have hready : readyForIdle ((s.quiet.faultCleared b).session b) = true := by
        rw [faultCleared_session]
        simp [readyForIdle, hst, hstart, hbound]
      rw [tryIdle_of_ready hready, idleEntry_session_self, idleEntry_superv]
      refine ⟨rfl, rfl, rfl, rfl, ?_⟩
      change ((s.quiet.faultCleared b).idleEntry b).isLatched (.berth b) 5 = true
      unfold State.idleEntry
      exact latchBerth_isLatched_self _ _ .sessionEnded
    · rw [responses_of_outer (tryIdle_outer _ _)]
      rfl

/-! ## The stage limits (R98) -/

theorem presentPbClose_issued (hc : (s.breaker (.pb b)).command = .none) (hs : (s.breaker (.pb b)).status = .open) :
    s.presentPbClose b = (s.issueClose (.pb b)).setSession b { s.session b with pbAsked := true, pbRetry := false } := by
  unfold State.presentPbClose
  dsimp only
  rw [closeRequest_none_open hc hs]
  rfl

theorem presentPbClose_refused (h : s.closeRequest (.pb b) = (s, .refused)) :
    s.presentPbClose b = s.setSession b { s.session b with pbAsked := false, pbRetry := true } := by
  unfold State.presentPbClose
  dsimp only
  rw [h]

/-- The state at a first strike, before RAMP_IN asks for a module (R98). -/
def State.struck (s : State) (b : Berth) : State :=
  (s.setSession b { s.session b with strikes := 1, stageTimer := 0 }).latchBerth b .stageSlow

theorem struck_session (s : State) (b : Berth) : (s.struck b).session b = { s.session b with strikes := 1, stageTimer := 0 } := by
  unfold State.struck
  rw [latchBerth_session, setSession_session_self]

theorem firstStrike_eq (s : State) (b : Berth) : s.firstStrike b
    = if ((s.struck b).session b).state = .rampIn ∧ (s.struck b).held b < ((s.struck b).berthEntry b).maxModules.toNat then
        (s.struck b).allocRequest b 1 .normal else s.struck b := rfl

/-- A first strike counts it, restarts the stage timer and keeps the state (R98, R109). -/
theorem firstStrike_stage (s : State) (b : Berth) : stageOf ((s.firstStrike b).session b) = ((s.session b).state, 1, 0)
    ∧ (s.firstStrike b).isLatched (.berth b) 6 = true := by
  have hl : (s.struck b).isLatched (.berth b) 6 = true := by
    unfold State.struck
    exact latchBerth_isLatched_self _ _ .stageSlow
  have hstage : stageOf ((s.struck b).session b) = ((s.session b).state, 1, 0) := by
    rw [struck_session]
    rfl
  rw [firstStrike_eq]
  split
  case isTrue h =>
    obtain ⟨hramp, -⟩ := h
    refine ⟨?_, (touches_allocRequest (B := anyBerth) _ _ _ trivial fun _ _ => trivial).latched _ _ hl⟩
    have hlive : live ((s.struck b).session b) := by
      rw [live, hramp]
      decide
    rcases (allocRequest_serves b 1 .normal hlive).stage with k | ⟨k, -⟩
    · exact k.trans hstage
    · exact absurd (hramp.symm.trans k) (by decide)
  case isFalse => exact ⟨hstage, hl⟩

/-- The state in which a second strike has been counted (R98). -/
def State.struckTwice (s : State) (b : Berth) : State := s.setSession b { s.session b with strikes := 2 }

theorem struckTwice_session (s : State) (b : Berth) : (s.struckTwice b).session b = { s.session b with strikes := 2 } :=
  setSession_session_self _ _ _

theorem secondStrike_eq (s : State) (b : Berth) : s.secondStrike b = match (s.session b).state with
    | .reserving => (((s.struckTwice b).cancelAlloc b).setSession b
        { ((s.struckTwice b).cancelAlloc b).session b with endReason := some .noModules }).idleEntry b
    | .energising => (s.struckTwice b).enterDraining b .energiseTimeout true
    | .syncing => ((s.struckTwice b).enterState b .connected).latchBerth b .syncTimeout
    | .rampIn => ((s.struckTwice b).enterState b .rampOut).latchBerth b .handoverFailed
    | .recall => ((s.struckTwice b).enterState b .shore).latchBerth b .recallTimeout
    | .rampOut => ((s.struckTwice b).latchBerth b .handoverFailed).partShip b
    | .parting => (s.struckTwice b).fault b .sbFail
    | .idle | .connected | .parallel | .shore | .draining | .faulted => s.struckTwice b := by
  have hs : ((s.struckTwice b).session b).state = (s.session b).state := by rw [struckTwice_session]
  rw [← hs]
  rfl

theorem touches_partShip (s : State) (b : Berth) : Touches anyBerth s (s.partShip b) := by
  unfold State.partShip State.shipReturned
  dsimp only
  have hx : Touches anyBerth s ((s.enterState b .parting).openRequest (.sb b)).1 :=
    (touches_enterState trivial s _).trans (touches_openRequest (k := .sb b) trivial _)
  exact .ite ((hx.trans (touches_enterState trivial _ _)).trans (touches_latchBerth _ _ _ _)) hx

theorem partShip_state (s : State) (b : Berth) :
    ((s.partShip b).session b).state = .parting ∨ ((s.partShip b).session b).state = .connected := by
  unfold State.partShip
  dsimp only
  split
  · refine .inr ?_
    unfold State.shipReturned
    rw [latchBerth_session, enterState_session_self]
    rfl
  · refine .inl ?_
    obtain ⟨r, hr⟩ := openRequest_eq (s.enterState b .parting) (.sb b)
    rw [hr, setBreaker_session, enterState_session_self]
    rfl

theorem stageExpiry_reached (hr : stageRunning (s.session b) = true) (hl : (s.session b).stageLimit ≤ (s.session b).stageTimer) :
    s.stageExpiry b = if (s.session b).strikes = 0 then s.firstStrike b else s.secondStrike b :=
  if_pos (Bool.and_eq_true_iff.2 ⟨hr, decide_eq_true hl⟩)

/-- Settles O41: the close presented again by its record, the strikes by the state. -/
theorem sessionLimits : Obligations.SessionLimits := by
  refine ⟨fun s b h hst hr => ?_, fun s b h hr hl h0 => ?_, fun s b h hr hl h1 => ?_⟩
  · have hrun : exec (.pbCloseRetry b) s = .next ((s.without (.pbCloseRetry b)).presentPbClose b) :=
      (next_event h).trans (congrArg Host.Outcome.next (if_pos ⟨hst, hr⟩))
    refine ⟨fun hc hs => hrun.trans (congrArg Host.Outcome.next ?_), fun hc => hrun.trans (congrArg Host.Outcome.next ?_)⟩
    · exact (presentPbClose_issued (s := s.without (.pbCloseRetry b)) hc hs).trans rfl
    · refine (presentPbClose_refused (s := s.without (.pbCloseRetry b)) ?_).trans rfl
      rcases hc with hc | ⟨hc, hs⟩
      · exact closeRequest_open hc
      · exact closeRequest_none_unsettled hc hs
  · have hrun : (s.without (.stageLimitExpiry b)).stageExpiry b = (s.without (.stageLimitExpiry b)).firstStrike b :=
      (stageExpiry_reached (s := s.without (.stageLimitExpiry b)) hr hl).trans (if_pos h0)
    obtain ⟨hstage, hlatched⟩ := firstStrike_stage (s.without (.stageLimitExpiry b)) b
    simp only [stageOf, Prod.mk.injEq] at hstage
    obtain ⟨hstate, hstrikes, htimer⟩ := hstage
    exact ⟨_, (next_event h).trans (congrArg Host.Outcome.next hrun), hstrikes, htimer, hstate, hlatched⟩
  · have hrun : (s.without (.stageLimitExpiry b)).stageExpiry b = (s.without (.stageLimitExpiry b)).secondStrike b := by
      refine (stageExpiry_reached (s := s.without (.stageLimitExpiry b)) hr hl).trans (if_neg ?_)
      change (s.session b).strikes ≠ 0
      rw [h1]
      decide
    have heq := secondStrike_eq (s.without (.stageLimitExpiry b)) b
    have hexec : exec (.stageLimitExpiry b) s = .next ((s.without (.stageLimitExpiry b)).secondStrike b) :=
      (next_event h).trans (congrArg Host.Outcome.next hrun)
    have hsession : (s.without (.stageLimitExpiry b)).session b = s.session b := rfl
    have hclass (k : FaultKind) : (s.without (.stageLimitExpiry b)).classFor k = s.classFor k := rfl
    generalize s.without (.stageLimitExpiry b) = u at hexec heq hsession hclass
    refine ⟨_, hexec, ?_⟩
    dsimp only
    rw [hsession] at heq
    refine ⟨fun hst => ?_, fun hst => ?_, fun hst => ?_, fun hst => ?_, fun hst => ?_, fun hst => ?_, fun hst hw => ?_,
      fun hst hw he => ?_⟩
    all_goals
      rw [hst] at heq
      dsimp only at heq
      rw [heq]
    · rw [idleEntry_session_self, setSession_session_self, idleEntry_mpm, setSession_mpm]
      exact ⟨rfl, rfl, cancelAlloc_alloc _ b⟩
    · have hd := enterDraining_drained (u.struckTwice b) b .energiseTimeout true
      exact ⟨hd.reason, hd.state⟩
    · rw [latchBerth_session, enterState_session_self]
      exact ⟨rfl, latchBerth_isLatched_self _ _ .syncTimeout⟩
    · rw [latchBerth_session, enterState_session_self, struckTwice_session, hsession]
      exact ⟨rfl, rfl, latchBerth_isLatched_self _ _ .handoverFailed⟩
    · rw [latchBerth_session, enterState_session_self, struckTwice_session, hsession]
      refine ⟨rfl, ?_, latchBerth_isLatched_self _ _ .recallTimeout⟩
      unfold sessionAtEntry
      exact if_pos hst
    · exact ⟨(touches_partShip _ b).latched _ _ (latchBerth_isLatched_self _ _ .handoverFailed), partShip_state _ b⟩
    · have hi : ((u.struckTwice b).session b).state ≠ .idle := by
        rw [struckTwice_session, hsession, hst]
        decide
      rw [fault_warn hi (by rw [← hclass] at hw; exact hw)]
      unfold State.warnFault
      dsimp only
      rw [latchBerth_session, setSuperv_session, struckTwice_session, hsession, latchBerth_superv, setSuperv_superv_self]
      exact ⟨hst, rfl, rfl⟩
    · have hs2 : (u.struckTwice b).session b = { s.session b with strikes := 2 } := by rw [struckTwice_session, hsession]
      have hi : ((u.struckTwice b).session b).state ≠ .idle := by
        rw [hs2, hst]
        decide
      have hfault : ((u.struckTwice b).session b).state ≠ .faulted := by
        rw [hs2, hst]
        decide
      have htrip := fault_trip (k := .sbFail) hi hfault (by rw [← hclass] at hw; exact hw)
      obtain ⟨hstate, -, -, -, hsup, hlatched, -⟩ := trip_kept (k := .sbFail)
        (tripClassFor ((u.struckTwice b).superv b).attempts ((u.struckTwice b).classFor .sbFail)) hi (by rw [hs2]; exact he)
      rw [htrip, hsup]
      exact ⟨hstate, rfl, hlatched⟩

end
end Sys2Proof.Machine

/-! PROOFS. The supervision's timers, the restart and the four protection functions (07). -/

namespace Sys2Proof.Machine

open Sys2Proof

section
variable {s t : State} {b : Berth} {k : FaultKind} {p : Point}

/-! ## The four protection functions (R124 to R128) -/

/-- A judgement taken on a record of the supervision, with its fault: passing, raising and taking are the three cases. -/
theorem judgedAs_judge (limit : Nat) {w : Bool} {fails : Prop} (hw : w = true ↔ fails) (f : Filter) (put : Filter → Supervision) :
    JudgedAs s ((s.setSuperv b (put (judge limit w f).1)).faultIf (judge limit w f).2 b k) b k limit fails f put := by
  refine ⟨fun h => ?_, fun h hr => ?_, fun h hf hl => ?_⟩
  · have hw' : w = false := Bool.eq_false_iff.2 fun e => h (hw.1 e)
    rw [hw', judge_passes]
    rfl
  · rw [hw.2 h, judge_raises hr]
    rfl
  · rw [hw.2 h, judge_takes hf hl]
    rfl

theorem superviseCurrent_outside (h : (s.superv b).armed = false ∨ (s.session b).state = .idle) : s.superviseCurrent b = s := by
  unfold State.superviseCurrent State.overcurrentSpan
  refine if_neg ?_
  rcases h with h | h <;> simp [h]

theorem superviseCurrent_inside (ha : (s.superv b).armed = true) (hi : (s.session b).state ≠ .idle) : s.superviseCurrent b
    = (s.setSuperv b (judgeOvercurrent (s.berthEntry b) (s.meas (.bus b)).peak (s.superv b)).1).faultIf
      (judgeOvercurrent (s.berthEntry b) (s.meas (.bus b)).peak (s.superv b)).2 b .overcurrent := by
  unfold State.superviseCurrent State.overcurrentSpan
  exact if_pos (by simp [ha, hi])

/-- The span of the voltage and frequency functions at a watched point (R124, R126, R127). -/
def State.pointJudged (s : State) (b : Berth) (p : Point) : Prop :=
  (s.superv b).armed = true ∧ (s.session b).state ≠ .idle ∧ (s.session b).state ≠ .reserving ∧ (s.session b).state ≠ .faulted
    ∧ ((s.session b).state = .draining → (s.session b).drain ≠ .done) ∧ (p = .plug b → (s.breaker (.pb b)).status = .closed)
    ∧ (p = .ship b → (s.breaker (.sb b)).status = .closed)

theorem inVoltageSpan_iff (st : SessionState) (d : DrainStep) : inVoltageSpan st d = true
    ↔ st ≠ .idle ∧ st ≠ .reserving ∧ st ≠ .faulted ∧ (st = .draining → d ≠ .done) := by
  cases st <;> simp [inVoltageSpan]

theorem watched_iff (hp : p = .bus b ∨ p = .plug b ∨ p = .ship b) : s.watched p = true
    ↔ (p = .plug b → (s.breaker (.pb b)).status = .closed) ∧ (p = .ship b → (s.breaker (.sb b)).status = .closed) := by
  rcases hp with rfl | rfl | rfl <;> simp [State.watched]

theorem pointJudged_iff (hp : p = .bus b ∨ p = .plug b ∨ p = .ship b) :
    (s.voltageSpan b && s.watched p) = true ↔ s.pointJudged b p := by
  unfold State.voltageSpan State.pointJudged
  rw [Bool.and_eq_true, Bool.and_eq_true, inVoltageSpan_iff, watched_iff hp]
  simp only [and_assoc]

theorem pointBerth_of (hp : p = .bus b ∨ p = .plug b ∨ p = .ship b) : pointBerth p = some b := by
  rcases hp with rfl | rfl | rfl <;> rfl

theorem superviseVoltage_eq (hp : p = .bus b ∨ p = .plug b ∨ p = .ship b) : s.superviseVoltage p
    = if s.voltageSpan b && s.watched p then
        (s.setSuperv b (judgeVoltage (s.berthEntry b) p (s.meas p) (s.superv b)).1).faultIf
          (judgeVoltage (s.berthEntry b) p (s.meas p) (s.superv b)).2 b .busVoltage
      else s := by
  unfold State.superviseVoltage
  rw [pointBerth_of hp]

theorem superviseFrequency_outside (hp : p = .bus b ∨ p = .plug b ∨ p = .ship b)
    (hj : ¬ (s.voltageSpan b && s.watched p) = true) : s.superviseFrequency p = s := by
  unfold State.superviseFrequency
  rw [pointBerth_of hp]
  dsimp only
  split
  · exact if_neg hj
  · rfl

theorem superviseFrequency_inside (hp : p = .bus b ∨ p = .plug b ∨ p = .ship b)
    (hj : (s.voltageSpan b && s.watched p) = true) {n : Nat} (hn : (s.session b).fnom = some n) : s.superviseFrequency p
      = (s.setSuperv b (judgeFrequency n p (s.meas p) (s.superv b)).1).faultIf
        (judgeFrequency n p (s.meas p) (s.superv b)).2 b .busFrequency := by
  unfold State.superviseFrequency
  rw [pointBerth_of hp]
  dsimp only
  rw [hn]
  exact if_pos hj

/-- Without a per-mille the voltage judgement leaves filter and fault alone (R126). -/
theorem judgeVoltage_absent (e : BerthEntry) (p : Point) {r : MeasRecord} (v : Supervision)
    (h : r.permille.l1 = none ∨ r.permille.l2 = none ∨ r.permille.l3 = none) : judgeVoltage e p r v = (v, false) := by
  unfold judgeVoltage
  split
  case h_1 h1 h2 h3 => simp [h1, h2, h3] at h
  case h_2 => rfl

theorem judgeVoltage_present (e : BerthEntry) (p : Point) {r : MeasRecord} (v : Supervision) {x y z : Nat}
    (h : r.permille = ⟨some x, some y, some z⟩) : judgeVoltage e p r v
      = ({ v with
            voltage := (watchedSet v.voltage p
              (judge e.vFilter.toNat (outsideWindow e x || outsideWindow e y || outsideWindow e z) (watchedGet v.voltage p)).1) },
        (judge e.vFilter.toNat (outsideWindow e x || outsideWindow e y || outsideWindow e z) (watchedGet v.voltage p)).2) := by
  unfold judgeVoltage
  rw [h]

theorem outsideWindow_iff (e : BerthEntry) (x y z : Nat) :
    (outsideWindow e x || outsideWindow e y || outsideWindow e z) = true
      ↔ x < e.vLow.toNat ∨ y < e.vLow.toNat ∨ z < e.vLow.toNat ∨ e.vHigh.toNat < x ∨ e.vHigh.toNat < y ∨ e.vHigh.toNat < z := by
  simp only [outsideWindow, Bool.or_eq_true, decide_eq_true_eq]
  tauto

theorem not_within_iff (lo hi n : Nat) : (!within lo hi n) = true ↔ n < lo ∨ hi < n := by
  rw [Bool.not_eq_true', ← Bool.not_eq_true, within_iff]
  omega

theorem setSuperv_same (s : State) (b : Berth) : s.setSuperv b (s.superv b) = s := by
  simp [State.setSuperv, State.superv]

theorem inReverseSpan_iff (st : SessionState) :
    inReverseSpan st = true ↔ st = .parallel ∨ st = .rampIn ∨ st = .recall ∨ st = .rampOut := by
  cases st <;> simp [inReverseSpan]

/-! ## The restart (R133, R134) -/

/-- The state in which a restart has entered RESERVING, before its modules are asked for (R134). -/
def State.restarted (s : State) (b : Berth) : State :=
  (s.setSuperv b { s.superv b with attempts := (s.superv b).attempts + 1, restartDue := false, tripClass := none }).enterState b
    .reserving

theorem restart_eq (hf : (s.session b).state = .faulted) (hc : (s.superv b).tripClass = some .restart)
    (hd : (s.superv b).restartDue = true) (hr : s.restartConditions b = true) : s.restart b
      = ((s.restarted b).allocRequest b ((s.restarted b).session b).requested .normal).latchBerth b .restart := by
  unfold State.restart State.awaitsRestart
  exact if_pos (by simp [hf, hc, hd, hr])

theorem restarted_session (s : State) (b : Berth) :
    (s.restarted b).session b = sessionAtEntry (s.berthEntry b) .reserving (s.session b) := by
  unfold State.restarted
  rw [enterState_session_self, setSuperv_session]
  rfl

theorem restarted_trip (s : State) (b : Berth) : tripOf ((s.restarted b).superv b)
    = ((s.superv b).attempts + 1, (s.superv b).tripKind, none, false, (s.superv b).restartTimer) := by
  unfold State.restarted
  rw [enterState_superv_self, filtersAtEntry_trip, setSuperv_superv_self]
  rfl

/-- A restart keeps the session's identity and takes it into RESERVING, from where a grant may take it on (R134, R96). -/
theorem restart_serves (hf : (s.session b).state = .faulted) (hc : (s.superv b).tripClass = some .restart)
    (hd : (s.superv b).restartDue = true) (hr : s.restartConditions b = true) :
    identity ((s.restart b).session b) = identity (s.session b)
      ∧ (((s.restart b).session b).state = .reserving ∨ ((s.restart b).session b).state = .energising)
      ∧ tripOf ((s.restart b).superv b)
        = ((s.superv b).attempts + 1, (s.superv b).tripKind, none, false, (s.superv b).restartTimer)
      ∧ (s.restart b).isLatched (.berth b) 12 = true := by
  have hstate : ((s.restarted b).session b).state = .reserving := by
    rw [restarted_session]
    rfl
  have hlive : live ((s.restarted b).session b) := by
    rw [live, hstate]
    decide
  have hg : Serves b (s.restarted b) ((s.restarted b).allocRequest b ((s.restarted b).session b).requested .normal) :=
    allocRequest_serves b _ .normal hlive
  rw [restart_eq hf hc hd hr, latchBerth_session, latchBerth_superv]
  refine ⟨?_, ?_, ?_, latchBerth_isLatched_self _ _ .restart⟩
  · rw [hg.identity, restarted_session]
    rfl
  · rcases hg.stage with k | ⟨-, k⟩
    · exact .inl ((stageOf_state k).trans hstate)
    · exact .inr k
  · rw [hg.trip, restarted_trip]

/-- Settles O44: the timers by their guards, the restart by what its grants carry on, each protection function by its judgement. -/
theorem supervisionTimers : Obligations.SupervisionTimers := by
  refine ⟨fun s b h hb => ?_, fun s b h hop hf hc ht => ?_, fun s b h hf hc hd hr => ?_, fun s b h hr => ?_, fun s b => ?_,
    fun s b p hp => ?_, fun s b => ?_, fun v st => ?_⟩
  · exact (next_event h).trans (congrArg Host.Outcome.next (if_pos hb))
  · refine (next_event h).trans (congrArg Host.Outcome.next (if_pos ?_))
    change (s.operating && ((s.session b).state == .faulted && (s.superv b).tripClass == some .restart)
      && (s.superv b).restartTimer == 0) = true
    rw [hop, hf, hc, ht]
    rfl
  · obtain ⟨hid, hstate, htrip, hl⟩ := restart_serves (s := s.without (.restart b)) hf hc hd hr
    simp only [identity, tripOf, Prod.mk.injEq] at hid htrip
    obtain ⟨hnum, hacc, hfn, hvn, hreq, -⟩ := hid
    obtain ⟨hatt, -, hclass, hdue, -⟩ := htrip
    exact ⟨_, next_event h, hatt, hdue, hclass, hnum, hacc, hfn, hvn, hreq, hstate, hl⟩
  · refine (next_event h).trans (congrArg Host.Outcome.next (if_neg ?_))
    change ¬ (_ && s.restartConditions b) = true
    rw [hr, Bool.and_false]
    decide
  · intro v t
    refine ⟨fun h => superviseCurrent_outside h, fun ha hi => ?_⟩
    have hin : t = _ := superviseCurrent_inside ha hi
    refine ⟨fun hblank => ?_, fun hblank => ?_⟩
    · rw [hin]
      unfold judgeOvercurrent
      rw [if_pos hblank]
      rfl
    · have hjudge : judgeOvercurrent (s.berthEntry b) (s.meas (.bus b)).peak (s.superv b) = _ :=
        if_neg (Nat.not_lt.2 (Nat.le_of_eq hblank))
      rw [hjudge] at hin
      rw [hin]
      exact judgedAs_judge _ (by simp) v.overcurrent fun f => { v with overcurrent := f }
  · intro v e x y t u judged
    have hj : (s.voltageSpan b && s.watched p) = true ↔ judged := pointJudged_iff hp
    refine ⟨fun hn => ⟨?_, ?_⟩, fun hy => ⟨fun habs => ?_, fun a c d hper => ?_, fun n hfn => ?_⟩⟩
    · exact (superviseVoltage_eq hp).trans (if_neg fun k => hn (hj.1 k))
    · exact superviseFrequency_outside hp fun k => hn (hj.1 k)
    all_goals have hin : t = _ := (superviseVoltage_eq hp).trans (if_pos (hj.2 hy))
    · rw [hin, judgeVoltage_absent _ _ _ habs]
      exact setSuperv_same s b
    · rw [hin, judgeVoltage_present _ _ _ hper]
      exact judgedAs_judge _ (outsideWindow_iff _ _ _ _) (watchedGet v.voltage p) fun f =>
        { v with voltage := watchedSet v.voltage p f }
    · have hu : u = _ := superviseFrequency_inside hp (hj.2 hy) hfn
      rw [hu]
      exact judgedAs_judge _ (not_within_iff _ _ _) (watchedGet v.frequency p) fun f =>
        { v with frequency := watchedSet v.frequency p f }
  · intro v t st judged
    have hj : inReverseSpan st = true ↔ judged := inReverseSpan_iff st
    refine ⟨fun hn => if_neg fun k => hn (hj.1 k), fun hy => ?_⟩
    have hin : t = _ := if_pos (hj.2 hy)
    rw [hin]
    exact judgedAs_judge 2 (by simp) v.reverse fun f => { v with reverse := f }
  · refine ⟨?_, ?_, ?_, ?_⟩
    · rintro (rfl | rfl) <;> rfl
    · rintro rfl
      rfl
    · rintro (rfl | rfl | rfl | rfl | rfl | rfl) <;> rfl
    · rintro (rfl | rfl | rfl | rfl) <;> rfl

end
end Sys2Proof.Machine

/-! PROOFS. The meter's operations (09): a record placed, a closure deferred, a boundary applied, metering started and ended, and the
statement about the billing requests. -/

namespace Sys2Proof.Machine

open Sys2Proof

section
variable {s t : State} {b : Berth} {a : AcctBoundary} {o : OpenRecord} {d : Deferral}

theorem setMeter_self (s : State) (b : Berth) : s.setMeter b (s.meter b) = s := by
  simp [State.setMeter, State.meter]

theorem latchStation_mbu_meter (s : State) (f : StationFlag) (c : Berth) : (s.latchStation f).meter c = s.meter c := rfl

/-! ## The ring (R158, R159, R162) -/

theorem canPlace_iff (m : Mbu) : m.canPlace = true ↔ m.ring.length < 64 ∧ m.nextRecord ≤ 4294967295 := by
  simp [Mbu.canPlace, Mbu.exhausted]

theorem not_canPlace {m : Mbu} (h : 64 ≤ m.ring.length ∨ 4294967295 < m.nextRecord) : m.canPlace = false := by
  rw [← Bool.not_eq_true, canPlace_iff]
  omega

/-- The record that a closure puts into the ring (R159). -/
def State.closedRecord (s : State) (b : Berth) (r : OpenRecord) (closedAt : StationTime) (reason : CloseReason) : ClosedRecord :=
  { number := s.mbu.nextRecord, session := r.session, berth := b, account := r.account, openedAt := r.openedAt, closedAt := closedAt
    reason := reason, entries := r.entries.map closeEntry, peakDemand := r.peakDemand, substituted := r.substituted, gap := r.gap
    mixed := r.mixed, unverified := r.unverified, clockUnset := r.clockUnset, noTariff := r.noTariff }

theorem placeRecord_mbu (s : State) (b : Berth) (r : OpenRecord) (c : StationTime) (w : CloseReason) : (s.placeRecord b r c w).mbu
    = { s.mbu with ring := s.mbu.ring ++ [s.closedRecord b r c w], nextRecord := s.mbu.nextRecord + 1 } := rfl

theorem placeRecord_latched (s : State) (b : Berth) (r : OpenRecord) (c : StationTime) (w : CloseReason) :
    (s.placeRecord b r c w).isLatched .station 8 = true := by
  unfold State.placeRecord
  exact latchStation_isLatched_self _ .recordReady

/-- A berth put at the back of the deferral queue. -/
def State.lined (s : State) (b : Berth) : State := { s with mbu := { s.mbu with queue := s.mbu.queue ++ [b] } }

theorem deferClosure_eq (s : State) (b : Berth) (d : Deferral) : s.deferClosure b d
    = ((s.setMeter b { s.meter b with deferral := some d }).lined b).latchStation .recordRingFull := rfl

theorem deferClosure_meter (s : State) (b : Berth) (d : Deferral) :
    (s.deferClosure b d).meter b = { s.meter b with deferral := some d } := setMeter_meter_self _ _ _

theorem deferClosure_queue (s : State) (b : Berth) (d : Deferral) : (s.deferClosure b d).mbu.queue = s.mbu.queue ++ [b]
    ∧ (s.deferClosure b d).mbu.ring = s.mbu.ring ∧ (s.deferClosure b d).mbu.nextRecord = s.mbu.nextRecord := ⟨rfl, rfl, rfl⟩

theorem deferClosure_latched (s : State) (b : Berth) (d : Deferral) : (s.deferClosure b d).isLatched .station 9 = true := by
  rw [deferClosure_eq]
  exact latchStation_isLatched_self _ .recordRingFull

theorem setMeter_ring (s : State) (b : Berth) (m : Meter) : (s.setMeter b m).mbu.ring = s.mbu.ring
    ∧ (s.setMeter b m).mbu.queue = s.mbu.queue ∧ (s.setMeter b m).mbu.nextRecord = s.mbu.nextRecord := ⟨rfl, rfl, rfl⟩

/-! ## An account boundary (R158, R162, R163) -/

/-- The meter that has opened its next record at a boundary (R157). -/
def boundaryOpened (m : Meter) (a : AcctBoundary) (invalid : Bool) : Meter :=
  { m with
    record := some (openedRecord m.session m.account a.time (newEntry a.band a.price a.tariff) a.clockUnset invalid), price := a.price }

/-- The meter whose closure a boundary has deferred, with the entry begun (R162). -/
def boundaryDeferred (m : Meter) (o : OpenRecord) (a : AcctBoundary) : Meter :=
  { m with
    price := a.price
    record := some { o with entries := o.entries ++ [newEntry a.band a.price a.tariff], noTariff := o.noTariff || !a.tariff }
    deferral := some ⟨a.reason, a.time, some a.clockUnset, o.entries.length, none⟩ }

/-- The meter whose deferred record has begun an account (R163). -/
def boundaryBegun (m : Meter) (o : OpenRecord) (a : AcctBoundary) : Meter :=
  { m with record := some (beginEntry a.band a.price a.tariff o), price := a.price }

theorem applyBoundary_stopped (h : (s.meter b).running = false) : s.applyBoundary b a = s := by
  unfold State.applyBoundary
  dsimp only
  rw [h]

theorem applyBoundary_placed (hr : (s.meter b).running = true) (ho : (s.meter b).record = some o)
    (hd : (s.meter b).deferral = none) (hc : s.mbu.canPlace = true) : s.applyBoundary b a
      = (s.placeRecord b o a.time a.reason).setMeter b (boundaryOpened (s.meter b) a s.cfs.invalid) := by
  unfold State.applyBoundary
  dsimp only
  rw [hr, ho, hd]
  exact if_pos hc

theorem applyBoundary_deferred (hr : (s.meter b).running = true) (ho : (s.meter b).record = some o)
    (hd : (s.meter b).deferral = none) (hc : s.mbu.canPlace = false) : s.applyBoundary b a
      = (s.deferClosure b ⟨a.reason, a.time, some a.clockUnset, o.entries.length, none⟩).setMeter b
        (boundaryDeferred (s.meter b) o a) := by
  unfold State.applyBoundary
  dsimp only
  rw [hr, ho, hd]
  refine (if_neg (by rw [hc]; decide)).trans ?_
  rw [deferClosure_meter]
  rfl

theorem applyBoundary_begun (hr : (s.meter b).running = true) (ho : (s.meter b).record = some o)
    (hd : (s.meter b).deferral = some d) : s.applyBoundary b a = s.setMeter b (boundaryBegun (s.meter b) o a) := by
  unfold State.applyBoundary
  dsimp only
  split
  case h_1 h => exact nomatch hd.symm.trans h
  case h_2 q _ _ hq _ =>
    obtain rfl : q = o := Option.some.inj (hq.symm.trans ho)
    rfl
  case h_3 h => exact absurd hd (h o d hr ho)

theorem applyBoundary_empty (ho : (s.meter b).record = none) : s.applyBoundary b a = s := by
  unfold State.applyBoundary
  dsimp only
  rw [ho]
  cases (s.meter b).running <;> rfl

/-- A boundary writes record, price and deferral of its meter at most. -/
theorem applyBoundary_meter (s : State) (b : Berth) (a : AcctBoundary) :
    ∃ r p d, (s.applyBoundary b a).meter b = { s.meter b with record := r, price := p, deferral := d } := by
  cases hr : (s.meter b).running
  · rw [applyBoundary_stopped hr]
    exact ⟨_, _, _, rfl⟩
  · cases ho : (s.meter b).record with
    | none =>
      rw [applyBoundary_empty ho]
      exact ⟨_, _, _, rfl⟩
    | some o =>
      cases hd : (s.meter b).deferral with
      | some d =>
        rw [applyBoundary_begun hr ho hd, setMeter_meter_self]
        exact ⟨_, _, _, rfl⟩
      | none =>
        cases hc : s.mbu.canPlace
        · rw [applyBoundary_deferred hr ho hd hc, setMeter_meter_self]
          exact ⟨_, _, _, rfl⟩
        · rw [applyBoundary_placed hr ho hd hc, setMeter_meter_self]
          exact ⟨_, _, _, rfl⟩

/-! ## Held-over items (R155) -/

/-- The meter with its held-over block end applied and nothing held over. -/
def heldApplied (m : Meter) : Meter :=
  { (match m.heldBlock with
      | some _ => applyBlockEnd m
      | none => m) with heldBlock := none, heldBoundary := none }

theorem flushHeld_eq (s : State) (b : Berth) : s.flushHeld b = match (s.meter b).heldBoundary with
    | some a => (s.setMeter b (heldApplied (s.meter b))).applyBoundary b a
    | none => s.setMeter b (heldApplied (s.meter b)) := rfl

theorem hasHeld_eq_false {m : Meter} : hasHeld m = false ↔ m.heldBlock = none ∧ m.heldBoundary = none := by
  simp [hasHeld]

theorem heldApplied_none {m : Meter} (h : hasHeld m = false) : heldApplied m = m := by
  obtain ⟨h1, h2⟩ := hasHeld_eq_false.1 h
  unfold heldApplied
  rw [h1]
  cases m
  cases h1
  cases h2
  rfl

theorem flushHeld_of_none (h : hasHeld (s.meter b) = false) : s.flushHeld b = s := by
  rw [flushHeld_eq, (hasHeld_eq_false.1 h).2, heldApplied_none h]
  exact setMeter_self s b

theorem applyBlockEnd_fields (m : Meter) : (applyBlockEnd m).deferral = m.deferral ∧ (applyBlockEnd m).running = m.running
    ∧ (applyBlockEnd m).heldBoundary = m.heldBoundary ∧ (applyBlockEnd m).record.isSome = m.record.isSome := by
  unfold applyBlockEnd
  split
  · exact ⟨rfl, rfl, rfl, Option.isSome_map⟩
  · exact ⟨rfl, rfl, rfl, rfl⟩

theorem heldApplied_fields (m : Meter) : (heldApplied m).deferral = m.deferral ∧ (heldApplied m).running = m.running
    ∧ hasHeld (heldApplied m) = false ∧ (heldApplied m).record.isSome = m.record.isSome := by
  obtain ⟨h1, h2, -, h4⟩ := applyBlockEnd_fields m
  unfold heldApplied
  split
  · exact ⟨h1, h2, rfl, h4⟩
  · exact ⟨rfl, rfl, rfl, rfl⟩

theorem applyBlockEnd_running {m : Meter} (h : m.running = true) : applyBlockEnd m
    = { m with record := m.record.map (fun r => { r with peakDemand := max r.peakDemand m.blockSum }), blockSum := 0 } := by
  have hmax (p q : Nat) : (if p < q then q else p) = max p q := by
    split <;> omega
  unfold applyBlockEnd
  rw [if_pos h]
  simp only [hmax]

/-! ## Metering started and ended (R150, R151) -/

theorem startMetering_opened (s : State) (n : Option Nat) (c : Option (BitVec 32)) (w : Bool) (hh : hasHeld (s.meter b) = false)
    (hf : (s.meter b).finalPending = false) : s.startMetering b n c w = s.setMeter b
      { s.meter b with
        running := true, session := if w then (s.meter b).session else n, account := if w then (s.meter b).account else c
        blockSum := 0, lastTag := none, price := s.ctu.band.price
        importReg := if w then (s.meter b).importReg else 0, exportReg := if w then (s.meter b).exportReg else 0
        importRem := if w then (s.meter b).importRem else 0, exportRem := if w then (s.meter b).exportRem else 0
        record := some (openedRecord (if w then (s.meter b).session else n) (if w then (s.meter b).account else c) s.ctu.time
          (newEntry s.ctu.band.band s.ctu.band.price s.ctu.band.tariff) s.ctu.clockUnset s.cfs.invalid) } := by
  unfold State.startMetering
  rw [flushHeld_of_none hh]
  dsimp only
  split
  case h_1 h => exact nomatch hf.symm.trans h
  case h_2 => cases w <;> rfl

theorem startMetering_resumed (s : State) (n : Option Nat) (c : Option (BitVec 32)) (w : Bool) (hh : hasHeld (s.meter b) = false)
    (hf : (s.meter b).finalPending = true) (ho : (s.meter b).record = some o) (hd : (s.meter b).deferral = some d) :
    s.startMetering b n c w = s.setMeter b
      { s.meter b with
        running := true, blockSum := 0, lastTag := none, price := s.ctu.band.price, finalPending := false
        deferral := some { d with ended := none }
        record := some (beginEntry s.ctu.band.band s.ctu.band.price s.ctu.band.tariff o) } := by
  unfold State.startMetering
  rw [flushHeld_of_none hh]
  dsimp only
  rw [hf, ho, hd]

/-- The meter at its end, before its record is closed: a held-over block end applied, a boundary dropped (R151). -/
def stoppedMeter (m : Meter) : Meter :=
  { m with
    running := false, blockSum := 0, heldBlock := none, heldBoundary := none
    record := m.record.map fun o => { o with peakDemand := if m.heldBlock.isSome then max o.peakDemand m.blockSum else o.peakDemand } }

theorem stoppedMeter_eq {m : Meter} (h : m.running = true) :
    { (match m.heldBlock with
      | some _ => applyBlockEnd m
      | none => m) with heldBlock := none, heldBoundary := none, running := false, blockSum := 0 } = stoppedMeter m := by
  unfold stoppedMeter
  cases hb : m.heldBlock with
  | none =>
    have hrecord : m.record.map (fun o => { o with
        peakDemand := if (none : Option BlockEnd).isSome then max o.peakDemand m.blockSum else o.peakDemand }) = m.record := by
      cases m.record <;> rfl
    rw [hrecord]
  | some x =>
    dsimp only
    rw [applyBlockEnd_running h]
    rfl

theorem endMetering_stopped (w : CloseReason) (h : (s.meter b).running = false) : s.endMetering b w = s :=
  if_neg (by rw [h]; decide)

/-- The end of metering from its stopped meter on (R151, R158, R162). -/
def State.meterEnded (s : State) (b : Berth) (w : CloseReason) (m : Meter) : State :=
  match m.record, m.deferral with
  | some r, none =>
    if (s.setMeter b m).mbu.canPlace then
      ((s.setMeter b m).placeRecord b r s.ctu.time w).setMeter b
        { ((s.setMeter b m).placeRecord b r s.ctu.time w).meter b with record := none }
    else
      ((s.setMeter b m).deferClosure b ⟨w, s.ctu.time, none, r.entries.length, none⟩).setMeter b
        { ((s.setMeter b m).deferClosure b ⟨w, s.ctu.time, none, r.entries.length, none⟩).meter b with finalPending := true }
  | some r, some d =>
    (s.setMeter b m).setMeter b
      { m with
        finalPending := true
        deferral := some (if d.split < r.entries.length then { d with ended := some (w, s.ctu.time) } else d) }
  | none, _ => s.setMeter b m

theorem endMetering_running (w : CloseReason) (h : (s.meter b).running = true) :
    s.endMetering b w = s.meterEnded b w (stoppedMeter (s.meter b)) := by
  rw [← stoppedMeter_eq h]
  exact if_pos h

theorem meterEnded_placed {m : Meter} (w : CloseReason) (ho : m.record = some o) (hd : m.deferral = none)
    (hc : s.mbu.canPlace = true) : s.meterEnded b w m
      = ((s.setMeter b m).placeRecord b o s.ctu.time w).setMeter b { m with record := none } := by
  have hm : ((s.setMeter b m).placeRecord b o s.ctu.time w).meter b = m := setMeter_meter_self _ _ _
  unfold State.meterEnded
  split
  case h_1 q hq _ =>
    obtain rfl : q = o := Option.some.inj (hq.symm.trans ho)
    rw [hm]
    exact if_pos hc
  case h_2 h => exact nomatch hd.symm.trans h
  case h_3 h => exact nomatch ho.symm.trans h

theorem meterEnded_deferred {m : Meter} (w : CloseReason) (ho : m.record = some o) (hd : m.deferral = none)
    (hc : s.mbu.canPlace = false) : s.meterEnded b w m
      = ((s.setMeter b m).deferClosure b ⟨w, s.ctu.time, none, o.entries.length, none⟩).setMeter b
        { m with finalPending := true, deferral := some ⟨w, s.ctu.time, none, o.entries.length, none⟩ } := by
  unfold State.meterEnded
  split
  case h_1 q hq _ =>
    obtain rfl : q = o := Option.some.inj (hq.symm.trans ho)
    rw [deferClosure_meter, setMeter_meter_self]
    refine if_neg ?_
    change ¬ s.mbu.canPlace = true
    rw [hc]
    decide
  case h_2 h => exact nomatch hd.symm.trans h
  case h_3 h => exact nomatch ho.symm.trans h

theorem meterEnded_final {m : Meter} (w : CloseReason) (ho : m.record = some o) (hd : m.deferral = some d) : s.meterEnded b w m
    = s.setMeter b { m with
        finalPending := true
        deferral := some (if d.split < o.entries.length then { d with ended := some (w, s.ctu.time) } else d) } := by
  unfold State.meterEnded
  split
  case h_1 h => exact nomatch hd.symm.trans h
  case h_2 q x hq hx =>
    obtain rfl : q = o := Option.some.inj (hq.symm.trans ho)
    obtain rfl : x = d := Option.some.inj (hx.symm.trans hd)
    exact setMeter_twice _ _ _ _
  case h_3 h => exact nomatch ho.symm.trans h

end
end Sys2Proof.Machine

/-! PROOFS. The billing requests (09, 11): the release of a record with the deferred closure that takes its slot, and the statement
about the requests and the meter's operations. -/

namespace Sys2Proof.Machine

open Sys2Proof

section
variable {s t : State} {b : Berth} {a : AcctBoundary} {o : OpenRecord} {d : Deferral}

/-- Held-over items of a meter with a deferred closure close nothing (R155, R163). -/
theorem flushHeld_of_deferral (ho : (s.meter b).record = some o) (hd : (s.meter b).deferral = some d) :
    ∃ m p, s.flushHeld b = s.setMeter b m ∧ m.record = some p ∧ m.deferral = some d := by
  obtain ⟨h1, h2, -, h4⟩ := heldApplied_fields (s.meter b)
  have hrecord : ∃ p, (heldApplied (s.meter b)).record = some p := Option.isSome_iff_exists.1 (by rw [h4, ho]; rfl)
  obtain ⟨p, hp⟩ := hrecord
  have hself : (s.setMeter b (heldApplied (s.meter b))).meter b = heldApplied (s.meter b) := setMeter_meter_self _ _ _
  rw [flushHeld_eq]
  split
  case h_1 a _ =>
    cases hr : (s.meter b).running
    · rw [applyBoundary_stopped (by rw [hself, h2, hr])]
      exact ⟨_, p, rfl, hp, h1.trans hd⟩
    · rw [applyBoundary_begun (o := p) (d := d) (by rw [hself, h2, hr]) (by rw [hself, hp]) (by rw [hself, h1, hd]),
        setMeter_twice, hself]
      exact ⟨_, _, rfl, rfl, h1.trans hd⟩
  case h_2 => exact ⟨_, p, rfl, hp, h1.trans hd⟩

/-- The state with the head of the deferral queue taken. -/
def State.unlined (s : State) : State := { s with mbu := { s.mbu with queue := s.mbu.queue.tail } }

/-- The records of the ring and the number of the next. -/
def ringOf (s : State) : List ClosedRecord × Nat := (s.mbu.ring, s.mbu.nextRecord)

/-- A deferred closure placed puts its record at the back of the ring, whatever the meter goes on with (R164). -/
theorem placeDeferred_mbu (ho : (s.meter b).record = some o) (hd : (s.meter b).deferral = some d) :
    ∃ k, (s.placeDeferred b).mbu.ring = s.mbu.ring ++ [k] ∧ (s.placeDeferred b).mbu.nextRecord = s.mbu.nextRecord + 1
      ∧ k.number = s.mbu.nextRecord ∧ k.berth = b ∧ k.reason = d.reason ∧ k.closedAt = s.ctu.time := by
  obtain ⟨m, p, hflush, hp, hmd⟩ := flushHeld_of_deferral ho hd
  have hself : (s.setMeter b m).meter b = m := setMeter_meter_self _ _ _
  have hring : ringOf (s.placeDeferred b)
      = (s.mbu.ring ++ [(s.setMeter b m).unlined.closedRecord b (deferredClosed d p) s.ctu.time d.reason], s.mbu.nextRecord + 1) := ?_
  · exact ⟨_, congrArg Prod.fst hring, congrArg Prod.snd hring, rfl, rfl, rfl, rfl⟩
  unfold State.placeDeferred
  rw [hflush]
  dsimp only
  rw [hself]
  split
  case h_1 q x hq hx =>
    obtain rfl : q = p := Option.some.inj (hq.symm.trans hp)
    obtain rfl : x = d := Option.some.inj (hx.symm.trans hmd)
    split
    · rfl
    · split <;> rfl
  case h_2 h => exact absurd hmd (h p d hp)

/-- The state with the oldest record of the ring gone. -/
def State.ringShifted (s : State) : State := { s with mbu := { s.mbu with ring := s.mbu.ring.tail } }

theorem releaseOldest_alone (h : s.mbu.queue = [] ∨ 4294967295 < s.mbu.nextRecord) : s.releaseOldest = s.ringShifted := by
  unfold State.releaseOldest
  dsimp only
  split
  case h_1 c q hq =>
    refine if_pos ?_
    rcases h with h | h
    · exact nomatch h.symm.trans hq
    · exact decide_eq_true h
  case h_2 => rfl

theorem releaseOldest_placed {q : List Berth} (hq : s.mbu.queue = b :: q) (hn : s.mbu.nextRecord ≤ 4294967295) :
    s.releaseOldest = s.ringShifted.placeDeferred b := by
  unfold State.releaseOldest
  dsimp only
  split
  case h_1 c r hc =>
    obtain ⟨rfl, rfl⟩ := List.cons.inj (hc.symm.trans hq)
    refine if_neg ?_
    change ¬ decide (4294967295 < s.mbu.nextRecord) = true
    rw [decide_eq_true_eq]
    omega
  case h_2 h => exact nomatch h.symm.trans hq

/-- A boundary in a deferred record with an entry to spare, or with four (R163). -/
theorem beginEntry_of_lt (n p : Nat) (x : Bool) (h : o.entries.length < 4) : beginEntry n p x o
    = { o with entries := o.entries ++ [newEntry n p x], noTariff := o.noTariff || !x } := if_pos h

theorem beginEntry_of_four (n p : Nat) (x : Bool) {e1 e2 e3 e4 : BandEntry} (h : o.entries = [e1, e2, e3, e4]) : beginEntry n p x o
    = { o with
        entries := [e1, e2, e3, { e4 with band := 255, price := 0, tariff := e4.tariff && x }], mixed := true
        noTariff := o.noTariff || !x } := by
  have hlast : modifyLast (mixEntry x) o.entries
      = [e1, e2, e3, { e4 with band := 255, price := 0, tariff := e4.tariff && x }] := by
    rw [h]
    unfold modifyLast modifyLast modifyLast modifyLast mixEntry
    cases x <;> simp
  unfold beginEntry
  rw [if_neg (by rw [h]; simp), hlast]

theorem meter_of_not_pending {m : Meter} (h : m.finalPending = false) : { m with finalPending := false } = m := by
  cases m
  cases h
  rfl

/-- Settles O49: the requests by the ring, each operation of the meter by its record and its deferral. -/
theorem billingRequests : Obligations.BillingRequests := by
  refine ⟨fun s r l h hc ha => ?_, fun s r l h hc ha => ?_, fun s b a => ?_, fun s b n c w hh => ?_, fun s b w => ?_⟩
  · have hf : lengthFits r = true := fits_of_length hc (by decide) (by rw [ha]; rfl)
    refine ⟨fun hr => next_answer h hc hf 19 ?_, fun c rest hr => next_answer h hc hf 19 ?_⟩
    all_goals
      change reqReadBilling r.args s.quiet = _
      unfold reqReadBilling
      rw [show s.quiet.mbu.ring = _ from hr]
    rfl
  · have hf : lengthFits r = true := fits_of_length hc (by decide) (by rw [ha]; rfl)
    have hrelease (c : ClosedRecord) (rest : List ClosedRecord) (hr : s.mbu.ring = c :: rest) : ownerOf 20 r.args s.quiet
        = if c.number = natOf r.args then (s.quiet.releaseOldest, done) else refuse s.quiet .sequence := by
      change reqReleaseBilling r.args s.quiet = _
      unfold reqReleaseBilling
      rw [show s.quiet.mbu.ring = _ from hr, List.take_of_length_le (Nat.le_of_eq ha)]
    refine ⟨fun hr => next_answer h hc hf 20 ?_, fun c rest hr => ⟨fun hn => next_owned h hc hf 20 ?_, fun hn => ?_⟩⟩
    · change reqReleaseBilling r.args s.quiet = _
      unfold reqReleaseBilling
      rw [show s.quiet.mbu.ring = _ from hr]
      rfl
    · exact (hrelease c rest hr).trans (if_neg hn)
    · have ho := (hrelease c rest hr).trans (if_pos hn)
      have hshift : s.quiet.ringShifted = { s.quiet with mbu := { s.mbu with ring := rest } } := by
        unfold State.ringShifted
        rw [show s.quiet.mbu.ring = c :: rest from hr]
        rfl
      refine ⟨fun hq => (next_owned h hc hf 20 ho).trans ?_, fun b q o d hq hnext hrec hdef => ?_⟩
      · rw [releaseOldest_alone (s := s.quiet) hq, hshift]
      · rw [releaseOldest_placed (s := s.quiet) hq hnext, hshift] at ho
        obtain ⟨k, hring, hnumber, hk1, hk2, hk3, hk4⟩ := placeDeferred_mbu
          (s := { s.quiet with mbu := { s.mbu with ring := rest } }) (b := b) hrec hdef
        refine ⟨_, next_owned h hc hf 20 ho, k, ?_⟩
        simp only [answered_mbu, answered_requests, answered_responses]
        refine ⟨hring, hk1, hk2, hk3, hk4, hnumber, True.intro, ?_⟩
        rw [responses_of_outer (placeDeferred_outer _ _)]
        rfl
  · intro m t e
    refine ⟨fun hr => applyBoundary_stopped hr, fun o hr ho => ⟨fun hd hlen hn => ?_, fun hd hfull => ?_, fun hd => ?_⟩⟩
    · have ht : t = _ := applyBoundary_placed hr ho hd ((canPlace_iff _).2 ⟨hlen, hn⟩)
      rw [ht]
      exact ⟨rfl, rfl, rfl, placeRecord_latched _ _ _ _ _, setMeter_meter_self _ _ _⟩
    · have ht : t = _ := applyBoundary_deferred hr ho hd (not_canPlace hfull)
      rw [ht]
      exact ⟨rfl, rfl, rfl, deferClosure_latched _ _ _, setMeter_meter_self _ _ _⟩
    · obtain ⟨d, hd⟩ := Option.ne_none_iff_exists'.1 hd
      have ht : t = _ := applyBoundary_begun hr ho hd
      have hself : t.meter b = boundaryBegun m o a := by rw [ht, setMeter_meter_self]
      refine ⟨by rw [ht]; rfl, by rw [ht]; rfl, fun hlen => ?_, fun x y z v hxs => ?_⟩
      · rw [hself, boundaryBegun, beginEntry_of_lt _ _ _ hlen]
        rfl
      · rw [hself, boundaryBegun, beginEntry_of_four _ _ _ hxs]
  · intro m t f
    have hbill := (BillingOnly.refl b s).startMetering n c w
    cases hfin : m.finalPending
    · have ht : t = _ := startMetering_opened s n c w hh hfin
      refine ⟨by rw [ht]; rfl, by rw [ht]; rfl, hbill.others, fun _ => ?_, fun o d k => absurd k Bool.false_ne_true⟩
      intro n' a'
      rw [ht, setMeter_meter_self]
      refine (meter_of_not_pending ?_).symm
      exact hfin
    · have hring : t.mbu.ring = s.mbu.ring ∧ t.mbu.queue = s.mbu.queue := by
        have : ∃ x, t = s.setMeter b x := by
          change ∃ x, s.startMetering b n c w = s.setMeter b x
          unfold State.startMetering
          rw [flushHeld_of_none hh]
          dsimp only
          split <;> exact ⟨_, rfl⟩
        obtain ⟨x, hx⟩ := this
        rw [hx]
        exact ⟨rfl, rfl⟩
      refine ⟨hring.1, hring.2, hbill.others, fun k => absurd k.symm Bool.false_ne_true, fun o d _ ho hd hlen => ?_⟩
      have ht : t = _ := startMetering_resumed s n c w hh hfin ho hd
      rw [ht, beginEntry_of_lt _ _ _ hlen, setMeter_meter_self]
      rfl
  · intro m t stopped
    refine ⟨fun hr => endMetering_stopped w hr, fun o hr ho => ?_⟩
    intro o1
    have ht : t = s.meterEnded b w (stoppedMeter m) := endMetering_running w hr
    have hrec : (stoppedMeter m).record = some o1 := by
      change m.record.map _ = _
      rw [ho]
      rfl
    refine ⟨((BillingOnly.refl b s).endMetering w).others, fun hd hlen hn => ?_, fun hd hfull => ?_, fun d hd => ?_⟩
    · rw [meterEnded_placed w hrec hd ((canPlace_iff _).2 ⟨hlen, hn⟩)] at ht
      rw [ht]
      exact ⟨setMeter_meter_self _ _ _, rfl, rfl, _, rfl, rfl, rfl, rfl, rfl, rfl, rfl⟩
    · rw [meterEnded_deferred w hrec hd (not_canPlace hfull)] at ht
      rw [ht, setMeter_meter_self]
      refine ⟨rfl, rfl, deferClosure_latched _ _ _, ?_⟩
      rw [hrec]
      rfl
    · rw [meterEnded_final w hrec hd] at ht
      rw [ht, setMeter_meter_self]
      refine ⟨rfl, rfl, ?_⟩
      rw [hrec]
      rfl

end
end Sys2Proof.Machine

/-! PROOFS. The meters side by side (09, 08): what a change made for every berth's meter leaves of one of them, the validity of a
tariff table, and the statement about the clock requests. -/

namespace Sys2Proof.Machine

open Sys2Proof

section
variable {s t u : State} {b c : Berth} {n k : Nat}

/-! ## Records placed behind those of a state -/

/-- At most `n` records stand behind those of the ring, under the numbers that come next (R159). -/
def Placed (n : Nat) (s t : State) : Prop :=
  ∃ l, t.mbu.ring = s.mbu.ring ++ l ∧ l.length ≤ n ∧ t.mbu.nextRecord = s.mbu.nextRecord + l.length

theorem Placed.refl (s : State) : Placed 0 s s := ⟨[], (List.append_nil _).symm, Nat.le_refl _, rfl⟩

theorem Placed.mono (h : Placed n s t) (hk : n ≤ k) : Placed k s t := by
  obtain ⟨l, h1, h2, h3⟩ := h
  exact ⟨l, h1, h2.trans hk, h3⟩

theorem Placed.trans (h : Placed n s t) (g : Placed k t u) : Placed (n + k) s u := by
  obtain ⟨l, h1, h2, h3⟩ := h
  obtain ⟨m, g1, g2, g3⟩ := g
  exact ⟨l ++ m, by rw [g1, h1, List.append_assoc], by rw [List.length_append]; omega, by rw [g3, h3, List.length_append]; omega⟩

theorem Placed.setMeter (h : Placed n s t) (c : Berth) (m : Meter) : Placed n s (t.setMeter c m) := h

theorem Placed.mem (h : Placed n s t) {r : ClosedRecord} (hr : r ∈ s.mbu.ring) : r ∈ t.mbu.ring := by
  obtain ⟨l, h1, -, -⟩ := h
  exact h1 ▸ List.mem_append_left l hr

/-- A ring with room for the records placed has room after them. -/
theorem Placed.canPlace (h : Placed n s t) (hl : s.mbu.ring.length + n ≤ 63) (hn : s.mbu.nextRecord + n ≤ 4294967295) :
    t.mbu.canPlace = true := by
  obtain ⟨l, h1, h2, h3⟩ := h
  rw [canPlace_iff, h1, h3, List.length_append]
  omega

/-- A ring without room stays without it. -/
theorem Placed.not_canPlace (h : Placed n s t) (hs : 64 ≤ s.mbu.ring.length ∨ 4294967295 < s.mbu.nextRecord) :
    t.mbu.canPlace = false := by
  obtain ⟨l, h1, h2, h3⟩ := h
  refine Machine.not_canPlace ?_
  rw [h1, h3, List.length_append]
  omega

theorem placed_applyBoundary (s : State) (c : Berth) (a : AcctBoundary) : Placed 1 s (s.applyBoundary c a) := by
  have h0 := (Placed.refl s).mono (Nat.zero_le 1)
  unfold State.applyBoundary
  dsimp only
  split
  · split
    · exact ⟨[_], rfl, Nat.le_refl _, rfl⟩
    · exact h0
  · exact h0
  · exact h0

theorem placed_flushHeld (s : State) (c : Berth) : Placed 1 s (s.flushHeld c) := by
  rw [flushHeld_eq]
  split
  · exact placed_applyBoundary (s.setMeter c (heldApplied (s.meter c))) c _
  · exact (Placed.refl s).mono (Nat.zero_le 1)

/-! ## A change beside a berth's meter -/

/-- A change that leaves a berth's meter as it is and places at most `n` records. -/
structure Aside (b : Berth) (n : Nat) (s t : State) : Prop where
  meter : t.meter b = s.meter b
  placed : Placed n s t
  outer : outer t = outer s

theorem Aside.refl (b : Berth) (s : State) : Aside b 0 s s := ⟨rfl, .refl s, rfl⟩

theorem Aside.trans (h : Aside b n s t) (g : Aside b k t u) : Aside b (n + k) s u :=
  ⟨g.meter.trans h.meter, h.placed.trans g.placed, g.outer.trans h.outer⟩

theorem Aside.cfs (h : Aside b n s t) : t.cfs = s.cfs := cfs_of_outer h.outer

/-- A change of another berth's meter stands beside this one's. -/
theorem BillingOnly.aside (h : BillingOnly c s t) (hc : c ≠ b) (hp : Placed n s t) (ho : Machine.outer t = Machine.outer s) :
    Aside b n s t := ⟨h.others b hc.symm, hp, ho⟩

/-- Changes made for some other berths stand beside this one's meter. -/
theorem aside_foldl {f : Berth → State → State} {P : State → Prop} (hP : ∀ c x, P x → P (f c x))
    (hf : ∀ c x, c ≠ b → P x → Aside b n x (f c x)) (l : List Berth) (hl : b ∉ l) (hs : P s) :
    P (l.foldl (fun x c => f c x) s) ∧ Aside b (n * l.length) s (l.foldl (fun x c => f c x) s) := by
  induction l generalizing s with
  | nil => exact ⟨hs, .refl b s⟩
  | cons c l ih =>
    obtain ⟨hc, hl⟩ : b ≠ c ∧ b ∉ l := by simpa using hl
    obtain ⟨h1, h2⟩ := ih hl (hP c s hs)
    rw [List.length_cons, Nat.mul_succ, Nat.add_comm]
    exact ⟨h1, (hf c s (Ne.symm hc) hs).trans h2⟩

/-- A change made for every berth is, for one of them, its own change with changes of the others' before and after it. -/
theorem forEach_aside {f : Berth → State → State} {P : State → Prop} (hP : ∀ c x, P x → P (f c x))
    (hf : ∀ c x, c ≠ b → P x → Aside b n x (f c x)) (hs : P s) :
    ∃ x, ∃ i j, i + j = 3 * n ∧ P x ∧ P (forEach f s) ∧ Aside b i s x ∧ Aside b j (f b x) (forEach f s) := by
  obtain ⟨l, r, hlr⟩ := List.append_of_mem (List.mem_finRange b)
  have hnodup : (l ++ b :: r).Nodup := hlr ▸ List.nodup_finRange 4
  have hlength : l.length + r.length = 3 := by
    have h : (l ++ b :: r).length = 4 := by rw [← hlr, List.length_finRange]
    simpa [← Nat.add_assoc] using h
  have hl : b ∉ l := fun k => (List.disjoint_of_nodup_append hnodup) k List.mem_cons_self
  have hr : b ∉ r := (List.nodup_cons.1 (List.nodup_append.1 hnodup).2.1).1
  obtain ⟨h1, h2⟩ := aside_foldl (s := s) hP hf l hl hs
  obtain ⟨h3, h4⟩ := aside_foldl (s := f b (l.foldl (fun x c => f c x) s)) hP hf r hr (hP b _ h1)
  have hsplit : forEach f s = r.foldl (fun x c => f c x) (f b (l.foldl (fun x c => f c x) s)) := by
    unfold forEach
    rw [hlr, List.foldl_append, List.foldl_cons]
  rw [hsplit]
  exact ⟨_, n * l.length, n * r.length, by rw [← Nat.mul_add, hlength, Nat.mul_comm], h1, h3, h2, h4⟩

/-! ## The clock set (R139) -/

theorem heldApplied_meter (m : Meter) : ∃ r n, heldApplied m = { m with record := r, blockSum := n, heldBlock := none, heldBoundary := none } := by
  unfold heldApplied applyBlockEnd
  split
  · split <;> exact ⟨_, _, rfl⟩
  · exact ⟨_, _, rfl⟩

/-- Held-over items applied leave nothing held over, in a meter that runs or stands as it did (R155). -/
theorem flushHeld_meter (s : State) (b : Berth) :
    hasHeld ((s.flushHeld b).meter b) = false ∧ ((s.flushHeld b).meter b).running = (s.meter b).running
      ∧ ((s.flushHeld b).meter b).lastTag = (s.meter b).lastTag := by
  obtain ⟨r, n, hm⟩ := heldApplied_meter (s.meter b)
  rw [flushHeld_eq, hm]
  split
  case h_1 a _ =>
    obtain ⟨q, p, d, ha⟩ := applyBoundary_meter
      (s.setMeter b { s.meter b with record := r, blockSum := n, heldBlock := none, heldBoundary := none }) b a
    rw [ha, setMeter_meter_self]
    exact ⟨rfl, rfl, rfl⟩
  case h_2 =>
    rw [setMeter_meter_self]
    exact ⟨rfl, rfl, rfl⟩

theorem applyBlockRestart_running {m : Meter} (h : m.running = true) : applyBlockRestart m = { m with blockSum := 0 } := if_pos h

theorem applyBlockRestart_stopped {m : Meter} (h : m.running = false) : applyBlockRestart m = m := if_neg (by rw [h]; decide)

theorem clockSetRestart_meter (s : State) (b : Berth) :
    (s.clockSetRestart b).meter b = applyBlockRestart ((s.flushHeld b).meter b) := setMeter_meter_self _ _ _

theorem clockSetRestart_fields (s : State) (b : Berth) :
    hasHeld ((s.clockSetRestart b).meter b) = false ∧ ((s.clockSetRestart b).meter b).running = (s.meter b).running
      ∧ ((s.meter b).running = true → ((s.clockSetRestart b).meter b).blockSum = 0) := by
  obtain ⟨h1, h2, -⟩ := flushHeld_meter s b
  rw [clockSetRestart_meter]
  cases hr : (s.meter b).running
  · rw [applyBlockRestart_stopped (h2.trans hr)]
    exact ⟨h1, h2.trans hr, fun k => nomatch k⟩
  · rw [applyBlockRestart_running (h2.trans hr)]
    exact ⟨h1, h2.trans hr, fun _ => rfl⟩

theorem clockSetRestart_of_none (h : hasHeld (s.meter b) = false) : (s.clockSetRestart b) = s.setMeter b (applyBlockRestart (s.meter b)) := by
  unfold State.clockSetRestart
  dsimp only
  rw [flushHeld_of_none h]

theorem billing_clockSetRestart (s : State) (b : Berth) : BillingOnly b s (s.clockSetRestart b) :=
  (BillingOnly.refl b s).flushHeld.setMeter _

/-- The state with the time of a clock set, its block restarted at every meter (R139, R147). -/
def State.clockRestarted (s : State) (n : StationTime) : State :=
  forEach (fun b (x : State) => x.clockSetRestart b) { s with ctu := { s.ctu with time := n, clockUnset := false, block := ⟨n, 0⟩ } }

/-- The state once the clock is set, before its account boundary: band and activation judged. -/
def State.clockStepped (s : State) (n : StationTime) : State :=
  if activationReached (s.clockRestarted n).recomputeBand.ctu then (s.clockRestarted n).recomputeBand.activate
  else (s.clockRestarted n).recomputeBand

theorem setClockTo_eq (s : State) (n : StationTime) : s.setClockTo n
    = forEach (fun b (x : State) => x.applyBoundary b ((s.clockStepped n).acctBoundary .clockSet)) (s.clockStepped n) := by
  unfold State.setClockTo State.clockStepped State.clockRestarted
  rfl

theorem clockRestarted_outer (s : State) (n : StationTime) : outer (s.clockRestarted n)
    = outer { s with ctu := { s.ctu with time := n, clockUnset := false, block := ⟨n, 0⟩ } } :=
  outer_forEach _ (fun b x => clockSetRestart_outer x b) _

theorem clockRestarted_ctu (s : State) (n : StationTime) :
    (s.clockRestarted n).ctu = { s.ctu with time := n, clockUnset := false, block := ⟨n, 0⟩ } := ctu_of_outer (clockRestarted_outer s n)

theorem clockRestarted_cfs (s : State) (n : StationTime) : (s.clockRestarted n).cfs = s.cfs :=
  (cfs_of_outer (clockRestarted_outer s n) : _)

theorem recomputeBand_ctu (s : State) : s.recomputeBand.ctu = { s.ctu with band := bandOf s.ctu.active s.ctu.time } := rfl

theorem activate_ctu (s : State) : s.activate.ctu
    = { s.ctu with
        active := s.ctu.pendingTable, pendingTable := Vector.replicate 16 none, activation := none
        band := bandOf s.ctu.pendingTable s.ctu.time } := rfl

theorem recomputeBand_mbu (s : State) : s.recomputeBand.mbu = s.mbu := rfl
theorem recomputeBand_cfs (s : State) : s.recomputeBand.cfs = s.cfs := rfl
theorem activate_mbu (s : State) : s.activate.mbu = s.mbu := rfl
theorem activate_cfs (s : State) : s.activate.cfs = s.cfs := rfl

theorem activate_latched (s : State) : s.activate.isLatched .station 7 = true := latchStation_isLatched_self _ .tariffActivated

theorem activationReached_clockRestarted (s : State) (n : StationTime) :
    activationReached (s.clockRestarted n).recomputeBand.ctu = activationReached { s.ctu with time := n } := by
  rw [recomputeBand_ctu, clockRestarted_ctu]
  rfl

theorem clockStepped_kept {n : StationTime} (h : activationReached { s.ctu with time := n } = false) :
    s.clockStepped n = (s.clockRestarted n).recomputeBand :=
  if_neg (by rw [activationReached_clockRestarted, h]; decide)

theorem clockStepped_activated {n : StationTime} (h : activationReached { s.ctu with time := n } = true) :
    s.clockStepped n = (s.clockRestarted n).recomputeBand.activate :=
  if_pos ((activationReached_clockRestarted s n).trans h)

/-- What every clock set makes of the unit's own state (R139, R145). -/
theorem clockStepped_ctu (s : State) (n : StationTime) : (s.clockStepped n).ctu.time = n ∧ (s.clockStepped n).ctu.clockUnset = false
    ∧ (s.clockStepped n).ctu.block = ⟨n, 0⟩ ∧ (s.clockStepped n).ctu.phaseCount = s.ctu.phaseCount
    ∧ (s.clockStepped n).ctu.band = bandOf (s.clockStepped n).ctu.active n := by
  cases h : activationReached { s.ctu with time := n }
  · rw [clockStepped_kept h, recomputeBand_ctu, clockRestarted_ctu]
    exact ⟨rfl, rfl, rfl, rfl, rfl⟩
  · rw [clockStepped_activated h, activate_ctu, recomputeBand_ctu, clockRestarted_ctu]
    exact ⟨rfl, rfl, rfl, rfl, rfl⟩

/-- Up to the account boundary a clock set is, for one meter, its own restart with the others' before and after it. -/
theorem clockStepped_meter (s : State) (n : StationTime) (b : Berth) : ∃ x y i j, i + j = 3 ∧ x.meter b = s.meter b ∧ Placed i s x
    ∧ y.meter b = (x.clockSetRestart b).meter b ∧ Placed j (x.clockSetRestart b) y
    ∧ (s.clockStepped n).mbu = y.mbu ∧ (s.clockStepped n).cfs = s.cfs := by
  obtain ⟨x, i, j, hij, -, -, hx, hy⟩ := forEach_aside (b := b)
    (s := { s with ctu := { s.ctu with time := n, clockUnset := false, block := ⟨n, 0⟩ } })
    (f := fun b (x : State) => x.clockSetRestart b) (P := fun _ => True) (fun _ _ _ => trivial)
    (fun c z hc _ => (billing_clockSetRestart z c).aside hc (placed_flushHeld z c) (clockSetRestart_outer z c)) trivial
  refine ⟨x, s.clockRestarted n, i, j, hij, hx.meter, hx.placed, hy.meter, hy.placed, ?_⟩
  cases h : activationReached { s.ctu with time := n }
  · rw [clockStepped_kept h, recomputeBand_mbu, recomputeBand_cfs]
    exact ⟨rfl, clockRestarted_cfs s n⟩
  · rw [clockStepped_activated h, activate_mbu, activate_cfs, recomputeBand_mbu, recomputeBand_cfs]
    exact ⟨rfl, clockRestarted_cfs s n⟩

/-- A clock set is, for one meter, its restart and then its boundary, with the others' changes between them. -/
theorem setClockTo_meter (s : State) (n : StationTime) (b : Berth) : ∃ x y i j k, i + j ≤ 6 ∧ x.meter b = s.meter b ∧ Placed i s x
    ∧ y.meter b = (x.clockSetRestart b).meter b ∧ Placed j (x.clockSetRestart b) y ∧ y.cfs = s.cfs
    ∧ Aside b k (y.applyBoundary b ((s.clockStepped n).acctBoundary .clockSet)) (s.setClockTo n) := by
  obtain ⟨x, y, i, j, hij, h1, h2, h3, h4, hmbu, hcfs⟩ := clockStepped_meter s n b
  obtain ⟨z, p, q, hpq, -, -, hz, hw⟩ := forEach_aside (b := b) (s := s.clockStepped n)
    (f := fun b (x : State) => x.applyBoundary b ((s.clockStepped n).acctBoundary .clockSet)) (P := fun _ => True) (fun _ _ _ => trivial)
    (fun c v hc _ => (BillingOnly.refl c v).applyBoundary _ |>.aside hc (placed_applyBoundary v c _) (applyBoundary_outer v c _)) trivial
  have hmeter : (s.clockStepped n).meter b = y.meter b := congrArg (fun m : Mbu => vget m.meter b) hmbu
  have hplaced : Placed j (x.clockSetRestart b) (s.clockStepped n) := by
    unfold Placed
    rw [hmbu]
    exact h4
  exact ⟨x, z, i, j + p, q, by omega, h1, h2, hz.meter.trans (hmeter.trans h3), hplaced.trans hz.placed, hz.cfs.trans hcfs, hw⟩

end
end Sys2Proof.Machine

/-! PROOFS. The tariff tables and the clock requests (08): the validity of a table by its weekdays, the meters at a clock set, and the
statement about the clock requests. -/

namespace Sys2Proof.Machine

open Sys2Proof

section
variable {t : Vector (Option TariffEntry) 16} {d : Nat} {f : TariffFault}

/-! ## The validity of a table (R141) -/

theorem mem_dayEntries {i : Slot} {e : TariffEntry} : (i, e) ∈ dayEntries t d ↔ vget t i = some e ∧ e.mask.getLsbD d = true := by
  simp [dayEntries, maskIncludes, mem_tableEntries]

/-- A table lists its entries by their slots. -/
theorem tableEntries_sorted (t : Vector (Option TariffEntry) 16) : (tableEntries t).Pairwise (fun x y => x.1 < y.1) := by
  unfold tableEntries
  rw [List.pairwise_filterMap]
  refine (List.pairwise_lt_finRange 16).imp fun {i j} h x hx y hy => ?_
  obtain ⟨e, -, rfl⟩ := Option.map_eq_some_iff.1 hx
  obtain ⟨w, -, rfl⟩ := Option.map_eq_some_iff.1 hy
  exact h

theorem dayEntries_sorted (t : Vector (Option TariffEntry) 16) (d : Nat) : (dayEntries t d).Pairwise (fun x y => x.1 < y.1) :=
  (tableEntries_sorted t).filter _

theorem firstOverlap_none {l : List (Slot × TariffEntry)} :
    firstOverlap d l = none ↔ l.Pairwise (fun x y => x.2.start ≠ y.2.start) := by
  induction l with
  | nil => simp [firstOverlap]
  | cons x l ih =>
    rw [firstOverlap, List.pairwise_cons, ← ih]
    simp only [List.any_eq_true, beq_iff_eq]
    split
    case isTrue h =>
      obtain ⟨y, hy, hxy⟩ := h
      exact ⟨fun k => (nomatch k), fun k => absurd hxy.symm (k.1 y hy)⟩
    case isFalse h => exact ⟨fun k => ⟨fun y hy hxy => h ⟨y, hy, hxy.symm⟩, k⟩, And.right⟩

/-- The overlap named is that of an entry with a later one of the day. -/
theorem firstOverlap_some {l : List (Slot × TariffEntry)} (h : firstOverlap d l = some f) :
    ∃ x y, List.Sublist [x, y] l ∧ x.2.start = y.2.start ∧ f = .overlap d x.2.start x.1.val := by
  induction l with
  | nil => exact nomatch h
  | cons x l ih =>
    rw [firstOverlap] at h
    split at h
    case isTrue k =>
      obtain ⟨y, hy, hxy⟩ := List.any_eq_true.1 k
      exact ⟨x, y, (List.singleton_sublist.2 hy).cons_cons x, (beq_iff_eq.1 hxy).symm, (Option.some.inj h).symm⟩
    case isFalse =>
      obtain ⟨u, v, hsub, hrest⟩ := ih h
      exact ⟨u, v, hsub.cons x, hrest⟩

theorem opensDay_iff : (dayEntries t d).any (fun x => x.2.start == 0) = true ↔ OpensDay t d := by
  rw [List.any_eq_true]
  constructor
  · rintro ⟨⟨i, e⟩, hx, h0⟩
    obtain ⟨hv, hm⟩ := mem_dayEntries.1 hx
    exact ⟨i, e, hv, hm, beq_iff_eq.1 h0⟩
  · rintro ⟨i, e, hv, hm, h0⟩
    exact ⟨(i, e), mem_dayEntries.2 ⟨hv, hm⟩, beq_iff_eq.2 h0⟩

theorem startsApart_iff : (dayEntries t d).Pairwise (fun x y => x.2.start ≠ y.2.start) ↔ StartsApart t d := by
  constructor
  · intro h i j e x hij he hx hme hmx
    have hsymm : Std.Symm (fun x y : Slot × TariffEntry => x.2.start ≠ y.2.start) := ⟨fun _ _ => Ne.symm⟩
    exact h.forall (mem_dayEntries.2 ⟨he, hme⟩) (mem_dayEntries.2 ⟨hx, hmx⟩) fun k => hij (congrArg Prod.fst k)
  · intro h
    refine (dayEntries_sorted t d).imp_of_mem fun {x y} hx hy hlt => ?_
    obtain ⟨hvx, hmx⟩ := mem_dayEntries.1 hx
    obtain ⟨hvy, hmy⟩ := mem_dayEntries.1 hy
    exact h x.1 y.1 x.2 y.2 (Fin.ne_of_lt hlt) hvx hvy hmx hmy

theorem dayFault_gap (h : ¬ OpensDay t d) : dayFault t d = some (.gap d) := if_neg (opensDay_iff.not.2 h)

theorem dayFault_of_opens (h : OpensDay t d) : dayFault t d = firstOverlap d (dayEntries t d) := if_pos (opensDay_iff.2 h)

theorem dayFault_none : dayFault t d = none ↔ OpensDay t d ∧ StartsApart t d := by
  by_cases h : OpensDay t d
  · rw [dayFault_of_opens h, firstOverlap_none, startsApart_iff]
    exact ⟨fun k => ⟨h, k⟩, And.right⟩
  · rw [dayFault_gap h]
    exact ⟨fun k => (nomatch k), fun k => absurd k.1 h⟩

/-- The first weekday with a failure names the table's. -/
theorem tariffFault_first (hd : d < 7) (hc : ∀ c, c < d → dayFault t c = none) (hf : dayFault t d = some f) :
    tariffFault t = some f := by
  have hsplit : List.range 7 = List.range d ++ d :: List.range' (d + 1) (6 - d) := by
    interval_cases d <;> rfl
  unfold tariffFault
  rw [hsplit, List.findSome?_append, List.findSome?_eq_none_iff.2 fun c k => hc c (List.mem_range.1 k), List.findSome?_cons, hf]
  rfl

theorem tariffFault_none : tariffFault t = none ↔ ∀ d, d < 7 → OpensDay t d ∧ StartsApart t d := by
  unfold tariffFault
  simp only [List.findSome?_eq_none_iff, List.mem_range, dayFault_none]

/-! ## The bytes of the clock's requests (R195) -/

theorem foldl_bytes_lt (l : List Byte) (n : Nat) : l.foldl (fun acc b => acc * 256 + b.toNat) n < (n + 1) * 256 ^ l.length := by
  induction l generalizing n with
  | nil => simp
  | cons b l ih =>
    have hb := b.isLt
    calc l.foldl (fun acc b => acc * 256 + b.toNat) (n * 256 + b.toNat)
        < (n * 256 + b.toNat + 1) * 256 ^ l.length := ih _
      _ ≤ ((n + 1) * 256) * 256 ^ l.length := Nat.mul_le_mul_right _ (by omega)
      _ = (n + 1) * 256 ^ (b :: l).length := by rw [List.length_cons, Nat.pow_succ', Nat.mul_assoc]

theorem natOf_field_two (l : List Byte) (i : Nat) : natOf (field l i 2) < 65536 := by
  have h : natOf (field l i 2) < (0 + 1) * 256 ^ (field l i 2).length := foldl_bytes_lt _ 0
  have hlen : (field l i 2).length ≤ 2 := List.length_take_le _ _
  calc natOf (field l i 2) < 256 ^ (field l i 2).length := by rwa [Nat.zero_add, Nat.one_mul] at h
    _ ≤ 256 ^ 2 := Nat.pow_le_pow_right (by decide) hlen
    _ = 65536 := rfl

theorem field_drop (l : List Byte) (k i w : Nat) : field (l.drop k) i w = field l (k + i) w := by
  unfold field
  rw [List.drop_drop]

theorem byteAt_drop (l : List Byte) (k i : Nat) : byteAt (l.drop k) i = byteAt l (k + i) := by
  unfold byteAt
  rw [List.getElem?_drop]

theorem tariffOfImage_drop (l : List Byte) :
    tariffOfImage (l.drop 2) = ⟨natOf (field l 2 1), byteAt l 3, natOf (field l 4 2), natOf (field l 6 2)⟩ := by
  simp only [tariffOfImage, field_drop, byteAt_drop]

/-- The fields of a tariff entry by their ranges (08); two bytes hold no price out of range. -/
theorem tariffInRange_iff {e : TariffEntry} (hp : e.price ≤ 65535) :
    tariffInRange e = true ↔ e.band ≤ 15 ∧ 1 ≤ e.mask.toNat ∧ e.mask.toNat ≤ 127 ∧ e.start ≤ 1439 := by
  simp [tariffInRange, within_iff, hp, and_assoc]

end

section
variable {s : State} {n : StationTime} {b : Berth}

theorem activationReached_iff : activationReached { s.ctu with time := n } = true
    ↔ ∃ d w, s.ctu.activation = some (d, w) ∧ timeAtOrBefore d w n = true := by
  unfold activationReached
  dsimp only
  cases s.ctu.activation with
  | none => exact ⟨fun k => (nomatch k), fun ⟨_, _, k, _⟩ => (nomatch k)⟩
  | some x => exact ⟨fun k => ⟨x.1, x.2, rfl, k⟩, fun ⟨d, w, k, h⟩ => by cases k; exact h⟩

theorem setClockTo_outer (s : State) (n : StationTime) : outer (s.setClockTo n) = outer (s.clockStepped n) := by
  rw [setClockTo_eq]
  exact outer_forEach _ (fun b x => applyBoundary_outer x b _) _

theorem activate_responses (s : State) : s.activate.mrh.responses = s.mrh.responses := by
  unfold State.activate
  exact (responses_of_outer (latchStation_outer _ _) : _)

theorem clockStepped_responses (s : State) (n : StationTime) : (s.clockStepped n).mrh.responses = s.mrh.responses := by
  have h : (s.clockRestarted n).mrh.responses = s.mrh.responses := (responses_of_outer (clockRestarted_outer s n) : _)
  cases k : activationReached { s.ctu with time := n }
  · rw [clockStepped_kept k]
    exact h
  · rw [clockStepped_activated k, activate_responses]
    exact h

theorem setClockTo_latched {k : Nat} (h : (s.clockStepped n).isLatched .station k = true) : (s.setClockTo n).isLatched .station k = true := by
  rw [setClockTo_eq]
  exact (Touches.foldl (B := fun _ => True) (fun x b => touches_applyBoundary trivial x _) _ (.refl _ _)).latched .station k h

/-- The boundary of a clock set by the state that it leaves. -/
theorem clockStepped_boundary (s : State) (n : StationTime) : (s.clockStepped n).acctBoundary .clockSet
    = ⟨.clockSet, n, (s.setClockTo n).ctu.band.band, (s.setClockTo n).ctu.band.price, (s.setClockTo n).ctu.band.tariff, false⟩ := by
  obtain ⟨htime, hunset, -⟩ := clockStepped_ctu s n
  rw [ctu_of_outer (setClockTo_outer s n)]
  unfold State.acctBoundary
  rw [htime, hunset]

/-- A meter after a clock set holds nothing over, and its block starts anew when it runs (R139, R155). -/
theorem setClockTo_fields (s : State) (n : StationTime) (b : Berth) : hasHeld ((s.setClockTo n).meter b) = false
    ∧ ((s.meter b).running = true → ((s.setClockTo n).meter b).blockSum = 0) := by
  obtain ⟨x, y, i, j, k, -, hx, -, hy, -, -, hz⟩ := setClockTo_meter s n b
  obtain ⟨h1, -, h3⟩ := clockSetRestart_fields x b
  obtain ⟨r, p, d, hm⟩ := applyBoundary_meter y b ((s.clockStepped n).acctBoundary .clockSet)
  rw [hz.meter, hm, hy]
  exact ⟨h1, fun hr => h3 (hx ▸ hr)⟩

/-- A running meter that holds nothing over has its record closed or deferred by the boundary of a clock set, on a state that other
meters' records stand in. -/
theorem setClockTo_running (s : State) (n : StationTime) (hh : hasHeld (s.meter b) = false) (hr : (s.meter b).running = true) :
    ∃ y k, y.meter b = { s.meter b with blockSum := 0 } ∧ Placed 6 s y ∧ y.cfs = s.cfs
      ∧ Aside b k (y.applyBoundary b ((s.clockStepped n).acctBoundary .clockSet)) (s.setClockTo n) := by
  obtain ⟨x, y, i, j, k, hij, hx, hpx, hy, hpy, hcfs, hz⟩ := setClockTo_meter s n b
  have hrestart : x.clockSetRestart b = x.setMeter b { s.meter b with blockSum := 0 } := by
    rw [clockSetRestart_of_none (hx.symm ▸ hh), hx, applyBlockRestart_running hr]
  rw [hrestart] at hy hpy
  exact ⟨y, k, hy.trans (setMeter_meter_self _ _ _), (Placed.trans (u := y) (hpx.setMeter b _) hpy).mono hij, hcfs, hz⟩

theorem setClockTo_stopped (s : State) (n : StationTime) (hh : hasHeld (s.meter b) = false) (hr : (s.meter b).running = false) :
    (s.setClockTo n).meter b = s.meter b := by
  obtain ⟨x, y, i, j, k, -, hx, -, hy, -, -, hz⟩ := setClockTo_meter s n b
  have hym : y.meter b = s.meter b := by
    rw [hy, clockSetRestart_of_none (hx.symm ▸ hh), setMeter_meter_self, hx, applyBlockRestart_stopped hr]
  rw [hz.meter, applyBoundary_stopped (by rw [hym, hr]), hym]

/-- What a clock set makes of the unit's own state (R139, R144, R145). -/
theorem setClockTo_unit {t : State} (ht : s.setClockTo n = t) :
    t.ctu.time = n ∧ t.ctu.clockUnset = false ∧ t.ctu.block = ⟨n, 0⟩ ∧ t.ctu.phaseCount = s.ctu.phaseCount
      ∧ t.ctu.band = bandOf t.ctu.active n
      ∧ ((∀ d w, s.ctu.activation = some (d, w) → timeAtOrBefore d w n = false) →
        t.ctu.active = s.ctu.active ∧ t.ctu.pendingTable = s.ctu.pendingTable ∧ t.ctu.activation = s.ctu.activation)
      ∧ ((∃ d w, s.ctu.activation = some (d, w) ∧ timeAtOrBefore d w n = true) →
        t.ctu.active = s.ctu.pendingTable ∧ t.ctu.activation = none ∧ (∀ i, vget t.ctu.pendingTable i = none)
          ∧ t.isLatched .station 7 = true) := by
  have hctu : t.ctu = (s.clockStepped n).ctu := ht ▸ ctu_of_outer (setClockTo_outer s n)
  obtain ⟨c1, c2, c3, c4, c5⟩ := clockStepped_ctu s n
  rw [hctu]
  refine ⟨c1, c2, c3, c4, c5, fun hx => ?_, fun hx => ?_⟩
  · have hkept : activationReached { s.ctu with time := n } = false := by
      rw [← Bool.not_eq_true, activationReached_iff]
      rintro ⟨d, w, hact, hat⟩
      exact absurd ((hx d w hact).symm.trans hat) (by decide)
    rw [clockStepped_kept hkept, recomputeBand_ctu, clockRestarted_ctu]
    exact ⟨rfl, rfl, rfl⟩
  · have hmade := activationReached_iff.2 hx
    have hlatched : t.isLatched .station 7 = true :=
      ht ▸ setClockTo_latched (by rw [clockStepped_activated hmade]; exact activate_latched _)
    rw [clockStepped_activated hmade, activate_ctu, recomputeBand_ctu, clockRestarted_ctu]
    exact ⟨rfl, rfl, fun i => vget_replicate _ _, hlatched⟩

theorem placed_of_setMeter {t : State} {k : Nat} {m : Meter} (h : Placed k (s.setMeter b m) t) : Placed k s t := h

/-- The account boundary of a clock set at a running meter that holds nothing over: its record is closed into a ring with room, its
closure deferred in one without, and an entry begun in a deferred record (R156, R158, R162, R163). -/
theorem setClockTo_account {t : State} {o : OpenRecord} {m : Meter} {e : BandEntry} (ht : s.setClockTo n = t)
    (he : e = newEntry t.ctu.band.band t.ctu.band.price t.ctu.band.tariff) (hm : s.meter b = m) (hh : hasHeld m = false)
    (hr : m.running = true) (ho : m.record = some o) :
    (m.deferral = none → s.mbu.ring.length ≤ 57 → s.mbu.nextRecord ≤ 4294967289 →
      t.meter b = { m with
          blockSum := 0, price := e.price
          record := some (openedRecord m.session m.account n e false s.cfs.invalid) }
        ∧ ∃ k ∈ t.mbu.ring, k.berth = b ∧ k.reason = .clockSet ∧ k.openedAt = o.openedAt ∧ k.closedAt = n
          ∧ k.peakDemand = o.peakDemand)
      ∧ (m.deferral = none → 64 ≤ s.mbu.ring.length ∨ 4294967295 < s.mbu.nextRecord → t.meter b = { m with
          blockSum := 0, price := e.price
          record := some { o with entries := o.entries ++ [e], noTariff := o.noTariff || !e.tariff }
          deferral := some ⟨.clockSet, n, some false, o.entries.length, none⟩ })
      ∧ (m.deferral ≠ none → o.entries.length < 4 → t.meter b = { m with
          blockSum := 0, price := e.price
          record := some { o with entries := o.entries ++ [e], noTariff := o.noTariff || !e.tariff } }) := by
  obtain ⟨y, k, hy, hp, hcfs, hz⟩ := setClockTo_running s n (hm ▸ hh) (hm ▸ hr)
  have hbound : (s.clockStepped n).acctBoundary .clockSet
    = ⟨.clockSet, n, t.ctu.band.band, t.ctu.band.price, t.ctu.band.tariff, false⟩ := ht ▸ clockStepped_boundary s n
  rw [ht, hbound] at hz
  rw [hm] at hy
  subst he
  have hyr : (y.meter b).running = true := by rw [hy]; exact hr
  have hyo : (y.meter b).record = some o := by rw [hy]; exact ho
  refine ⟨fun hd hlen hnum => ?_, fun hd hfull => ?_, fun hd hlen => ?_⟩
  · have hyd : (y.meter b).deferral = none := by rw [hy]; exact hd
    rw [applyBoundary_placed hyr hyo hyd (hp.canPlace (by omega) (by omega))] at hz
    have hmem : y.closedRecord b o n .clockSet ∈ (y.placeRecord b o n .clockSet).mbu.ring := by
      rw [placeRecord_mbu]
      exact List.mem_append_right _ List.mem_cons_self
    have hring : y.closedRecord b o n .clockSet ∈ t.mbu.ring := Placed.mem (placed_of_setMeter hz.placed) hmem
    refine ⟨?_, y.closedRecord b o n .clockSet, hring, rfl, rfl, rfl, rfl, rfl⟩
    rw [hz.meter, setMeter_meter_self, hy, hcfs]
    rfl
  · have hyd : (y.meter b).deferral = none := by rw [hy]; exact hd
    rw [applyBoundary_deferred hyr hyo hyd (hp.not_canPlace hfull)] at hz
    rw [hz.meter, setMeter_meter_self, hy]
    rfl
  · obtain ⟨d, hd⟩ := Option.ne_none_iff_exists'.1 hd
    have hyd : (y.meter b).deferral = some d := by rw [hy]; exact hd
    rw [applyBoundary_begun hyr hyo hyd] at hz
    rw [hz.meter, setMeter_meter_self, hy, boundaryBegun, beginEntry_of_lt _ _ _ hlen]
    rfl

end

/-- Settles O47: each request by its tests, the clock set by its steps at one meter (`setClockTo_running`). -/
theorem clockRequests : Obligations.ClockRequests := by
  refine ⟨fun s r l h hc ha => ?_, fun s r l h hc ha => ?_, fun s r l h hc ha => ?_, fun s r l h hc ha => ?_, fun l hl => ?_,
    fun t => ⟨tariffFault_none, fun d hd hc ho => ?_, fun d hd hc ho hs => ?_⟩⟩
  · intro n
    have hf : lengthFits r = true := fits_of_length hc (by decide) (by rw [ha]; rfl)
    have hday : n.day ≤ 65535 := Nat.le_of_lt_succ (natOf_field_two r.args 0)
    have hset : ownerOf 5 r.args s.quiet
        = if n.second ≤ 86399 ∧ n.weekday ≤ 6 then (s.quiet.setClockTo n, done) else refuse s.quiet .range := by
      change (if n.day ≤ 65535 ∧ n.second ≤ 86399 ∧ n.weekday ≤ 6 then (s.quiet.setClockTo n, done) else refuse s.quiet .range) = _
      simp only [hday, true_and]
    clear_value n
    refine ⟨fun k => next_owned h hc hf 5 (hset.trans (if_neg ?_)), fun h1 h2 => ?_⟩
    · omega
    · refine ⟨_, next_owned h hc hf 5 (hset.trans (if_pos ⟨h1, h2⟩)), ?_⟩
      have hresponses : (s.quiet.setClockTo n).mrh.responses = s.mrh.responses :=
        (responses_of_outer (setClockTo_outer s.quiet n)).trans (clockStepped_responses s.quiet n)
      have hunit := setClockTo_unit (s := s.quiet) (n := n) rfl
      have hmeter (b : Berth) := setClockTo_fields s.quiet n b
      have hstopped (b : Berth) := setClockTo_stopped (b := b) s.quiet n
      have haccount (b : Berth) (o : OpenRecord) := setClockTo_account (s := s.quiet) (n := n) (b := b) (o := o) rfl rfl rfl
      generalize s.quiet.setClockTo n = t at *
      obtain ⟨c1, c2, c3, c4, c5, c6, c7⟩ := hunit
      refine ⟨c1, c2, c3, c4, c5, c6, c7, fun b => ?_, rfl, congrArg (· ++ _) hresponses⟩
      exact ⟨(hmeter b).1, hstopped b, (hmeter b).2, haccount b⟩
  · have hf : lengthFits r = true := fits_of_length hc (by decide) (by rw [ha]; rfl)
    refine ⟨fun hn => next_owned h hc hf 6 ?_, fun i e hi => ⟨fun hx => next_owned h hc hf 6 ?_, fun hx => next_owned h hc hf 6 ?_⟩⟩
    all_goals change reqWriteTariffEntry r.args s.quiet = _; unfold reqWriteTariffEntry
    · rw [hn]
      rfl
    · rw [hi]
      exact if_pos (Option.isSome_iff_ne_none.2 hx)
    · rw [hi]
      exact if_neg (by rw [show s.quiet.ctu.activation = none from hx]; decide)
  · intro day second
    have hf : lengthFits r = true := fits_of_length hc (by decide) (by rw [ha]; rfl)
    have hday : day ≤ 65535 := Nat.le_of_lt_succ (natOf_field_two r.args 0)
    refine ⟨fun k => next_owned h hc hf 7 (if_neg fun g => ?_), fun k hx => next_owned h hc hf 7 ?_,
      fun k hx f hfault => next_owned h hc hf 7 ?_, fun k hx hfault => next_owned h hc hf 7 ?_⟩
    · have g1 : second ≤ 86399 := g.2
      omega
    · exact (if_pos ⟨hday, k⟩).trans (if_pos (Option.isSome_iff_ne_none.2 hx))
    · refine (if_pos ⟨hday, k⟩).trans ((if_neg (by rw [show s.quiet.ctu.activation = none from hx]; decide)).trans ?_)
      rw [show tariffFault s.quiet.ctu.pendingTable = some f from hfault]
    · refine (if_pos ⟨hday, k⟩).trans ((if_neg (by rw [show s.quiet.ctu.activation = none from hx]; decide)).trans ?_)
      rw [show tariffFault s.quiet.ctu.pendingTable = none from hfault]
      rfl
  · have hf : lengthFits r = true := fits_of_length hc (by decide) (by rw [ha]; rfl)
    exact ⟨fun hx => next_owned h hc hf 8 (if_neg (by rw [show s.quiet.ctu.activation = none from hx]; decide)),
      fun hx => next_owned h hc hf 8 (if_pos (Option.isSome_iff_ne_none.2 hx))⟩
  · intro e empties enters
    have hrange : tariffInRange e = true ↔ e.band ≤ 15 ∧ 1 ≤ e.mask.toNat ∧ e.mask.toNat ≤ 127 ∧ e.start ≤ 1439 :=
      tariffInRange_iff (Nat.le_of_lt_succ (natOf_field_two l 6))
    have henters : enters ↔ byteAt l 1 = 1 ∧ tariffInRange e = true := and_congr_right fun _ => hrange.symm
    unfold tariffArgument
    rw [tariffOfImage_drop]
    refine ⟨fun k => ?_, fun i hi => ?_⟩
    · split
      case isTrue h16 =>
        obtain ⟨h0, h1⟩ := not_or.1 (k.resolve_left (Nat.not_le.2 h16))
        exact (if_neg h0).trans (if_neg (henters.not.1 h1))
      case isFalse => rfl
    · have h16 : (byteAt l 0).toNat < 16 := hi ▸ i.isLt
      obtain rfl : i = ⟨(byteAt l 0).toNat, h16⟩ := Fin.ext hi.symm
      rw [dif_pos h16]
      refine ⟨fun k => if_pos k, fun k => (if_neg ?_).trans (if_pos (henters.1 k))⟩
      rw [k.1]
      decide
  · exact tariffFault_first hd (fun c k => dayFault_none.2 (hc c k)) (dayFault_gap ho)
  · have hfault : dayFault t d ≠ none := fun k => hs (dayFault_none.1 k).2
    obtain ⟨f, hf⟩ := Option.ne_none_iff_exists'.1 hfault
    obtain ⟨x, y, hsub, hstart, rfl⟩ := firstOverlap_some ((dayFault_of_opens ho).symm.trans hf)
    obtain ⟨hvx, hmx⟩ := mem_dayEntries.1 (hsub.subset List.mem_cons_self)
    obtain ⟨hvy, hmy⟩ := mem_dayEntries.1 (hsub.subset (List.mem_cons_of_mem _ List.mem_cons_self))
    have hlt : x.1 < y.1 := by simpa using (dayEntries_sorted t d).sublist hsub
    exact ⟨x.1, y.1, x.2, y.2, hlt, hvx, hvy, hmx, hmy, hstart, tariffFault_first hd (fun c k => dayFault_none.2 (hc c k)) hf⟩

end Sys2Proof.Machine

/-! PROOFS. The events of a second tick (08, 09): what a block end and an account boundary make of one meter, held over or taken, and
the statement about the events of the second. -/

namespace Sys2Proof.Machine

open Sys2Proof

section
variable {s t : State} {b c : Berth} {n : Nat} {a : AcctBoundary} {e : BlockEnd} {w : TickWork} {r : CloseReason}

/-! ## Meters that hold nothing stale (R155) -/

/-- A meter holds nothing over, or what it holds is of the boundary just taken (R155). -/
def FreshFor (e : Ext) (m : Meter) : Prop := hasHeld m = false ∨ m.heldFor = e

theorem endedExt_of_outer (h : outer t = outer s) : t.endedExt = s.endedExt := congrArg (fun r : Rif => r.ext - 1) (rif_of_outer h)

theorem flushStale_of_fresh (h : FreshFor s.endedExt (s.meter b)) : s.flushStale b = s := by
  refine if_neg ?_
  rcases h with h | h
  · simp [h]
  · simp [h]

theorem placed_flushStale (s : State) (b : Berth) : Placed 1 s (s.flushStale b) := by
  unfold State.flushStale
  split
  · exact placed_flushHeld s b
  · exact (Placed.refl s).mono (Nat.zero_le 1)

theorem billing_flushStale (s : State) (b : Berth) : BillingOnly b s (s.flushStale b) :=
  .ite (BillingOnly.refl b s).flushHeld (.refl b s)

theorem flushStale_fresh (s : State) (b : Berth) : FreshFor s.endedExt ((s.flushStale b).meter b) := by
  unfold State.flushStale
  split
  case isTrue => exact .inl (flushHeld_meter s b).1
  case isFalse h =>
    cases hh : hasHeld (s.meter b)
    · exact .inl hh
    · refine .inr ?_
      by_contra hne
      exact h (by simp [hh, hne])

/-! ## A block end and a boundary presented to a meter (R155) -/

theorem secondTaken_iff : s.secondTaken b = true ↔ (s.meter b).lastTag = some s.endedExt := beq_iff_eq

theorem tickBlockEnd_held (h : FreshFor s.endedExt (s.meter b)) (hr : (s.meter b).running = true)
    (ht : (s.meter b).lastTag ≠ some s.endedExt) :
    s.tickBlockEnd e b = s.setMeter b { s.meter b with heldBlock := some e, heldFor := s.endedExt } := by
  unfold State.tickBlockEnd
  rw [flushStale_of_fresh h]
  refine if_pos ?_
  rw [hr, Bool.eq_false_iff.2 (secondTaken_iff.not.2 ht)]
  rfl

theorem tickBlockEnd_taken (h : FreshFor s.endedExt (s.meter b))
    (ht : (s.meter b).running = false ∨ (s.meter b).lastTag = some s.endedExt) :
    s.tickBlockEnd e b = s.setMeter b (applyBlockEnd (s.meter b)) := by
  unfold State.tickBlockEnd
  rw [flushStale_of_fresh h]
  refine if_neg ?_
  rcases ht with ht | ht
  · simp [ht]
  · simp [secondTaken_iff.2 ht]

theorem tickBoundary_held (h : FreshFor s.endedExt (s.meter b)) (hr : (s.meter b).running = true)
    (ht : (s.meter b).lastTag ≠ some s.endedExt) :
    s.tickBoundary a b = s.setMeter b { s.meter b with heldBoundary := some a, heldFor := s.endedExt } := by
  unfold State.tickBoundary
  rw [flushStale_of_fresh h]
  refine if_pos ?_
  rw [hr, Bool.eq_false_iff.2 (secondTaken_iff.not.2 ht)]
  rfl

theorem tickBoundary_taken (h : FreshFor s.endedExt (s.meter b))
    (ht : (s.meter b).running = false ∨ (s.meter b).lastTag = some s.endedExt) : s.tickBoundary a b = s.applyBoundary b a := by
  unfold State.tickBoundary
  rw [flushStale_of_fresh h]
  refine if_neg ?_
  rcases ht with ht | ht
  · simp [ht]
  · simp [secondTaken_iff.2 ht]

theorem billing_tickBlockEnd (s : State) (e : BlockEnd) (b : Berth) : BillingOnly b s (s.tickBlockEnd e b) :=
  .ite ((billing_flushStale s b).setMeter _) ((billing_flushStale s b).setMeter _)

theorem billing_tickBoundary (s : State) (a : AcctBoundary) (b : Berth) : BillingOnly b s (s.tickBoundary a b) :=
  .ite ((billing_flushStale s b).setMeter _) ((billing_flushStale s b).applyBoundary a)

theorem placed_tickBlockEnd (s : State) (e : BlockEnd) (b : Berth) : Placed 1 s (s.tickBlockEnd e b) := by
  unfold State.tickBlockEnd
  dsimp only
  split <;> exact (placed_flushStale s b).setMeter b _

theorem placed_tickBoundary (s : State) (a : AcctBoundary) (b : Berth) : Placed 2 s (s.tickBoundary a b) := by
  unfold State.tickBoundary
  dsimp only
  split
  · exact ((placed_flushStale s b).setMeter b _).mono (by decide)
  · exact (placed_flushStale s b).trans (placed_applyBoundary _ b a)

/-- A boundary presented to a meter that holds nothing stale places one record at most. -/
theorem placed_tickBoundary_of_fresh (h : FreshFor s.endedExt (s.meter b)) (a : AcctBoundary) : Placed 1 s (s.tickBoundary a b) := by
  unfold State.tickBoundary
  rw [flushStale_of_fresh h]
  dsimp only
  split
  · exact ((Placed.refl s).setMeter b _).mono (Nat.zero_le 1)
  · exact placed_applyBoundary s b a

theorem tickBlockEnd_fresh (s : State) (e : BlockEnd) (b : Berth) : FreshFor s.endedExt ((s.tickBlockEnd e b).meter b) := by
  have h := flushStale_fresh s b
  unfold State.tickBlockEnd
  dsimp only
  split
  · rw [setMeter_meter_self]
    exact .inr (endedExt_of_outer (flushStale_outer s b))
  · rw [setMeter_meter_self]
    unfold applyBlockEnd
    split <;> exact h

theorem tickBoundary_fresh (h : FreshFor s.endedExt (s.meter b)) (a : AcctBoundary) :
    FreshFor s.endedExt ((s.tickBoundary a b).meter b) := by
  unfold State.tickBoundary
  rw [flushStale_of_fresh h]
  dsimp only
  split
  · rw [setMeter_meter_self]
    exact .inr rfl
  · obtain ⟨r, p, d, hm⟩ := applyBoundary_meter s b a
    rw [hm]
    exact h

/-! ## Both passes over the meters -/

/-- Every meter holds nothing stale. -/
def AllFresh (s : State) : Prop := ∀ c, FreshFor s.endedExt (s.meter c)

theorem tickBoundary_allFresh (h : AllFresh s) (a : AcctBoundary) (c : Berth) : AllFresh (s.tickBoundary a c) := by
  intro d
  rw [endedExt_of_outer (tickBoundary_outer s a c)]
  by_cases hd : d = c
  · subst hd
    exact tickBoundary_fresh (h d) a
  · rw [(billing_tickBoundary s a c).others d hd]
    exact h d

/-- A block end presented to every meter, for one of them: its own with the others' before and after it. -/
theorem forEach_tickBlockEnd (s : State) (e : BlockEnd) (b : Berth) : ∃ x i j, i + j = 3 ∧ Aside b i s x
    ∧ Aside b j (x.tickBlockEnd e b) (forEach (fun b (x : State) => x.tickBlockEnd e b) s) := by
  obtain ⟨x, i, j, hij, -, -, hx, hy⟩ := forEach_aside (b := b) (s := s) (n := 1)
    (f := fun b (x : State) => x.tickBlockEnd e b) (P := fun _ => True) (fun _ _ _ => trivial)
    (fun c z hc _ => (billing_tickBlockEnd z e c).aside hc (placed_tickBlockEnd z e c) (tickBlockEnd_outer z e c)) trivial
  exact ⟨x, i, j, hij, hx, hy⟩

theorem forEach_tickBlockEnd_allFresh (s : State) (e : BlockEnd) :
    AllFresh (forEach (fun b (x : State) => x.tickBlockEnd e b) s) := by
  intro c
  obtain ⟨x, i, j, -, hx, hy⟩ := forEach_tickBlockEnd s e c
  rw [hy.meter, endedExt_of_outer hy.outer, endedExt_of_outer (tickBlockEnd_outer x e c)]
  exact tickBlockEnd_fresh x e c

/-- A boundary presented to every meter, for one of them: its own with the others' before and after it. -/
theorem forEach_tickBoundary (s : State) (a : AcctBoundary) (b : Berth) : ∃ x i j, Aside b i s x
    ∧ Aside b j (x.tickBoundary a b) (forEach (fun b (x : State) => x.tickBoundary a b) s) := by
  obtain ⟨x, i, j, -, -, -, hx, hy⟩ := forEach_aside (b := b) (s := s) (n := 2)
    (f := fun b (x : State) => x.tickBoundary a b) (P := fun _ => True) (fun _ _ _ => trivial)
    (fun c z hc _ => (billing_tickBoundary z a c).aside hc (placed_tickBoundary z a c) (tickBoundary_outer z a c)) trivial
  exact ⟨x, i, j, hx, hy⟩

theorem forEach_tickBoundary_of_fresh (h : AllFresh s) (a : AcctBoundary) (b : Berth) : ∃ x i j, i + j = 3 ∧ Aside b i s x
    ∧ Aside b j (x.tickBoundary a b) (forEach (fun b (x : State) => x.tickBoundary a b) s) := by
  obtain ⟨x, i, j, hij, -, -, hx, hy⟩ := forEach_aside (b := b) (s := s) (n := 1)
    (f := fun b (x : State) => x.tickBoundary a b) (P := AllFresh) (fun c _ k => tickBoundary_allFresh k a c)
    (fun c z hc k => (billing_tickBoundary z a c).aside hc (placed_tickBoundary_of_fresh (k c) a) (tickBoundary_outer z a c)) h
  exact ⟨x, i, j, hij, hx, hy⟩

/-- Changes of the meters write the billing unit and the event marks. -/
theorem forEach_billing {f : Berth → State → State} (hf : ∀ c x, BillingOnly c x (f c x)) (s : State) :
    ∃ m h, forEach f s = { s with mbu := m, mrh := h } := by
  have key (l : List Berth) : ∀ s : State, ∃ m h, l.foldl (fun x c => f c x) s = { s with mbu := m, mrh := h } := by
    induction l with
    | nil => exact fun s => ⟨s.mbu, s.mrh, rfl⟩
    | cons c l ih =>
      intro s
      obtain ⟨m, h, hs⟩ := (hf c s).rest
      obtain ⟨p, q, ht⟩ := ih (f c s)
      exact ⟨p, q, by rw [List.foldl_cons, ht, hs]⟩
  exact key _ s

/-! ## The last check of a tick (R137, R146) -/

/-- The state with the tick's work ended. -/
def State.tickDone (s : State) : State := { s with ctu := { s.ctu with tick := none } }

theorem tickAccount_none (hw : s.ctu.tick = some w) (hr : tickReason w s.ctu.band = none) : s.tickAccount = s.tickDone := by
  unfold State.tickAccount
  rw [hw]
  dsimp only
  rw [hr]
  rfl

theorem tickAccount_some (hw : s.ctu.tick = some w) (hr : tickReason w s.ctu.band = some r) :
    s.tickAccount = forEach (fun b (x : State) => x.tickBoundary (s.acctBoundary r) b) s.tickDone := by
  unfold State.tickAccount
  rw [hw]
  dsimp only
  rw [hr]
  rfl

theorem tickAccount_rest (s : State) : ∃ m h, s.tickAccount = { s.tickDone with mbu := m, mrh := h } := by
  cases hw : s.ctu.tick with
  | none =>
    refine ⟨s.mbu, s.mrh, ?_⟩
    unfold State.tickAccount State.tickDone
    rw [hw]
    dsimp only
    rw [← hw]
  | some w =>
    cases hr : tickReason w s.ctu.band with
    | none => exact ⟨s.mbu, s.mrh, tickAccount_none hw hr⟩
    | some r =>
      rw [tickAccount_some hw hr]
      exact forEach_billing (fun c x => billing_tickBoundary x _ c) s.tickDone

/-- The boundary of a tick is held over by a running meter whose second end has not come (R146, R155). -/
theorem tickAccount_held (hw : s.ctu.tick = some w) (hr : tickReason w s.ctu.band = some r) (hh : hasHeld (s.meter b) = false)
    (hrun : (s.meter b).running = true) (htag : (s.meter b).lastTag ≠ some s.endedExt) :
    s.tickAccount.meter b = { s.meter b with heldBoundary := some (s.acctBoundary r), heldFor := s.endedExt } := by
  rw [tickAccount_some hw hr]
  obtain ⟨x, i, j, hx, hy⟩ := forEach_tickBoundary s.tickDone (s.acctBoundary r) b
  have hm : x.meter b = s.meter b := hx.meter
  have he : x.endedExt = s.endedExt := (endedExt_of_outer hx.outer : _)
  rw [hy.meter, tickBoundary_held (by rw [hm]; exact .inl hh) (by rw [hm, hrun]) (by rw [hm, he]; exact htag), setMeter_meter_self, hm, he]

theorem finishTick_rest (s : State) : ∃ c m h, s.finishTick = { s with ctu := { s.ctu with tick := c }, mbu := m, mrh := h } := by
  by_cases h : Due.tariffActivation ∈ s.due ∨ Due.demandBlockEnd ∈ s.due
  · exact ⟨s.ctu.tick, s.mbu, s.mrh, finishTick_of_due h⟩
  · obtain ⟨m, k, hr⟩ := tickAccount_rest s
    exact ⟨none, m, k, (finishTick_of_not_due h).trans hr⟩

end
end Sys2Proof.Machine

/-! PROOFS. The statement about the events of a second (08, 09), one theorem for each of its events. -/

namespace Sys2Proof.Machine

open Sys2Proof

section
variable {s t : State} {b c : Berth} {a : AcctBoundary} {e : BlockEnd} {w : TickWork} {r : CloseReason}

/-! ## The second tick (R137, R144 to R147) -/

theorem nextSecond_of_lt {x : StationTime} (h : x.second < 86399) : nextSecond x = ⟨x.day, x.second + 1, x.weekday⟩ :=
  if_neg (by unfold lastSecondOfDay; simp; omega)

theorem nextSecond_of_last {x : StationTime} (h : x.second = 86399) :
    nextSecond x = ⟨(x.day + 1) % 65536, 0, (x.weekday + 1) % 7⟩ := if_pos (by unfold lastSecondOfDay; simp; omega)

theorem mem_tickDues_blockEnd {c : Ctu} : Due.demandBlockEnd ∈ tickDues c ↔ c.time.second % 900 = 0 := by
  unfold tickDues
  split <;> split <;> simp_all

theorem mem_tickDues_activation {c : Ctu} : Due.tariffActivation ∈ tickDues c ↔ activationDue c = true := by
  unfold tickDues
  split <;> split <;> simp_all

/-- A clock in range makes an activation by its time, or by the change from day 65535 to day 0 (R144). -/
theorem activationDue_tickAdvance (h : ClockLaw s) : activationDue (tickAdvance s.ctu) = true ↔ ∃ x, s.ctu.activation = some x
    ∧ (timeAtOrBefore x.1 x.2 (nextSecond s.ctu.time) = true ∨ s.ctu.time.second = 86399 ∧ s.ctu.time.day = 65535) := by
  obtain ⟨hday, hsecond, -, -⟩ := h
  have hlast : lastSecondOfDay s.ctu.time = true ↔ s.ctu.time.second = 86399 := by
    unfold lastSecondOfDay
    rw [decide_eq_true_eq]
    omega
  have hwrap : (nextSecond s.ctu.time).day = 0 ∧ lastSecondOfDay s.ctu.time = true
      ↔ s.ctu.time.second = 86399 ∧ s.ctu.time.day = 65535 := by
    rw [hlast]
    constructor
    · rintro ⟨h0, hs⟩
      rw [nextSecond_of_last hs] at h0
      exact ⟨hs, by dsimp only at h0; omega⟩
    · rintro ⟨hs, hd⟩
      rw [nextSecond_of_last hs, hd]
      exact ⟨rfl, hs⟩
  unfold activationDue activationReached tickAdvance
  dsimp only
  cases s.ctu.activation with
  | none => exact ⟨fun k => (nomatch k), fun ⟨_, k, _⟩ => (nomatch k)⟩
  | some x =>
    rw [Bool.or_eq_true, Bool.and_eq_true, Bool.and_eq_true, beq_iff_eq]
    refine ⟨fun k => ⟨x, rfl, k.imp id fun g => hwrap.1 ⟨g.1.2, g.2⟩⟩, fun ⟨y, hy, k⟩ => ?_⟩
    obtain rfl := Option.some.inj hy
    exact k.imp id fun g => ⟨⟨rfl, (hwrap.2 g).1⟩, (hwrap.2 g).2⟩

/-- The state whose last check a second tick makes. -/
def State.bandTicked (s : State) : State := if activationDue (tickAdvance s.ctu) then s.ticked else s.ticked.recomputeBand

theorem bandTicked_cases (s : State) : ∃ x, s.bandTicked = { s.ticked with ctu := { tickAdvance s.ctu with band := x } }
    ∧ (activationDue (tickAdvance s.ctu) = false → x = bandOf s.ctu.active (nextSecond s.ctu.time)) := by
  unfold State.bandTicked
  split
  case isTrue h => exact ⟨s.ctu.band, rfl, fun k => absurd (h.symm.trans k) (by decide)⟩
  case isFalse => exact ⟨_, rfl, fun _ => rfl⟩

/-- A second tick as an event, with no check due before it. -/
theorem secondTick_answers (h : DueNow s .secondTick) (hp : 3999 ≤ s.ctu.phaseCount) :
    exec .secondTick s = .next (s.without .secondTick).bandTicked.finishTick := by
  refine (next_event h).trans (congrArg Host.Outcome.next ?_)
  rw [runDue_secondTick, secondTick_eq]
  exact if_pos hp

/-- A tick that has come to its last check changes the day only with a block end (R146, R147). -/
theorem tickReason_tickAdvance {x : StationTime} (h : (nextSecond x).second % 900 ≠ 0) (y z : Band) :
    tickReason ⟨lastSecondOfDay x, false, y⟩ z = if bandDiffers y z then some .bandChange else none := by
  have hday : lastSecondOfDay x = false := by
    rw [← Bool.not_eq_true]
    intro k
    exact h (by unfold nextSecond; rw [if_pos k]; rfl)
  unfold tickReason
  rw [hday]
  rfl

/-- What every second tick makes of the clock unit, and the blocks it leaves (R137). -/
theorem ticked_fields (u : State) : ∃ c x m h, u.bandTicked.finishTick
    = { u with
        due := tickDues (tickAdvance u.ctu) ++ u.due, ctu := { tickAdvance u.ctu with band := x, tick := c }, mbu := m, mrh := h }
    ∧ (activationDue (tickAdvance u.ctu) = false → x = bandOf u.ctu.active (nextSecond u.ctu.time)) := by
  obtain ⟨x, hv, hx⟩ := bandTicked_cases u
  obtain ⟨c, m, h, hf⟩ := finishTick_rest u.bandTicked
  rw [hf, hv]
  exact ⟨c, x, m, h, rfl, hx⟩

/-- A second tick that makes a check due leaves the meters to it, and holds the tick's work. -/
theorem ticked_due {u : State} (h : Due.tariffActivation ∈ tickDues (tickAdvance u.ctu) ++ u.due
    ∨ Due.demandBlockEnd ∈ tickDues (tickAdvance u.ctu) ++ u.due) :
    u.bandTicked.finishTick.mbu = u.mbu ∧ u.bandTicked.finishTick.ctu.tick.isSome = true := by
  obtain ⟨x, hv, -⟩ := bandTicked_cases u
  rw [finishTick_of_due (by rw [hv]; exact h), hv]
  exact ⟨rfl, rfl⟩

/-- The tick's last check is made by the tick itself when it makes no other due (R145, R146). -/
theorem ticked_last {u : State} (h : ¬ (Due.tariffActivation ∈ tickDues (tickAdvance u.ctu) ++ u.due
    ∨ Due.demandBlockEnd ∈ tickDues (tickAdvance u.ctu) ++ u.due)) :
    let t := u.bandTicked.finishTick
    t.ctu.tick = none ∧ (bandDiffers u.ctu.band t.ctu.band = false → t.mbu = u.mbu)
      ∧ (bandDiffers u.ctu.band t.ctu.band = true → ∀ b, hasHeld (u.meter b) = false → (u.meter b).running = true →
        (u.meter b).lastTag ≠ some u.endedExt → t.meter b = { u.meter b with
          heldBoundary := some
            ⟨.bandChange, t.ctu.time, t.ctu.band.band, t.ctu.band.price, t.ctu.band.tariff, u.ctu.clockUnset⟩
          heldFor := u.endedExt }) := by
  obtain ⟨x, hv, -⟩ := bandTicked_cases u
  have hnot : ¬ (Due.tariffActivation ∈ u.bandTicked.due ∨ Due.demandBlockEnd ∈ u.bandTicked.due) := by rw [hv]; exact h
  have hsecond : (nextSecond u.ctu.time).second % 900 ≠ 0 := fun k => h (.inr (List.mem_append_left _ (mem_tickDues_blockEnd.2 k)))
  have hw : u.bandTicked.ctu.tick = some ⟨lastSecondOfDay u.ctu.time, false, u.ctu.band⟩ := by rw [hv]; rfl
  have hband : u.bandTicked.ctu.band = x := by rw [hv]
  have hreason := tickReason_tickAdvance hsecond u.ctu.band x
  obtain ⟨m, k, hrest⟩ := tickAccount_rest u.bandTicked
  have htick : u.bandTicked.finishTick.ctu = { u.bandTicked.ctu with tick := none } := by
    rw [finishTick_of_not_due hnot, hrest]
    rfl
  intro t
  have ht : t.ctu.band = x := (congrArg Ctu.band htick).trans hband
  rw [ht]
  refine ⟨congrArg Ctu.tick htick, fun hd => ?_, fun hd b hh hr htag => ?_⟩
  · have hnone : tickReason ⟨lastSecondOfDay u.ctu.time, false, u.ctu.band⟩ u.bandTicked.ctu.band = none := by
      rw [hband, hreason, if_neg (by rw [hd]; decide)]
    change u.bandTicked.finishTick.mbu = u.mbu
    rw [finishTick_of_not_due hnot, tickAccount_none hw hnone, hv]
    rfl
  · have hsome : tickReason ⟨lastSecondOfDay u.ctu.time, false, u.ctu.band⟩ u.bandTicked.ctu.band = some .bandChange := by
      rw [hband, hreason, if_pos hd]
    have hm : u.bandTicked.meter b = u.meter b := by rw [hv]; rfl
    have he : u.bandTicked.endedExt = u.endedExt := by rw [hv]; rfl
    have htime : t.ctu.time = u.bandTicked.ctu.time := (congrArg Ctu.time htick : _)
    have hunset : u.bandTicked.ctu.clockUnset = u.ctu.clockUnset := by rw [hv]; rfl
    change u.bandTicked.finishTick.meter b = _
    rw [finishTick_of_not_due hnot, tickAccount_held hw hsome (by rw [hm, hh]) (by rw [hm, hr]) (by rw [hm, he]; exact htag), hm, he,
      htime]
    unfold State.acctBoundary
    rw [hband, hunset]

/-! ## The activation (R144) -/

theorem tickActivation_eq (h : activationDue s.ctu = true) : s.tickActivation
    = State.finishTick { s.activate with ctu := { s.activate.ctu with tick := s.ctu.tick.map (fun w => { w with activated := true }) } } :=
  if_pos h

/-! ## The end of the demand block (R147, R155, R156) -/

theorem applyBlockEnd_held (m : Meter) : (applyBlockEnd m).lastTag = m.lastTag ∧ hasHeld (applyBlockEnd m) = hasHeld m := by
  unfold applyBlockEnd
  split <;> exact ⟨rfl, rfl⟩

/-- The state after a block end has been presented to every meter. -/
@[irreducible] def State.blockPassed (s : State) : State :=
  forEach (fun b (x : State) => x.tickBlockEnd ⟨s.ctu.block.start, s.ctu.block.elapsed⟩ b) s

/-- The same with the block restarted. -/
def State.blockEnded (s : State) : State :=
  { s.blockPassed with ctu := { s.blockPassed.ctu with block := ⟨s.blockPassed.ctu.time, 0⟩ } }

theorem blockPassed_eq (s : State) : s.blockPassed
    = forEach (fun b (x : State) => x.tickBlockEnd ⟨s.ctu.block.start, s.ctu.block.elapsed⟩ b) s := by
  unfold State.blockPassed
  rfl

theorem blockEnd_finish (s : State) : s.blockEnd = s.blockEnded.finishTick := by
  unfold State.blockEnded
  rw [blockPassed_eq]
  rfl

theorem blockPassed_rest (s : State) : ∃ m h, s.blockPassed = { s with mbu := m, mrh := h } := by
  rw [blockPassed_eq]
  exact forEach_billing (fun c x => billing_tickBlockEnd x ⟨s.ctu.block.start, s.ctu.block.elapsed⟩ c) s

theorem blockEnded_rest (s : State) : ∃ m h, s.blockEnded = { s with ctu := { s.ctu with block := ⟨s.ctu.time, 0⟩ }, mbu := m, mrh := h } := by
  obtain ⟨m, h, hs⟩ := blockPassed_rest s
  unfold State.blockEnded
  rw [hs]
  exact ⟨m, h, rfl⟩

theorem blockPassed_allFresh (s : State) : AllFresh s.blockPassed := by
  rw [blockPassed_eq]
  exact forEach_tickBlockEnd_allFresh s ⟨s.ctu.block.start, s.ctu.block.elapsed⟩

theorem blockEnded_allFresh (s : State) : AllFresh s.blockEnded := blockPassed_allFresh s

/-- The block end at one meter, with those at the others before and after it. -/
theorem blockEnded_aside (s : State) (b : Berth) : ∃ x i j, i + j = 3 ∧ Aside b i s x
    ∧ s.blockEnded.meter b = (x.tickBlockEnd ⟨s.ctu.block.start, s.ctu.block.elapsed⟩ b).meter b
    ∧ Placed j (x.tickBlockEnd ⟨s.ctu.block.start, s.ctu.block.elapsed⟩ b) s.blockEnded := by
  obtain ⟨x, i, j, hij, hx, hy⟩ := forEach_tickBlockEnd s ⟨s.ctu.block.start, s.ctu.block.elapsed⟩ b
  rw [← blockPassed_eq] at hy
  exact ⟨x, i, j, hij, hx, hy.meter, hy.placed⟩

theorem blockEnded_endedExt (s : State) : s.blockEnded.endedExt = s.endedExt := by
  obtain ⟨m, h, hs⟩ := blockEnded_rest s
  rw [hs]
  rfl

/-- A meter that holds nothing over and runs with its second end to come holds the block end over. -/
theorem blockEnded_held (hh : hasHeld (s.meter b) = false) (hr : (s.meter b).running = true)
    (ht : (s.meter b).lastTag ≠ some s.endedExt) : s.blockEnded.meter b
      = { s.meter b with heldBlock := some ⟨s.ctu.block.start, s.ctu.block.elapsed⟩, heldFor := s.endedExt } := by
  obtain ⟨x, i, j, -, hx, hm, -⟩ := blockEnded_aside s b
  have he := endedExt_of_outer hx.outer
  rw [hm, tickBlockEnd_held (by rw [hx.meter]; exact .inl hh) (by rw [hx.meter, hr]) (by rw [hx.meter, he]; exact ht),
    setMeter_meter_self, hx.meter, he]

/-- Any other applies it at once, on a state that the others' records stand in. -/
theorem blockEnded_taken (hh : hasHeld (s.meter b) = false)
    (ht : (s.meter b).running = false ∨ (s.meter b).lastTag = some s.endedExt) :
    s.blockEnded.meter b = applyBlockEnd (s.meter b) ∧ Placed 3 s s.blockEnded := by
  obtain ⟨x, i, j, hij, hx, hm, hp⟩ := blockEnded_aside s b
  have he := endedExt_of_outer hx.outer
  have htaken := tickBlockEnd_taken (s := x) (e := ⟨s.ctu.block.start, s.ctu.block.elapsed⟩) (b := b)
    (by rw [hx.meter]; exact .inl hh) (by rw [hx.meter, he]; exact ht)
  rw [htaken] at hm hp
  rw [hm, setMeter_meter_self, hx.meter]
  exact ⟨rfl, hij ▸ Placed.trans (u := s.blockEnded) hx.placed hp⟩

/-- The boundary that follows a block end in the tick (R146). -/
def State.tickBoundaryOf (s : State) (r : CloseReason) : AcctBoundary :=
  ⟨r, s.ctu.time, s.ctu.band.band, s.ctu.band.price, s.ctu.band.tariff, s.ctu.clockUnset⟩

/-- A block end with no check due beside it is followed by the tick's last check. -/
theorem blockEnd_none (hd : Due.tariffActivation ∉ s.due ∧ Due.demandBlockEnd ∉ s.due) (hw : s.ctu.tick = some w)
    (hr : tickReason w s.ctu.band = none) : s.blockEnd = s.blockEnded.tickDone := by
  obtain ⟨m, h, hs⟩ := blockEnded_rest s
  rw [blockEnd_finish, finishTick_of_not_due (by rw [hs]; exact not_or.2 hd)]
  exact tickAccount_none (w := w) (by rw [hs]; exact hw) (by rw [hs]; exact hr)

theorem blockEnd_some (hd : Due.tariffActivation ∉ s.due ∧ Due.demandBlockEnd ∉ s.due) (hw : s.ctu.tick = some w)
    (hr : tickReason w s.ctu.band = some r) (b : Berth) : ∃ y i j, i + j = 3 ∧ Aside b i s.blockEnded.tickDone y
      ∧ Aside b j (y.tickBoundary (s.tickBoundaryOf r) b) s.blockEnd := by
  obtain ⟨m, h, hs⟩ := blockEnded_rest s
  have hbound : s.blockEnded.acctBoundary r = s.tickBoundaryOf r := by
    rw [hs]
    rfl
  rw [blockEnd_finish, finishTick_of_not_due (by rw [hs]; exact not_or.2 hd),
    tickAccount_some (w := w) (r := r) (by rw [hs]; exact hw) (by rw [hs]; exact hr), hbound]
  exact forEach_tickBoundary_of_fresh (s := s.blockEnded.tickDone) (blockEnded_allFresh s) (s.tickBoundaryOf r) b

section
variable (hd : Due.tariffActivation ∉ s.due ∧ Due.demandBlockEnd ∉ s.due) (hw : s.ctu.tick = some w)
include hd hw

theorem blockEnd_stopped (hh : hasHeld (s.meter b) = false) (hrun : (s.meter b).running = false) :
    s.blockEnd.meter b = s.meter b := by
  have hm : s.blockEnded.meter b = s.meter b :=
    (blockEnded_taken hh (.inl hrun)).1.trans (if_neg (by rw [hrun]; decide))
  cases hr : tickReason w s.ctu.band with
  | none =>
    rw [blockEnd_none hd hw hr]
    exact hm
  | some r =>
    obtain ⟨y, i, j, -, hy, hz⟩ := blockEnd_some hd hw hr b
    have hym : y.meter b = s.meter b := hy.meter.trans hm
    rw [hz.meter, tickBoundary_taken (by rw [hym]; exact .inl hh) (by rw [hym]; exact .inl hrun),
      applyBoundary_stopped (by rw [hym]; exact hrun), hym]

theorem blockEnd_held (hh : hasHeld (s.meter b) = false) (hrun : (s.meter b).running = true)
    (ht : (s.meter b).lastTag ≠ some s.endedExt) : s.blockEnd.meter b = { s.meter b with
      heldBlock := some ⟨s.ctu.block.start, s.ctu.block.elapsed⟩, heldFor := s.endedExt
      heldBoundary := (tickReason w s.ctu.band).map s.tickBoundaryOf } := by
  have hm := blockEnded_held hh hrun ht
  cases hr : tickReason w s.ctu.band with
  | none =>
    rw [blockEnd_none hd hw hr]
    refine hm.trans ?_
    rw [Option.map_none, ← (hasHeld_eq_false.1 hh).2]
  | some r =>
    obtain ⟨y, i, j, -, hy, hz⟩ := blockEnd_some hd hw hr b
    have hym := hy.meter.trans hm
    have he : y.endedExt = s.endedExt := (endedExt_of_outer hy.outer).trans (blockEnded_endedExt s)
    rw [hz.meter, tickBoundary_held (by rw [hym, he]; exact .inr rfl) (by rw [hym]; exact hrun) (by rw [hym, he]; exact ht),
      setMeter_meter_self, hym, he]
    rfl

/-- A block end taken at once by a running meter, without a boundary after it. -/
theorem blockEnd_taken_none (hh : hasHeld (s.meter b) = false) (ht : (s.meter b).lastTag = some s.endedExt)
    (hr : tickReason w s.ctu.band = none) : s.blockEnd.meter b = applyBlockEnd (s.meter b) := by
  rw [blockEnd_none hd hw hr]
  exact (blockEnded_taken hh (.inr ht)).1

/-- With one, the boundary is applied at once to the meter that the block end has left. -/
theorem blockEnd_taken_some (hh : hasHeld (s.meter b) = false) (ht : (s.meter b).lastTag = some s.endedExt)
    (hr : tickReason w s.ctu.band = some r) : ∃ y k, y.meter b = applyBlockEnd (s.meter b) ∧ Placed 6 s y
      ∧ Aside b k (y.applyBoundary b (s.tickBoundaryOf r)) s.blockEnd := by
  obtain ⟨hm, hp⟩ := blockEnded_taken hh (.inr ht)
  obtain ⟨y, i, j, hij, hy, hz⟩ := blockEnd_some hd hw hr b
  have hym : y.meter b = applyBlockEnd (s.meter b) := hy.meter.trans hm
  have he : y.endedExt = s.endedExt := (endedExt_of_outer hy.outer).trans (blockEnded_endedExt s)
  obtain ⟨htag, hfresh⟩ := applyBlockEnd_held (s.meter b)
  rw [tickBoundary_taken (by rw [hym]; exact .inl (hfresh.trans hh)) (by rw [hym, he]; exact .inr (htag.trans ht))] at hz
  exact ⟨y, j, hym, (hp.trans (show Placed i s.blockEnded y from hy.placed)).mono (by omega), hz⟩

end

end
end Sys2Proof.Machine

/-! PROOFS. The order of the events of a second tick (08), and the statement about them. -/

namespace Sys2Proof.Machine

open Sys2Proof

section
variable {s t : State} {b : Berth} {a : AcctBoundary} {w : TickWork} {c : Instr} {d : Due}

/-! ## Held-over items as an event (R155) -/

/-- The meter whose held-over block end has been applied. -/
def blockHeld (m : Meter) : Meter :=
  { m with
    record := m.record.map (fun o => { o with peakDemand := max o.peakDemand m.blockSum }), blockSum := 0
    heldBlock := none, heldBoundary := none }

theorem heldApplied_block {m : Meter} (hb : m.heldBlock.isSome = true) (hr : m.running = true) : heldApplied m = blockHeld m := by
  obtain ⟨x, hx⟩ := Option.isSome_iff_exists.1 hb
  unfold heldApplied
  rw [hx]
  dsimp only
  rw [applyBlockEnd_running hr]
  rfl

/-! ## An event named while a check of the tick is due (R137) -/

/-- The command of an event takes it in its turn; the end of a measurement second by its own order. -/
theorem exec_due (h : dueOf c = some d) : ∃ first, ∀ s, exec c s = .next (s.inside fun x => x.takeIfDue first d) := by
  cases c <;> cases h <;> exact ⟨_, fun _ => rfl⟩

theorem activate_ringOut (s : State) : s.activate.ringOut = s.ringOut := by
  unfold State.activate State.recomputeBand
  dsimp only
  rw [latchStation_ringOut]

theorem tickActivation_ringOut (s : State) : s.tickActivation.ringOut = s.ringOut := by
  unfold State.tickActivation
  split
  · obtain ⟨c, m, h, hf⟩ := finishTick_rest
      { s.activate with ctu := { s.activate.ctu with tick := s.activate.ctu.tick.map (fun w => { w with activated := true }) } }
    rw [hf]
    exact activate_ringOut s
  · obtain ⟨c, m, h, hf⟩ := finishTick_rest s.recomputeBand
    rw [hf]
    rfl

theorem blockEnd_ringOut (s : State) : s.blockEnd.ringOut = s.ringOut := by
  obtain ⟨m, h, hs⟩ := blockEnded_rest s
  obtain ⟨c, m', h', hf⟩ := finishTick_rest s.blockEnded
  rw [blockEnd_finish, hf, hs]

theorem resetHeld_of_mail (h : mail t = mail s) : t.resetHeld = s.resetHeld := congrArg (fun x => x.2.1) h

/-- A check of the tick taken by its own command is due no longer and sends nothing. -/
theorem check_taken {x : Due} (hx : x = .tariffActivation ∨ x = .demandBlockEnd) (h : DueNow s x) :
    (s.eventCommand x).due = s.due.erase x ∧ (s.eventCommand x).quiet = s.eventCommand x
      ∧ (s.eventCommand x).resetHeld = false := by
  rw [eventCommand_of_due h]
  have hquiet (u : State) (hu : u.ringOut = []) : u.quiet = u := by
    change { u with ringOut := [] } = u
    rw [← hu]
  rcases hx with rfl | rfl
  · rw [runDue_tariffActivation]
    have hmail := tickActivation_mail (s.without .tariffActivation)
    have hheld : (s.without .tariffActivation).tickActivation.resetHeld = (s.without .tariffActivation).resetHeld := resetHeld_of_mail hmail
    exact ⟨due_of_mail hmail, hquiet _ (tickActivation_ringOut _), hheld.trans h.1⟩
  · rw [runDue_demandBlockEnd]
    have hmail := blockEnd_mail (s.without .demandBlockEnd)
    have hheld : (s.without .demandBlockEnd).blockEnd.resetHeld = (s.without .demandBlockEnd).resetHeld := resetHeld_of_mail hmail
    exact ⟨due_of_mail hmail, hquiet _ (blockEnd_ringOut _), hheld.trans h.1⟩

/-- An event named while a check of the tick is due comes after it: the check's own command taken first makes no difference. -/
theorem exec_after_check {x : Due} {l r : List Due} (hx : x = .tariffActivation ∨ x = .demandBlockEnd) (h : DueNow s x)
    (hcount : s.due.count x ≤ 1) (hc : dueOf c = some d) (hd : d ∈ s.due) (hne : d ≠ x)
    (hsplit : tickChecksBefore d = l ++ x :: r) (hl : ∀ y ∈ l, y ∉ s.due) : exec c s = exec c (s.eventCommand x) := by
  obtain ⟨hdue, hquiet, hheld⟩ := check_taken hx h
  obtain ⟨first, hexec⟩ := exec_due hc
  have htaken : s.quiet.takeCheck x = s.eventCommand x := by
    rw [eventCommand_of_due h]
    exact if_pos h.2.1
  have hgone : x ∉ (s.eventCommand x).due := by
    rw [hdue, ← List.count_eq_zero, List.count_erase_self]
    omega
  have hself : (s.eventCommand x).takeCheck x = s.eventCommand x := if_neg hgone
  have hl' : ∀ y ∈ l, y ∉ (s.eventCommand x).due := fun y hy k => hl y hy (List.mem_of_mem_erase (hdue ▸ k))
  have hchecks : (tickChecksBefore d).foldl State.takeCheck s.quiet = (tickChecksBefore d).foldl State.takeCheck (s.eventCommand x) := by
    rw [hsplit, List.foldl_append, List.foldl_append, List.foldl_cons, List.foldl_cons, takeChecks_eq_self (s := s.quiet) hl,
      takeChecks_eq_self hl', htaken, hself]
  have hd' : d ∈ (s.eventCommand x).due := by
    rw [hdue]
    exact (List.mem_erase_of_ne hne).2 hd
  rw [hexec, hexec, inside_of_released h.1, inside_of_released hheld, hquiet]
  unfold State.takeIfDue
  rw [if_pos hd', hchecks]
  exact congrArg Host.Outcome.next (if_pos hd)

theorem tickChecksBefore_first (h : d ≠ .tariffActivation) : ∃ r, tickChecksBefore d = [] ++ .tariffActivation :: r := by
  cases d <;> first | exact ⟨_, rfl⟩ | contradiction

theorem tickChecksBefore_other (h1 : d ≠ .tariffActivation) (h2 : d ≠ .demandBlockEnd) :
    tickChecksBefore d = [.tariffActivation, .demandBlockEnd] := by
  cases d <;> first | rfl | contradiction

/-- What a check of the tick leaves in the list of due events. -/
theorem not_mem_erase_of_count {x : Due} (h : s.due.count x ≤ 1) : x ∉ s.due.erase x := by
  rw [← List.count_eq_zero, List.count_erase_self]
  omega

theorem touches_tickBoundary (s : State) (a : AcctBoundary) (b : Berth) : Touches (fun _ => True) s (s.tickBoundary a b) := by
  have h : Touches (fun _ => True) s (s.flushStale b) := .ite (touches_flushHeld trivial s) (.refl _ s)
  exact .ite (h.trans (touches_setMeter trivial _ _)) (h.trans (touches_applyBoundary trivial _ a))

/-- The activation as an event (R144). -/
theorem activation_state (h : activationDue s.ctu = true) : ∃ u : State, s.tickActivation = u.finishTick ∧ u.due = s.due ∧ u.mbu = s.mbu
    ∧ u.ctu = { s.activate.ctu with tick := s.ctu.tick.map (fun w => { w with activated := true }) }
    ∧ u.isLatched .station 7 = true ∧ u.endedExt = s.endedExt :=
  ⟨_, tickActivation_eq h, (due_of_mail (activate_mail s) : _), (activate_mbu s : _), rfl, (activate_latched s : _), rfl⟩

theorem finishTick_latched {k : Nat} (h : s.isLatched .station k = true) : s.finishTick.isLatched .station k = true := by
  by_cases hd : Due.tariffActivation ∈ s.due ∨ Due.demandBlockEnd ∈ s.due
  · rw [finishTick_of_due hd]
    exact h
  · rw [finishTick_of_not_due hd]
    cases hw : s.ctu.tick with
    | none =>
      unfold State.tickAccount
      rw [hw]
      exact h
    | some w =>
      cases hr : tickReason w s.ctu.band with
      | none =>
        rw [tickAccount_none hw hr]
        exact h
      | some r =>
        rw [tickAccount_some hw hr]
        exact (Touches.foldl (B := fun _ => True) (fun x b => touches_tickBoundary x _ b) _ (.refl _ _)).latched .station k h

/-- What a block end makes of the clock unit when no check is due beside it (R147). -/
theorem blockEnd_ctu (hd : Due.tariffActivation ∉ s.due ∧ Due.demandBlockEnd ∉ s.due) :
    s.blockEnd.ctu = { s.ctu with block := ⟨s.ctu.time, 0⟩, tick := none } := by
  obtain ⟨m, h, hs⟩ := blockEnded_rest s
  obtain ⟨p, q, hrest⟩ := tickAccount_rest s.blockEnded
  rw [blockEnd_finish, finishTick_of_not_due (by rw [hs]; exact not_or.2 hd), hrest, hs]
  rfl

/-- A block end and the boundary after it at a meter that holds nothing over (R147, R155, R156). -/
theorem blockEnd_account (hd : Due.tariffActivation ∉ s.due ∧ Due.demandBlockEnd ∉ s.due) (hw : s.ctu.tick = some w)
    (hh : hasHeld (s.meter b) = false) :
    ((s.meter b).running = false → s.blockEnd.meter b = s.meter b)
      ∧ ((s.meter b).running = true → (s.meter b).lastTag ≠ some s.endedExt → s.blockEnd.meter b = { s.meter b with
          heldBlock := some ⟨s.ctu.block.start, s.ctu.block.elapsed⟩, heldFor := s.endedExt
          heldBoundary := (tickReason w s.ctu.band).map s.tickBoundaryOf })
      ∧ ((s.meter b).running = true → (s.meter b).lastTag = some s.endedExt →
        (s.blockEnd.meter b).blockSum = 0
          ∧ (tickReason w s.ctu.band = none → (s.blockEnd.meter b).record.map (·.peakDemand)
            = (s.meter b).record.map (fun o => max o.peakDemand (s.meter b).blockSum))
          ∧ ∀ r o, tickReason w s.ctu.band = some r → (s.meter b).record = some o → (s.meter b).deferral = none →
            s.mbu.ring.length ≤ 57 → s.mbu.nextRecord ≤ 4294967289 →
              (s.blockEnd.meter b).record.map (·.peakDemand) = some 0
                ∧ ∃ k ∈ s.blockEnd.mbu.ring, k.berth = b ∧ k.reason = r ∧ k.openedAt = o.openedAt ∧ k.closedAt = s.ctu.time
                  ∧ k.peakDemand = max o.peakDemand (s.meter b).blockSum) := by
  refine ⟨blockEnd_stopped hd hw hh, blockEnd_held hd hw hh, fun hr ht => ?_⟩
  have hblock := applyBlockEnd_running hr
  cases hreason : tickReason w s.ctu.band with
  | none =>
    rw [blockEnd_taken_none hd hw hh ht hreason, hblock]
    exact ⟨rfl, fun _ => Option.map_map _ _ _, fun r o k => (nomatch k)⟩
  | some r =>
    obtain ⟨y, k, hy, hp, hz⟩ := blockEnd_taken_some hd hw hh ht hreason
    rw [hblock] at hy
    obtain ⟨q, p, d, hfields⟩ := applyBoundary_meter y b (s.tickBoundaryOf r)
    generalize s.blockEnd = t at *
    refine ⟨by rw [hz.meter, hfields, hy], fun k => (nomatch k), fun r' o hr' ho hdef hlen hnum => ?_⟩
    obtain rfl := Option.some.inj hr'
    have hrec : (y.meter b).record = some { o with peakDemand := max o.peakDemand (s.meter b).blockSum } := by
      rw [hy, ho]
      rfl
    rw [applyBoundary_placed (by rw [hy]; exact hr) hrec (by rw [hy]; exact hdef) (hp.canPlace (by omega) (by omega))] at hz
    have hmem := Placed.mem (r := y.closedRecord b { o with peakDemand := max o.peakDemand (s.meter b).blockSum } s.ctu.time r)
      (placed_of_setMeter hz.placed) (List.mem_append_right _ List.mem_cons_self)
    exact ⟨by rw [hz.meter, setMeter_meter_self]; rfl, _, hmem, rfl, rfl, rfl, rfl, rfl⟩

/-! ## Held-over items applied, a block end among them (R155, R156) -/

section
variable (hb : (s.meter b).heldBlock.isSome = true) (hr : (s.meter b).running = true)
include hb hr

theorem flushHeld_block_only (hn : (s.meter b).heldBoundary = none) : s.flushHeld b = s.setMeter b (blockHeld (s.meter b)) := by
  rw [flushHeld_eq, hn, heldApplied_block hb hr]

theorem flushHeld_block_boundary (ha : (s.meter b).heldBoundary = some a) : s.flushHeld b = State.applyBoundary
    (s.setMeter b (blockHeld (s.meter b))) b a := by
  rw [flushHeld_eq, ha, heldApplied_block hb hr]

theorem flushHeld_blockSum : ((s.flushHeld b).meter b).blockSum = 0 := by
  cases hn : (s.meter b).heldBoundary with
  | none =>
    rw [flushHeld_block_only hb hr hn, setMeter_meter_self]
    rfl
  | some a =>
    rw [flushHeld_block_boundary hb hr hn]
    obtain ⟨r, p, d, hm⟩ := applyBoundary_meter (s.setMeter b (blockHeld (s.meter b))) b a
    rw [hm, setMeter_meter_self]
    rfl

theorem flushHeld_placed {o : OpenRecord} (ha : (s.meter b).heldBoundary = some a) (ho : (s.meter b).record = some o)
    (hd : (s.meter b).deferral = none) (hc : s.mbu.canPlace = true) :
    ((s.flushHeld b).meter b).record.map (·.peakDemand) = some 0
      ∧ ∃ k, (s.flushHeld b).mbu.ring = s.mbu.ring ++ [k] ∧ k.berth = b ∧ k.reason = a.reason ∧ k.closedAt = a.time
        ∧ k.peakDemand = max o.peakDemand (s.meter b).blockSum := by
  rw [flushHeld_block_boundary hb hr ha]
  have hself := setMeter_meter_self s b (blockHeld (s.meter b))
  have hrec : (blockHeld (s.meter b)).record = some { o with peakDemand := max o.peakDemand (s.meter b).blockSum } := by
    unfold blockHeld
    rw [ho]
    rfl
  rw [applyBoundary_placed (s := s.setMeter b (blockHeld (s.meter b))) (by rw [hself]; exact hr) (by rw [hself]; exact hrec) (by rw [hself]; exact hd) hc,
    setMeter_meter_self]
  exact ⟨rfl, _, rfl, rfl, rfl, rfl, rfl⟩

end

/-- Settles O45: the tick by its last check, the checks by what they present to one meter, the order by `exec_after_check`. -/
theorem secondEvents : Obligations.SecondEvents := by
  refine ⟨fun s h hp => ?_, fun s h hact => ?_, fun s w hl hw h => ?_, fun s b h hh => ?_, fun s c d hl hs hc hd hne => ⟨fun ha => ?_, fun hb ha hx => ?_⟩⟩
  · refine ⟨_, secondTick_answers h hp, ?_⟩
    have hno : ∀ x ∈ tickChecksBefore .secondTick, x ∉ (s.without .secondTick).due := fun x hx k => h.2.2 x hx (List.mem_of_mem_erase k)
    have ha := hno .tariffActivation (by decide)
    have hb := hno .demandBlockEnd (by decide)
    obtain ⟨c, x, m, k, ht, hband⟩ := ticked_fields (s.without .secondTick)
    have hdue := ticked_due (u := s.without .secondTick)
    have hlast := ticked_last (u := s.without .secondTick)
    have hmema : Due.tariffActivation ∈ tickDues (tickAdvance s.ctu) ++ (s.without .secondTick).due
        ↔ activationDue (tickAdvance s.ctu) = true := by
      rw [List.mem_append, or_iff_left ha, mem_tickDues_activation]
    have hmemb : Due.demandBlockEnd ∈ tickDues (tickAdvance s.ctu) ++ (s.without .secondTick).due
        ↔ (nextSecond s.ctu.time).second % 900 = 0 := by
      rw [List.mem_append, or_iff_left hb, mem_tickDues_blockEnd]
      rfl
    generalize (s.without .secondTick).bandTicked.finishTick = t at *
    have htime : t.ctu.time = nextSecond s.ctu.time := by rw [ht]; rfl
    have htdue : t.due = tickDues (tickAdvance s.ctu) ++ (s.without .secondTick).due := by rw [ht]; rfl
    have htctu : t.ctu = { tickAdvance s.ctu with band := x, tick := c } := by rw [ht]; rfl
    dsimp only
    rw [htime, htdue, hmema, hmemb]
    refine ⟨nextSecond_of_lt, nextSecond_of_last, by rw [htctu]; rfl, by rw [htctu]; rfl, by rw [htctu]; rfl, by rw [htctu]; rfl,
      by rw [htctu]; rfl, by rw [htctu]; rfl, by rw [ht]; rfl, by rw [ht]; rfl, by rw [ht]; rfl, by rw [ht]; rfl, Iff.rfl,
      fun hlaw => activationDue_tickAdvance hlaw, fun hn => ?_, fun hy => ?_, fun hn1 hn2 => ?_⟩
    · rw [htctu]
      exact hband (Bool.eq_false_iff.2 hn)
    · exact hdue (hy.imp hmema.2 hmemb.2)
    · obtain ⟨h1, h2, h3⟩ := hlast (not_or.2 ⟨hmema.not.2 hn1, hmemb.not.2 hn2⟩)
      rw [htime] at h3
      exact ⟨h1, h2, h3⟩
  · have hact' : activationDue (s.without .tariffActivation).ctu = true := hact
    obtain ⟨u, hu, hudue, humbu, huctu, hlatched, huext⟩ := activation_state hact'
    refine ⟨_, next_event h, ?_⟩
    rw [runDue_tariffActivation, hu]
    obtain ⟨c, m, k, ht⟩ := finishTick_rest u
    have hctu : u.finishTick.ctu = { u.ctu with tick := c } := by rw [ht]
    rw [huctu] at hctu
    refine ⟨by rw [hctu]; rfl, fun i => by rw [hctu]; exact vget_replicate _ _, by rw [hctu]; rfl, finishTick_latched hlatched,
      by rw [hctu]; rfl, by rw [hctu]; rfl, fun hb => ?_, fun hl hb => ?_⟩
    · rw [finishTick_of_due (.inr (by rw [hudue]; exact (List.mem_erase_of_ne (by decide)).2 hb))]
      exact humbu
    · obtain ⟨w, hw⟩ := Option.isSome_iff_exists.1 (hl.2.2 (.inl h.2.1))
      have huw : u.ctu.tick = some { w with activated := true } := by rw [huctu, show (s.without _).ctu.tick = some w from hw]; rfl
      have hnot : ¬ (Due.tariffActivation ∈ u.due ∨ Due.demandBlockEnd ∈ u.due) := by
        rw [hudue]
        exact not_or.2 ⟨not_mem_erase_of_count hl.1, fun k => hb (List.mem_of_mem_erase k)⟩
      obtain ⟨p, q, hrest⟩ := tickAccount_rest u
      have hband : u.finishTick.ctu.band = u.ctu.band := by rw [hctu, huctu]
      have hum (b : Berth) : u.meter b = s.meter b := congrArg (fun m : Mbu => vget m.meter b) humbu
      refine ⟨by rw [finishTick_of_not_due hnot, hrest]; rfl, fun b hh hr htag => ?_⟩
      rw [hband, finishTick_of_not_due hnot, tickAccount_held huw (r := .tariffChange) rfl (by rw [hum, hh]) (by rw [hum, hr])
        (by rw [hum, huext]; exact htag), hum, huext]
      unfold State.acctBoundary
      rw [huctu]
      rfl
  · refine ⟨_, next_event h, ?_⟩
    rw [runDue_demandBlockEnd]
    have hd : Due.tariffActivation ∉ (s.without .demandBlockEnd).due ∧ Due.demandBlockEnd ∉ (s.without .demandBlockEnd).due :=
      ⟨fun k => h.2.2 _ List.mem_cons_self (List.mem_of_mem_erase k), not_mem_erase_of_count hl.2.1⟩
    have hw' : (s.without .demandBlockEnd).ctu.tick = some w := hw
    have hctu := blockEnd_ctu hd
    have hdue : (s.without .demandBlockEnd).blockEnd.due = s.due.erase .demandBlockEnd := due_of_mail (blockEnd_mail _)
    refine ⟨by rw [hctu]; rfl, by rw [hctu]; rfl, by rw [hctu]; rfl, by rw [hctu], fun d hne => ?_, ?_, ?_⟩
    · rw [hdue, List.mem_erase_of_ne hne]
    · rw [hdue]
      exact hd.2
    · intro reason b hh
      have haccount := blockEnd_account (s := s.without .demandBlockEnd) (b := b) hd hw' hh
      generalize (s.without .demandBlockEnd).blockEnd = t at *
      exact haccount
  · refine ⟨_, next_event h, ?_⟩
    have hflush : (s.without (.heldOverApply b)).runDue false (.heldOverApply b) = (s.without (.heldOverApply b)).flushHeld b := if_pos hh
    rw [hflush]
    have hbill := (BillingOnly.refl b (s.without (.heldOverApply b))).flushHeld
    refine ⟨(flushHeld_meter _ b).1, hbill.others, fun hr hb => ?_, fun hn hr hb => ?_, fun a o hb ha hr ho hd hlen hnum => ?_⟩
    · exact flushHeld_blockSum hb hr
    · rw [flushHeld_block_only (s := s.without (.heldOverApply b)) hb hr hn, setMeter_meter_self]
      exact Option.map_map _ _ _
    · exact flushHeld_placed (s := s.without (.heldOverApply b)) hb hr ha ho hd ((canPlace_iff _).2 ⟨hlen, hnum⟩)
  · obtain ⟨r, hr⟩ := tickChecksBefore_first hne
    exact ⟨s.eventCommand .tariffActivation, rfl,
      exec_after_check (.inl rfl) ⟨hs, ha, fun x k => (nomatch k)⟩ hl.1 hc hd hne hr fun x k => (nomatch k)⟩
  · exact ⟨s.eventCommand .demandBlockEnd, rfl,
      exec_after_check (.inr rfl) ⟨hs, hx, fun x k => (List.mem_singleton.1 k) ▸ ha⟩ hl.2.1 hc hd hb (l := [.tariffActivation]) (r := [])
        (tickChecksBefore_other hne hb) fun x k => (List.mem_singleton.1 k) ▸ ha⟩

end
end Sys2Proof.Machine

/-! PROOFS. An invalid configuration (06, 09, 10): the records that it marks stay marked through the aborts that follow, and no session
is left in RESERVING or ENERGISING. -/

namespace Sys2Proof.Machine

open Sys2Proof

section
variable {s t : State} {b c : Berth} {e : AllocEntry}

/-! ## Open records that carry UNVERIFIED (R166) -/

/-- The configuration is invalid and every open record carries UNVERIFIED. -/
def Marked (s : State) : Prop := s.cfs.invalid = true ∧ ∀ b o, (s.meter b).record = some o → o.unverified = true

theorem Marked.same (h : Marked s) (hc : t.cfs = s.cfs) (hm : t.mbu = s.mbu) : Marked t := by
  have hmeter (b : Berth) : t.meter b = s.meter b := congrArg (fun m : Mbu => vget m.meter b) hm
  exact ⟨by rw [hc]; exact h.1, fun b o ho => h.2 b o (hmeter b ▸ ho)⟩

theorem Marked.setMeter (h : Marked s) {m : Meter} (hm : ∀ o, m.record = some o → o.unverified = true) : Marked (s.setMeter b m) := by
  refine ⟨h.1, fun c o ho => ?_⟩
  by_cases hc : c = b
  · subst hc
    rw [setMeter_meter_self] at ho
    exact hm o ho
  · rw [setMeter_meter_ne _ _ _ hc] at ho
    exact h.2 c o ho

theorem Marked.placeRecord (h : Marked s) (b : Berth) (r : OpenRecord) (n : StationTime) (w : CloseReason) :
    Marked (s.placeRecord b r n w) := ⟨h.1, h.2⟩

theorem Marked.deferClosure (h : Marked s) (b : Berth) (d : Deferral) : Marked (s.deferClosure b d) := by
  have hm : Marked (s.setMeter b { s.meter b with deferral := some d }) := h.setMeter (h.2 b)
  exact ⟨hm.1, hm.2⟩

theorem beginEntry_unverified (n p : Nat) (x : Bool) (o : OpenRecord) : (beginEntry n p x o).unverified = o.unverified := by
  unfold beginEntry
  split <;> rfl

theorem Marked.applyBoundary (h : Marked s) (b : Berth) (a : AcctBoundary) : Marked (s.applyBoundary b a) := by
  unfold State.applyBoundary
  dsimp only
  split
  case h_1 o _ ho _ =>
    split
    · refine (h.placeRecord b o a.time a.reason).setMeter fun q hq => ?_
      cases hq
      exact h.1
    · refine (h.deferClosure b _).setMeter fun q hq => ?_
      cases hq
      exact h.2 b o ho
  case h_2 o _ _ ho _ =>
    refine h.setMeter fun q hq => ?_
    cases hq
    exact (beginEntry_unverified _ _ _ o).trans (h.2 b o ho)
  case h_3 => exact h

theorem applyBlockEnd_unverified {m : Meter} (h : ∀ o, m.record = some o → o.unverified = true) :
    ∀ o, (applyBlockEnd m).record = some o → o.unverified = true := by
  unfold applyBlockEnd
  split
  · intro o ho
    obtain ⟨q, hq, rfl⟩ := Option.map_eq_some_iff.1 ho
    exact h q hq
  · exact h

theorem heldApplied_unverified {m : Meter} (h : ∀ o, m.record = some o → o.unverified = true) :
    ∀ o, (heldApplied m).record = some o → o.unverified = true := by
  unfold heldApplied
  split
  · exact applyBlockEnd_unverified h
  · exact h

theorem Marked.flushHeld (h : Marked s) (b : Berth) : Marked (s.flushHeld b) := by
  have hm : Marked (s.setMeter b (heldApplied (s.meter b))) := h.setMeter (heldApplied_unverified (h.2 b))
  rw [flushHeld_eq]
  split
  · exact hm.applyBoundary b _
  · exact hm

theorem Marked.startMetering (h : Marked s) (b : Berth) (n : Option Nat) (a : Option (BitVec 32)) (w : Bool) :
    Marked (s.startMetering b n a w) := by
  have h0 := h.flushHeld b
  unfold State.startMetering
  dsimp only
  split
  case h_1 o d ho _ _ =>
    refine h0.setMeter fun q hq => ?_
    cases hq
    exact (beginEntry_unverified _ _ _ o).trans (h0.2 b o ho)
  case h_2 =>
    refine h0.setMeter fun q hq => ?_
    cases hq
    exact h0.1

theorem stoppedMeter_unverified {m : Meter} (h : ∀ o, m.record = some o → o.unverified = true) :
    ∀ o, (stoppedMeter m).record = some o → o.unverified = true := by
  intro o ho
  obtain ⟨q, hq, rfl⟩ := Option.map_eq_some_iff.1 ho
  exact h q hq

theorem Marked.meterEnded (h : Marked s) (b : Berth) (w : CloseReason) {m : Meter}
    (hm : ∀ o, m.record = some o → o.unverified = true) : Marked (s.meterEnded b w m) := by
  have h0 : Marked (s.setMeter b m) := h.setMeter hm
  unfold State.meterEnded
  split
  · split
    · exact (h0.placeRecord b _ _ w).setMeter fun _ k => (nomatch k)
    · refine (h0.deferClosure b _).setMeter ?_
      exact (h0.deferClosure b _).2 b
  · exact h0.setMeter hm
  · exact h0

theorem Marked.endMetering (h : Marked s) (b : Berth) (w : CloseReason) : Marked (s.endMetering b w) := by
  cases hr : (s.meter b).running
  · rw [endMetering_stopped w hr]
    exact h
  · rw [endMetering_running w hr]
    exact h.meterEnded b w (stoppedMeter_unverified (h.2 b))

/-! ## What the aborts keep of it -/

theorem Marked.closeRequest (h : Marked s) (k : Breaker) : Marked (s.closeRequest k).1 := by
  obtain ⟨r, hr⟩ := closeRequest_eq s k
  rw [hr]
  exact h.same (setBreaker_cfs _ _ _) (setBreaker_mbu _ _ _)

theorem Marked.openRequest (h : Marked s) (k : Breaker) : Marked (s.openRequest k).1 := by
  obtain ⟨r, hr⟩ := openRequest_eq s k
  rw [hr]
  exact h.same (setBreaker_cfs _ _ _) (setBreaker_mbu _ _ _)

theorem Marked.setSession (h : Marked s) (b : Berth) (r : Session) : Marked (s.setSession b r) := h.same rfl rfl

theorem Marked.enterState (h : Marked s) (b : Berth) (st : SessionState) : Marked (s.enterState b st) :=
  h.same (enterState_cfs s b st) (enterState_mbu s b st)

theorem Marked.pbCloseComplete (h : Marked s) (b : Berth) : Marked (s.pbCloseComplete b) := by
  unfold State.pbCloseComplete
  split
  · exact ((h.setSession b _).startMetering b _ _ _).same rfl rfl
  · exact h

theorem Marked.presentPbClose (h : Marked s) (b : Berth) : Marked (s.presentPbClose b) := by
  have hx := h.closeRequest (.pb b)
  unfold State.presentPbClose
  dsimp only
  split
  · exact hx.setSession b _
  · exact hx.setSession b _
  · exact (hx.setSession b _).pbCloseComplete b
  · exact hx.setSession b _

theorem Marked.tryIdle (h : Marked s) (b : Berth) : Marked (s.tryIdle b) := by
  unfold State.tryIdle State.idleEntry
  split
  · exact ((h.enterState b .idle).setSession b (idleSession ((s.enterState b .idle).session b))).same rfl rfl
  · exact h

theorem Marked.changeOfHoldings (h : Marked s) (b : Berth) : Marked (s.changeOfHoldings b) := by
  have hc : Marked (s.recount b) := by
    rw [recount_eq]
    exact h.setSession b _
  rw [changeOfHoldings_eq]
  refine Marked.tryIdle ?_ b
  split
  · exact hc.presentPbClose b
  · exact hc

theorem releaseOne_rest (s : State) (m : ModuleId) : ∃ v, s.releaseOne m = { s with mpm := v } := by
  unfold State.releaseOne
  split
  · dsimp only
    split
    · exact ⟨_, rfl⟩
    · exact ⟨_, rfl⟩
    · exact ⟨_, rfl⟩
    · split <;> exact ⟨_, rfl⟩
  · exact ⟨s.mpm, rfl⟩

theorem Marked.releaseEach (h : Marked s) (l : List ModuleId) : Marked (s.releaseEach l) := by
  induction l generalizing s with
  | nil => exact h
  | cons m l ih =>
    refine ih (s := s.releaseOne m) ?_
    obtain ⟨v, hv⟩ := releaseOne_rest s m
    rw [hv]
    exact h.same rfl rfl

theorem Marked.releaseModules (h : Marked s) (b : Berth) (l : List ModuleId) : Marked (s.releaseModules b l) := by
  rw [releaseModules_eq]
  split
  · exact (h.releaseEach l).changeOfHoldings b
  · exact h.releaseEach l

theorem Marked.grantHead (h : Marked s) (hc : e.count ≤ s.freeCount) : Marked (s.grantHead e) := by
  have hg : Marked (s.granted e) := by
    obtain ⟨hp, -⟩ := pickAll_picked (b := e.berth) hc
    obtain ⟨v, hv⟩ := hp.rest
    unfold State.granted
    rw [hv]
    exact h.same rfl rfl
  rw [grantHead_eq]
  refine Marked.changeOfHoldings ?_ e.berth
  unfold State.grantPresented
  split
  · exact hg.enterState _ _
  iterate 3 exact hg.releaseModules _ _
  · exact hg

theorem Marked.grantEvaluation (h : Marked s) : Marked s.grantEvaluation := by
  have hloop (n : Nat) : ∀ s : State, Marked s → Marked (s.grantLoop n) := by
    induction n with
    | zero => exact fun s h => h
    | succ n ih =>
      intro s h
      unfold State.grantLoop
      split
      · split
        case isTrue hc => exact ih _ (h.grantHead hc)
        case isFalse => exact h
      · exact h
  unfold State.grantEvaluation
  split
  · exact hloop _ s h
  · exact h

theorem Marked.cancelAlloc (h : Marked s) (b : Berth) : Marked (s.cancelAlloc b) := by
  have hu : Marked (s.unqueued b) := h.same rfl rfl
  rcases cancelAlloc_cases s b with k | k
  · rw [k]
    exact hu
  · rw [k]
    exact hu.grantEvaluation

theorem Marked.drainReturn (h : Marked s) (b : Berth) : Marked (s.drainReturn b) := by
  unfold State.drainReturn
  have hm : Marked (if (s.session b).metering then s.endMetering b .sessionEnd else s) := by
    split
    · exact h.endMetering b _
    · exact h
  exact (hm.setSession b _).releaseModules b _

theorem Marked.drainPb (h : Marked s) (b : Berth) : Marked (s.drainPb b) := by
  have hx : Marked ((s.setSession b { s.session b with drain := .pb }).openRequest (.pb b)).1 := (h.setSession b _).openRequest _
  unfold State.drainPb
  dsimp only
  split
  · exact ((hx.setSession b _).drainReturn b).tryIdle b
  · exact hx

theorem Marked.enterDraining (h : Marked s) (b : Berth) (w : EndReason) (x : Bool) : Marked (s.enterDraining b w x) := by
  have hb : Marked (s.drainBegun b w) := ((h.cancelAlloc b).setSession b _).enterState b _
  have hsb : Marked (((s.drainBegun b w).setSession b { (s.drainBegun b w).session b with drain := .sb }).openRequest (.sb b)).1 :=
    (hb.setSession b _).openRequest _
  rw [enterDraining_eq]
  split
  · split
    · unfold State.sbDrained
      split
      · exact (hsb.setSession b _).tryIdle b
      · exact hsb.drainPb b
    · exact hsb
  · exact hb.drainPb b

theorem Marked.abortSession (h : Marked s) (b : Berth) (w : EndReason) : Marked (s.abortSession b w) := by
  unfold State.abortSession
  split
  · exact (h.cancelAlloc b).setSession b _
  · exact h.enterDraining b w true

/-- The allocation entries that an invalid configuration cancels, gone (R118). -/
def State.abortsUnqueued (s : State) : State :=
  { s with mpm := { s.mpm with alloc := s.mpm.alloc.filter (fun e => !s.abortedByInvalid e.berth) } }

theorem cancelAborted_cases (s : State) :
    s.cancelAborted = s.abortsUnqueued ∨ s.cancelAborted = s.abortsUnqueued.grantEvaluation := by
  unfold State.cancelAborted
  dsimp only
  split
  · split
    · exact .inr rfl
    · exact .inl rfl
  · exact .inl rfl

theorem Marked.cancelAborted (h : Marked s) : Marked s.cancelAborted := by
  have hu : Marked s.abortsUnqueued := h.same rfl rfl
  rcases cancelAborted_cases s with k | k
  · rw [k]
    exact hu
  · rw [k]
    exact hu.grantEvaluation

/-- A property that every change made keeps holds after the changes for all berths. -/
theorem forEach_keeps {P : State → Prop} {f : Berth → State → State} (hf : ∀ b s, P s → P (f b s)) (h : P s) : P (forEach f s) := by
  have key (l : List Berth) : ∀ s, P s → P (l.foldl (fun x b => f b x) s) := by
    induction l with
    | nil => exact fun s h => h
    | cons b l ih => exact fun s h => ih _ (hf b s h)
  exact key _ s h

theorem Marked.invalidAborts (h : Marked s) : Marked s.invalidAborts := by
  refine forEach_keeps (fun b x k => ?_) h.cancelAborted
  unfold State.invalidAbort
  split
  · exact k.abortSession b _
  · exact k

/-- A property that a berth's own change brings and the others' keep holds of every berth after the changes for all. -/
theorem forEach_brings {P : Berth → State → Prop} {f : Berth → State → State} (hself : ∀ b s, P b (f b s))
    (hkeep : ∀ b c s, P b s → P b (f c s)) (s : State) (b : Berth) : P b (forEach f s) := by
  have key (l : List Berth) (x : State) (h : P b x) : P b (l.foldl (fun x c => f c x) x) := by
    induction l generalizing x with
    | nil => exact h
    | cons c l ih => exact ih _ (hkeep b c x h)
  obtain ⟨l, r, hlr⟩ := List.append_of_mem (List.mem_finRange b)
  unfold forEach
  rw [hlr, List.foldl_append, List.foldl_cons]
  exact key r _ (hself b _)

/-- A meter's open record marked, after what it held over has been applied (R155, R166). -/
def State.verifyLost (s : State) (b : Berth) : State :=
  (s.flushHeld b).setMeter b
    { (s.flushHeld b).meter b with record := ((s.flushHeld b).meter b).record.map (fun r => { r with unverified := true }) }

theorem markUnverified_marked (h : s.cfs.invalid = true) : Marked s.markUnverified := by
  have hinvalid : s.markUnverified.cfs.invalid = true := by
    rw [markUnverified_cfs]
    exact h
  have hself (b : Berth) (s : State) (o : OpenRecord) (ho : ((s.verifyLost b).meter b).record = some o) : o.unverified = true := by
    unfold State.verifyLost at ho
    rw [setMeter_meter_self] at ho
    obtain ⟨q, -, rfl⟩ := Option.map_eq_some_iff.1 ho
    rfl
  refine ⟨hinvalid, forEach_brings (f := fun b x => x.verifyLost b)
    (P := fun b s => ∀ o, (s.meter b).record = some o → o.unverified = true) hself (fun b c s hs => ?_) s⟩
  by_cases hc : c = b
  · subst hc
    exact hself c s
  · have hbill := (BillingOnly.refl c s).flushHeld.setMeter
      { (s.flushHeld c).meter c with record := ((s.flushHeld c).meter c).record.map (fun r => { r with unverified := true }) }
    intro o ho
    exact hs o ((congrArg Meter.record (hbill.others b (Ne.symm hc))).symm.trans ho)

/-! ## No session in RESERVING or ENERGISING (R118) -/

/-- A session that an invalid configuration leaves alone. -/
def Spared (r : Session) : Prop := r.state ≠ .reserving ∧ r.state ≠ .energising

theorem Spared.changeOfHoldings (h : Spared (s.session b)) : Spared ((s.changeOfHoldings b).session b) := by
  cases hr : readyForIdle (s.recounted b)
  · rw [changeOfHoldings_of_plain h.2 hr, setSession_session_self]
    exact h
  · rw [changeOfHoldings_of_ready hr, idleEntry_session_self]
    exact ⟨fun k => (nomatch k), fun k => (nomatch k)⟩

theorem Spared.releaseModules (h : Spared (s.session b)) (l : List ModuleId) : Spared ((s.releaseModules b l).session b) := by
  have heach : Spared ((s.releaseEach l).session b) := by
    rw [releaseEach_session]
    exact h
  rw [releaseModules_eq]
  split
  · exact heach.changeOfHoldings
  · exact heach

theorem Spared.grantHead (h : Spared (s.session b)) (hc : e.count ≤ s.freeCount) : Spared ((s.grantHead e).session b) := by
  by_cases hb : b = e.berth
  · subst hb
    have hg : Spared ((s.granted e).session e.berth) := by
      obtain ⟨hp, -⟩ := pickAll_picked (b := e.berth) hc
      obtain ⟨v, hv⟩ := hp.rest
      unfold State.granted
      rw [hv]
      exact h
    rw [grantHead_eq]
    refine Spared.changeOfHoldings ?_
    unfold State.grantPresented
    split
    case h_1 k => exact absurd k hg.1
    iterate 3 exact hg.releaseModules _
    · exact hg
  · rw [((touches_grantHead (B := (· = e.berth)) s rfl).frame b hb).session]
    exact h

theorem Spared.grantEvaluation (h : Spared (s.session b)) : Spared (s.grantEvaluation.session b) := by
  have hloop (n : Nat) : ∀ s : State, Spared (s.session b) → Spared ((s.grantLoop n).session b) := by
    induction n with
    | zero => exact fun s h => h
    | succ n ih =>
      intro s h
      unfold State.grantLoop
      split
      · split
        case isTrue hc => exact ih _ (h.grantHead hc)
        case isFalse => exact h
      · exact h
  unfold State.grantEvaluation
  split
  · exact hloop _ s h
  · exact h

theorem Spared.cancelAlloc (h : Spared (s.session b)) (c : Berth) : Spared ((s.cancelAlloc c).session b) := by
  have hu : Spared ((s.unqueued c).session b) := h
  rcases cancelAlloc_cases s c with k | k
  · rw [k]
    exact hu
  · rw [k]
    exact hu.grantEvaluation

theorem touches_drainPb {B : Berth → Prop} (hc : B c) (s : State) : Touches B s (s.drainPb c) := by
  have hx : Touches B s ((s.setSession c { s.session c with drain := .pb }).openRequest (.pb c)).1 :=
    (touches_setSession hc s _).trans (touches_openRequest (k := .pb c) hc _)
  unfold State.drainPb
  dsimp only
  split
  · exact hx.trans (touches_pbDrained hc _)
  · exact hx

/-- Beyond the cancellation of its own entry a drain reaches its own berth only. -/
theorem touches_enterDraining {B : Berth → Prop} (hc : B c) (s : State) (w : EndReason) (x : Bool) : Touches B (s.cancelAlloc c) (s.enterDraining c w x) := by
  have hb : Touches B (s.cancelAlloc c) (s.drainBegun c w) :=
    (touches_setSession hc _ _).trans (touches_enterState hc _ _)
  have hsb : Touches B (s.cancelAlloc c)
      (((s.drainBegun c w).setSession c { (s.drainBegun c w).session c with drain := .sb }).openRequest (.sb c)).1 :=
    hb.trans ((touches_setSession hc _ _).trans (touches_openRequest (k := .sb c) hc _))
  rw [enterDraining_eq]
  split
  · split
    · unfold State.sbDrained
      split
      · exact hsb.trans ((touches_setSession hc _ _).trans (touches_tryIdle hc _))
      · exact hsb.trans (touches_drainPb hc _)
    · exact hsb
  · exact hb.trans (touches_drainPb hc _)

theorem abortSession_spared (s : State) (b : Berth) (w : EndReason) : Spared ((s.abortSession b w).session b) := by
  obtain ⟨-, h | h, -⟩ := abortSession_ended s b w <;> exact ⟨by rw [h]; decide, by rw [h]; decide⟩

theorem Spared.abortSession (h : Spared (s.session b)) (c : Berth) (w : EndReason) : Spared ((s.abortSession c w).session b) := by
  by_cases hc : b = c
  · subst hc
    exact abortSession_spared s b w
  · unfold State.abortSession
    split
    · dsimp only
      rw [setSession_session_ne _ _ _ hc]
      exact h.cancelAlloc c
    · rw [((touches_enterDraining (B := (· = c)) rfl s w true).frame b hc).session]
      exact h.cancelAlloc c

theorem abortedByInvalid_iff : s.abortedByInvalid b = false ↔ Spared (s.session b) := by
  simp [State.abortedByInvalid, Spared]

/-- The aborts of an invalid configuration leave no session in RESERVING or ENERGISING (R118). -/
theorem invalidAborts_spared (s : State) (b : Berth) : Spared (s.invalidAborts.session b) := by
  refine forEach_brings (P := fun b s => Spared (s.session b)) (fun b s => ?_) (fun b c s h => ?_) s.cancelAborted b
  · unfold State.invalidAbort
    split
    case isTrue => exact abortSession_spared s b _
    case isFalse h => exact abortedByInvalid_iff.1 (Bool.eq_false_iff.2 h)
  · unfold State.invalidAbort
    split
    · exact h.abortSession c _
    · exact h

end
end Sys2Proof.Machine

/-! PROOFS. The events of the configuration store (10): the tables' return and the walker's read, and the statement about them. -/

namespace Sys2Proof.Machine

open Sys2Proof

section
variable {s t : State} {b c : Berth} {n : Nat}

/-! ## Marks that stay latched -/

theorem Touches.forEach {B : Berth → Prop} {f : Berth → State → State} (hf : ∀ b s, Touches B s (f b s)) (s : State) :
    Touches B s (Machine.forEach f s) := .foldl (fun t b => hf b t) _ (.refl B s)

theorem touches_abortSession (s : State) (b : Berth) (w : EndReason) : Touches anyBerth s (s.abortSession b w) := by
  have hcancel : Touches anyBerth s (s.cancelAlloc b) := touches_cancelAlloc s b fun _ _ _ => trivial
  unfold State.abortSession
  split
  · exact hcancel.trans (touches_setSession trivial _ _)
  · exact hcancel.trans (touches_enterDraining trivial s w true)

theorem touches_invalidAborts (s : State) : Touches anyBerth s s.invalidAborts := by
  have hu : Touches anyBerth s s.abortsUnqueued := touches_mpm anyBerth s _
  have hcancel : Touches anyBerth s s.cancelAborted := by
    rcases cancelAborted_cases s with k | k
    · rw [k]
      exact hu
    · rw [k]
      exact hu.trans (touches_grantEvaluation _ fun _ _ => trivial)
  refine hcancel.trans (.forEach (fun b x => ?_) _)
  unfold State.invalidAbort
  exact .ite (touches_abortSession x b _) (.refl _ x)

theorem touches_markUnverified (s : State) : Touches anyBerth s s.markUnverified :=
  .forEach (fun b x => (touches_flushHeld trivial x).trans (touches_setMeter (b := b) trivial _ _)) s

/-- What an invalid configuration brings (R118, R166, R179). -/
theorem becomeInvalid_effects (s : State) : s.becomeInvalid.cfs = { s.cfs with invalid := true }
    ∧ s.becomeInvalid.isLatched .station 11 = true ∧ (∀ b, Spared (s.becomeInvalid.session b))
    ∧ ∀ b o, (s.becomeInvalid.meter b).record = some o → o.unverified = true := by
  have hcfs : ((({ s with cfs := { s.cfs with invalid := true } } : State).latchStation .configInvalid).markUnverified.invalidAborts).cfs
      = { s.cfs with invalid := true } := by rw [invalidAborts_cfs, markUnverified_cfs, latchStation_cfs]
  have hlatched := ((touches_markUnverified _).trans (touches_invalidAborts _)).latched .station 11
    (latchStation_isLatched_self ({ s with cfs := { s.cfs with invalid := true } } : State) .configInvalid)
  exact ⟨hcfs, hlatched, invalidAborts_spared _, (Marked.invalidAborts (markUnverified_marked rfl)).2⟩

theorem becomeValid_effects (s : State) : s.becomeValid.cfs = { s.cfs with invalid := false }
    ∧ s.becomeValid.isLatched .station 12 = true := ⟨rfl, latchStation_isLatched_self _ .configValid⟩

/-! ## The blocks at the tables' return (R71, R74, R83) -/

theorem breakerConfigEntry_latched {k : Breaker} {c : Scope} (h : s.isLatched c n = true) : (s.breakerConfigEntry k).isLatched c n = true := by
  have hb : (s.setBreaker k (configBreaker (s.breaker k))).isLatched c n = true := by
    cases k <;> exact h
  unfold State.breakerConfigEntry
  dsimp only
  split
  · rw [latchBerth_isLatched, hb, Bool.true_or]
  · exact hb

theorem bsyConfigEntry_latched {c : Scope} (h : s.isLatched c n = true) : s.bsyConfigEntry.isLatched c n = true := by
  unfold State.bsyConfigEntry
  dsimp only
  refine forEach_keeps (P := fun x => x.isLatched c n = true) (fun _ _ k => k) ?_
  refine forEach_keeps (P := fun x => x.isLatched c n = true) (fun _ _ k => breakerConfigEntry_latched k) ?_
  exact forEach_keeps (P := fun x => x.isLatched c n = true) (fun _ _ k => breakerConfigEntry_latched k) h

/-! ## The walker's read (R177, R178) -/

theorem scrubRead_eq {e : EntryRef} (ho : s.operating = true) (hs : s.cfs.walker.state ≠ .stopped) (h3 : 3 ≤ s.cfs.walker.spacing)
    (he : allEntries[s.cfs.walker.position]? = some e) : s.scrubRead
      = if 64 ≤ s.cfs.walker.position then s.endPass (crc32Fold s.cfs.walker.crc (entryImage s.cfs.tables e))
        else { s with cfs := { s.cfs with walker := { s.cfs.walker with
          crc := crc32Fold s.cfs.walker.crc (entryImage s.cfs.tables e), position := s.cfs.walker.position + 1, spacing := 0 } } } := by
  refine (if_pos ⟨ho, hs, h3⟩).trans ?_
  rw [he]

/-- The state with the pass ended and its walker as given. -/
def State.walked (s : State) (w : Walker) : State := { s with cfs := { s.cfs with walker := w } }

theorem endPass_matched {reg : BitVec 32} (h : s.cfs.signature = some (~~~ reg)) : s.endPass reg
    = if s.cfs.walker.state = .verifying then (s.walked (walkerMatched s.cfs.walker)).becomeValid else s.walked (walkerMatched s.cfs.walker) :=
  if_pos h

theorem endPass_mismatched {reg : BitVec 32} (h : s.cfs.signature ≠ some (~~~ reg)) : s.endPass reg
    = if s.cfs.walker.state = .running then (s.walked (walkerMismatched (~~~ reg) s.cfs.walker)).becomeInvalid
      else s.walked (walkerMismatched (~~~ reg) s.cfs.walker) := if_neg h

/-- What the end of a pass leaves of the store: all but walker and invalid mark. -/
theorem endPass_cfs (s : State) (reg : BitVec 32) : ∃ v, (s.endPass reg).cfs = { s.cfs with
    walker := if s.cfs.signature = some (~~~ reg) then walkerMatched s.cfs.walker else walkerMismatched (~~~ reg) s.cfs.walker
    invalid := v } := by
  by_cases h : s.cfs.signature = some (~~~ reg)
  · rw [endPass_matched h, if_pos h]
    split
    · exact ⟨false, rfl⟩
    · exact ⟨s.cfs.invalid, rfl⟩
  · rw [endPass_mismatched h, if_neg h]
    split
    · exact ⟨true, (becomeInvalid_effects _).1⟩
    · exact ⟨s.cfs.invalid, rfl⟩

/-- Settles O51: the tables' return, and the read by the walker's position and the comparison at its end. -/
theorem configEvents : Obligations.ConfigEvents := by
  refine ⟨fun s h ho ht => ?_, fun s e h ho hw h3 he => ?_⟩
  · refine ⟨_, (next_event h).trans (congrArg Host.Outcome.next (if_pos ⟨ho, ht⟩)), ?_⟩
    have hcfs (x : State) : (x.mpmConfigEntry.bsyConfigEntry).cfs = x.cfs := by rw [bsyConfigEntry_cfs, mpmConfigEntry_cfs]
    dsimp only
    rw [hcfs]
    exact ⟨rfl, rfl, rfl, rfl, bsyConfigEntry_latched (latchStation_isLatched_self _ .configTimeout)⟩
  · intro crc
    have hread := scrubRead_eq (s := s.without .scrubRead) ho hw h3 he
    refine ⟨fun hp => ?_, fun hp => ⟨(s.without .scrubRead).endPass crc,
      (next_event h).trans (congrArg Host.Outcome.next (hread.trans (if_pos ?_))), ?_⟩⟩
    · exact (next_event h).trans (congrArg Host.Outcome.next (hread.trans (if_neg (Nat.not_le.2 hp))))
    · exact Nat.le_of_eq hp.symm
    · obtain ⟨v, hcfs⟩ := endPass_cfs (s.without .scrubRead) crc
      refine ⟨?_, ?_, by rw [hcfs]; rfl, by rw [hcfs]; rfl, by rw [hcfs]; rfl, fun hsig => ?_, fun hsig => ?_⟩
      · rw [hcfs]
        dsimp only
        split <;> rfl
      · rw [hcfs]
        dsimp only
        split <;> rfl
      · rw [endPass_matched (s := s.without .scrubRead) hsig]
        split
        case isTrue hv => exact ⟨rfl, rfl, rfl, fun k => absurd (hv.symm.trans k) (by decide), fun _ => ⟨congrArg Cfs.invalid (becomeValid_effects _).1, (becomeValid_effects _).2⟩⟩
        case isFalse hv => exact ⟨rfl, rfl, rfl, fun _ => rfl, fun k => absurd k hv⟩
      · rw [endPass_mismatched (s := s.without .scrubRead) hsig]
        split
        case isTrue hr =>
          obtain ⟨h1, h2, h3, h4⟩ := becomeInvalid_effects
            ((s.without .scrubRead).walked (walkerMismatched (~~~ crc) (s.without .scrubRead).cfs.walker))
          generalize State.becomeInvalid _ = t at *
          exact ⟨by rw [h1]; rfl, by rw [h1]; rfl, by rw [h1]; rfl, fun _ => ⟨by rw [h1], h2, h3, h4⟩, fun k => absurd (hr.symm.trans k) (by decide)⟩
        case isFalse hr => exact ⟨rfl, rfl, rfl, fun k => absurd k hr, fun _ => rfl⟩

end
end Sys2Proof.Machine

/-! PROOFS. The tests of the configuration store (10): what a repair write conflicts with, and the consistency of the entries. -/

namespace Sys2Proof.Machine

open Sys2Proof

section
variable {t : Tables} {s : State} {b : Berth} {m : ModuleId} {n i : NodeIx} {r : Role} {k : Nat} {e x : NodeEntry}

/-! ## Roles and targets (R17, R170, R172) -/

theorem holdsRole_iff : holdsRole e r k = true ↔ roleOf e.role = some r ∧ (r = .muIncomer ∨ e.target.toNat = k) := by
  simp [holdsRole]

/-- Two entries of one role and target are in each other's way. -/
theorem sameDuty_iff : SameDuty e x r ↔ roleOf e.role = some r ∧ holdsRole x r e.target.toNat = true := by
  rw [holdsRole_iff]
  refine and_congr_right fun _ => and_congr_right fun _ => or_congr_right ?_
  rw [BitVec.toNat_eq, eq_comm]

theorem sharedBy_iff (other : NodeIx → Bool) : sharedBy t n other = true
    ↔ ∃ r i, i ≠ n ∧ other i = true ∧ SameDuty (vget t.node n) (vget t.node i) r := by
  unfold sharedBy
  cases hr : roleOf (vget t.node n).role with
  | none => exact ⟨fun k => (nomatch k), fun ⟨_, _, _, _, h, _⟩ => nomatch hr.symm.trans h⟩
  | some r =>
    simp only [List.any_eq_true, List.mem_finRange, true_and, Bool.and_eq_true, bne_iff_ne]
    constructor
    · rintro ⟨i, ⟨hi, ho⟩, hh⟩
      exact ⟨r, i, hi, ho, sameDuty_iff.2 ⟨hr, hh⟩⟩
    · rintro ⟨q, i, hi, ho, hd⟩
      obtain ⟨hq, hh⟩ := sameDuty_iff.1 hd
      obtain rfl := Option.some.inj (hr.symm.trans hq)
      exact ⟨i, ⟨hi, ho⟩, hh⟩

theorem exclusiveRole_iff : exclusiveRole r = true ↔ r ∈ [Role.muBerth, .module, .plugBu, .siu, .muIncomer] := by
  cases r <;> decide

theorem exclusiveEntry_iff : exclusiveEntry e = true ↔ ∃ r, roleOf e.role = some r ∧ r ∈ [Role.muBerth, .module, .plugBu, .siu, .muIncomer] := by
  unfold exclusiveEntry
  cases hr : roleOf e.role with
  | none => exact ⟨fun k => (nomatch k), fun ⟨_, k, _⟩ => (nomatch k)⟩
  | some q =>
    dsimp only
    rw [exclusiveRole_iff]
    refine ⟨fun k => ⟨q, rfl, k⟩, fun ⟨r, hq, k⟩ => ?_⟩
    obtain rfl := Option.some.inj hq
    exact k

/-- A Node entry conflicts with another that holds its exclusive role and target (R170). -/
theorem repairConflict_node : s.repairConflict t (.node n) = true ↔ ∃ i, i ≠ n ∧
    ∃ r ∈ [Role.muBerth, .module, .plugBu, .siu, .muIncomer], SameDuty (vget t.node n) (vget t.node i) r := by
  change (exclusiveEntry (vget t.node n) && sharedBy t n (fun _ => true)) = true ↔ _
  rw [Bool.and_eq_true, exclusiveEntry_iff, sharedBy_iff]
  constructor
  · rintro ⟨⟨r, hr, hmem⟩, q, i, hi, -, hd⟩
    obtain rfl := Option.some.inj (hr.symm.trans hd.1)
    exact ⟨i, hi, r, hmem, hd⟩
  · rintro ⟨i, hi, r, hmem, hd⟩
    exact ⟨⟨r, hd.1, hmem⟩, r, i, hi, rfl, hd⟩

/-- A berth's modules STARTING or BOUND, counted one by one (R63). -/
theorem held_eq_length (s : State) (b : Berth) : s.held b = ((List.finRange 8).filter (fun m => (s.module m).berth = some b
    ∧ ((s.module m).state = .starting ∨ (s.module m).state = .bound))).length := by
  rw [held_eq_card, card_filter_univ]
  congr 1
  ext m
  simp only [State.holding, Finset.mem_filter, Finset.mem_univ, true_and, decide_eq_true_eq, isHolding_iff]
  tauto

theorem waitingCount_eq (s : State) (b : Berth) : s.waitingCount b
    = ((s.mpm.alloc.find? (fun e => e.berth = b)).map (·.count)).getD 0 := by
  unfold State.waitingCount
  have h : (fun e : AllocEntry => e.berth == b) = fun e => decide (e.berth = b) := funext fun e => beq_eq_decide _ _
  rw [h]

/-! ## Consistency (R172) -/

theorem firstInconsistent_none : firstInconsistent t = none ↔ ∀ e ∈ allEntries, entryConsistent t e = true := by
  simp [firstInconsistent]

/-- The entry named is inconsistent, and those before it are not. -/
theorem firstInconsistent_some {e : EntryRef} (h : firstInconsistent t = some e) :
    entryConsistent t e = false ∧ ∀ x ∈ allEntries.takeWhile (fun i => i ≠ e), entryConsistent t x = true := by
  obtain ⟨he, l, r, hsplit, hl⟩ := List.find?_eq_some_iff_append.1 h
  have hfalse : entryConsistent t e = false := by simpa using he
  have hconsistent : ∀ x ∈ l, entryConsistent t x = true := by simpa using hl
  have hne : ∀ x ∈ l, decide (x ≠ e) = true := by
    intro x hx
    refine decide_eq_true fun k => ?_
    rw [← k, hconsistent x hx] at hfalse
    cases hfalse
  refine ⟨hfalse, ?_⟩
  rw [hsplit, List.takeWhile_append_of_pos hne, List.takeWhile_cons_of_neg (by simp), List.append_nil]
  exact hconsistent

theorem flagOf_iff {y : Byte} (h : y.toNat ≤ 1) : flagOf y = true ↔ y = 1 := by
  have hcases : y = 0 ∨ y = 1 := by
    simp only [BitVec.toNat_eq, BitVec.ofNat_eq_ofNat, BitVec.toNat_ofNat]
    omega
  rcases hcases with rfl | rfl <;> simp [flagOf]

theorem nodeHolds_iff (hr : r ≠ .muIncomer) : nodeHolds t r k = true
    ↔ ∃ i, roleOf (vget t.node i).role = some r ∧ (vget t.node i).target.toNat = k := by
  unfold nodeHolds nodeWith
  rw [List.find?_isSome]
  simp only [List.mem_finRange, true_and, holdsRole_iff, hr, false_or]

theorem nodeOf_eq_some {a : Byte} : nodeOf a = some n ↔ nodeAddress n = a := by
  have hn := n.isLt
  unfold nodeOf nodeAddress
  rw [BitVec.toNat_eq, BitVec.toNat_ofNat]
  split
  case isTrue h =>
    rw [Option.some.injEq, Fin.ext_iff]
    dsimp only
    omega
  case isFalse h =>
    refine ⟨fun k => (nomatch k), fun k => absurd ?_ h⟩
    omega

theorem isStation_iff : isStation e = true ↔ roleOf e.role = some .station := by simp [isStation]

theorem stationAt_iff {a : Byte} : stationAt t a = true ↔ ∃ n, nodeAddress n = a ∧ roleOf (vget t.node n).role = some .station := by
  unfold stationAt
  cases h : nodeOf a with
  | none => exact ⟨fun k => (nomatch k), fun ⟨n, hn, _⟩ => nomatch h.symm.trans (nodeOf_eq_some.2 hn)⟩
  | some n =>
    dsimp only
    rw [isStation_iff]
    refine ⟨fun k => ⟨n, nodeOf_eq_some.1 h, k⟩, fun ⟨i, hi, k⟩ => ?_⟩
    obtain rfl := Option.some.inj (h.symm.trans (nodeOf_eq_some.2 hi))
    exact k

theorem disabledModule_iff : disabledModule t e = false
    ↔ (roleOf e.role = some .module → ∀ m : ModuleId, m.val = e.target.toNat → flagOf (vget t.module m).enabled = true) := by
  unfold disabledModule
  by_cases hr : roleOf e.role = some .module
  · rw [hr, beq_self_eq_true, Bool.true_and]
    cases hm : moduleOf e.target with
    | none => exact ⟨fun _ _ m k => (nomatch hm.symm.trans (moduleOf_eq k.symm)), fun _ => rfl⟩
    | some m =>
      dsimp only
      rw [Bool.not_eq_false']
      have hval : m.val = e.target.toNat := by
        unfold moduleOf at hm
        split at hm
        · cases hm
          rfl
        · cases hm
      refine ⟨fun k _ j hj => ?_, fun k => k rfl m hval⟩
      obtain rfl : j = m := Fin.ext (hj.trans hval.symm)
      exact k
  · rw [Bool.and_eq_false_iff.2 (.inl (beq_eq_false_iff_ne.2 hr))]
    exact ⟨fun _ k => absurd k hr, fun _ => rfl⟩

/-- The test of a Station entry: a node of role STATION at the controller's address. -/
theorem stationConsistent_iff : entryConsistent t .station = true ↔ entryInRange t .station = true
    ∧ ∃ n, nodeAddress n = t.station.controller ∧ roleOf (vget t.node n).role = some .station := by
  unfold entryConsistent
  rw [Bool.and_eq_true, stationAt_iff]

/-- The test of a Node entry: STATION at the controller's address only, no lower entry of its duty, no disabled module. -/
theorem nodeConsistent_iff : entryConsistent t (.node n) = true ↔ entryInRange t (.node n) = true
    ∧ (roleOf (vget t.node n).role = some .station → nodeAddress n = t.station.controller)
    ∧ (∀ i, i < n → ∀ r ∈ [Role.station, .muBerth, .muIncomer, .module, .plugBu, .siu], ¬ SameDuty (vget t.node n) (vget t.node i) r)
    ∧ (roleOf (vget t.node n).role = some .module →
      ∀ m : ModuleId, m.val = (vget t.node n).target.toNat → flagOf (vget t.module m).enabled = true) := by
  have hstation : (!(isStation (vget t.node n) && nodeAddress n != t.station.controller)) = true
      ↔ (roleOf (vget t.node n).role = some .station → nodeAddress n = t.station.controller) := by
    rw [Bool.not_eq_true', Bool.and_eq_false_iff, ← Bool.not_eq_true, isStation_iff, bne_eq_false_iff_eq]
    exact imp_iff_not_or.symm
  have hshared : (!(roleOf (vget t.node n).role != some .none && sharedBy t n (fun i => i.val < n.val))) = true
      ↔ ∀ i, i < n → ∀ r ∈ [Role.station, .muBerth, .muIncomer, .module, .plugBu, .siu], ¬ SameDuty (vget t.node n) (vget t.node i) r := by
    rw [Bool.not_eq_true', ← Bool.not_eq_true, Bool.and_eq_true, bne_iff_ne, sharedBy_iff]
    constructor
    · intro h i hi r hr hd
      refine h ⟨fun k => ?_, r, i, Fin.ne_of_lt hi, decide_eq_true hi, hd⟩
      obtain rfl := Option.some.inj (k.symm.trans hd.1)
      simp at hr
    · rintro h ⟨hne, r, i, -, hi, hd⟩
      refine h i (of_decide_eq_true hi) r ?_ hd
      cases r
      case none => exact absurd hd.1 hne
      all_goals simp
  unfold entryConsistent
  simp only [Bool.and_eq_true, hstation, hshared, Bool.not_eq_true', disabledModule_iff]
  rw [and_assoc]

theorem berthConsistent_iff : entryConsistent t (.berth b) = true ↔ entryInRange t (.berth b) = true
    ∧ ((vget t.berth b).enabled = 1 →
      (∃ i, roleOf (vget t.node i).role = some .muBerth ∧ (vget t.node i).target.toNat = b.val)
        ∧ (∃ i, roleOf (vget t.node i).role = some .plugBu ∧ (vget t.node i).target.toNat = b.val)
        ∧ ∃ i, roleOf (vget t.node i).role = some .siu ∧ (vget t.node i).target.toNat = b.val) := by
  unfold entryConsistent
  rw [Bool.and_eq_true]
  refine and_congr_right fun hrange => ?_
  have hflag : (vget t.berth b).enabled.toNat ≤ 1 := by
    obtain ⟨-, -, -, hranges⟩ := entryImages
    obtain ⟨-, -, hberth, -⟩ := hranges t
    obtain ⟨⟨h, -⟩, -⟩ := (hberth b).1 hrange
    exact h
  simp only [Bool.or_eq_true, Bool.not_eq_true', ← Bool.not_eq_true, flagOf_iff hflag, Bool.and_eq_true,
    nodeHolds_iff (show Role.muBerth ≠ .muIncomer by decide), nodeHolds_iff (show Role.plugBu ≠ .muIncomer by decide),
    nodeHolds_iff (show Role.siu ≠ .muIncomer by decide)]
  rw [← imp_iff_not_or, and_assoc]

theorem moduleConsistent_iff : entryConsistent t (.module m) = true ↔ entryInRange t (.module m) = true
    ∧ ((vget t.module m).enabled = 1 → ∃ i, roleOf (vget t.node i).role = some .module ∧ (vget t.node i).target.toNat = m.val) := by
  unfold entryConsistent
  rw [Bool.and_eq_true]
  refine and_congr_right fun hrange => ?_
  have hflag : (vget t.module m).enabled.toNat ≤ 1 := by
    obtain ⟨-, -, -, hranges⟩ := entryImages
    obtain ⟨-, -, -, hmodule, -⟩ := hranges t
    obtain ⟨h, -⟩ := (hmodule m).1 hrange
    exact h
  simp only [Bool.or_eq_true, Bool.not_eq_true', ← Bool.not_eq_true, flagOf_iff hflag,
    nodeHolds_iff (show Role.module ≠ .muIncomer by decide)]
  exact imp_iff_not_or.symm

/-- The classes that a Reaction entry may not give: WARN to the faults that R172 names. -/
theorem reactionConsistent_iff (i : Fin 13) : entryConsistent t (.reaction i) = true ↔ (vget t.reaction i).toNat ≤ 3
    ∧ (i ∈ [faultNumber .overcurrent, faultNumber .phasing, faultNumber .shipEsd] → vget t.reaction i ≠ 0) := by
  have hmem : (i.val == 0 || i.val == 4 || i.val == 8) = true ↔ i ∈ [faultNumber .overcurrent, faultNumber .phasing, faultNumber .shipEsd] := by
    revert i
    decide
  unfold entryConsistent
  rw [Bool.and_eq_true]
  refine and_congr decide_eq_true_iff ?_
  rw [Bool.not_eq_true', ← Bool.not_eq_true, Bool.and_eq_true, hmem, beq_iff_eq, not_and]

end

/-- Where each entry stands in the entry index order (10). -/
theorem allEntries_order : allEntries.length = 65 ∧ allEntries[0]? = some .station ∧ (∀ n : NodeIx, allEntries[1 + n.val]? = some (.node n))
    ∧ (∀ b : Berth, allEntries[32 + b.val]? = some (.berth b) ∧ allEntries[44 + b.val]? = some (.breaker (.pb b))
      ∧ allEntries[48 + b.val]? = some (.breaker (.sb b)))
    ∧ (∀ m : ModuleId, allEntries[36 + m.val]? = some (.module m)) ∧ ∀ i : Fin 13, allEntries[52 + i.val]? = some (.reaction i) := by
  decide

end Sys2Proof.Machine

/-! PROOFS. The requests of the configuration store (10): a repair write's effects, a commit, the entry into CONFIG, and the statement
about them. -/

namespace Sys2Proof.Machine

open Sys2Proof

section
variable {s : State} {b : Berth} {m : ModuleId} {n : NodeIx} {e : EntryRef} {old T : Tables} {table entry : Byte} {image : List Byte}

/-! ## WRITE TABLE ENTRY judged (R170) -/

theorem locked_iff : s.locked = true ↔ s.operating = true ∧ s.cfs.invalid = false := by simp [State.locked]

theorem writeEntry_unnamed (h : entryNamed table entry = none) : s.writeEntry table entry image = (s, refused .range) := by
  unfold State.writeEntry
  rw [h]

theorem writeEntry_named (h : entryNamed table entry = some e) : s.writeEntry table entry image
    = if s.locked then (s, refused .locked)
      else if !entryInRange (setEntryImage s.cfs.tables e image) e then (s, refused .range)
      else if s.operating && s.repairConflict (setEntryImage s.cfs.tables e image) e then (s, refused .range)
      else (s.acceptWrite e (setEntryImage s.cfs.tables e image), done) := by
  unfold State.writeEntry
  rw [h]

/-- An entry in range written into a store that is not locked, and conflicting with nothing, is accepted. -/
theorem writeEntry_accepted (h : entryNamed table entry = some e) (hl : s.locked = false)
    (hr : entryInRange (setEntryImage s.cfs.tables e image) e = true)
    (hc : s.operating = true → s.repairConflict (setEntryImage s.cfs.tables e image) e = false) :
    s.writeEntry table entry image = (s.acceptWrite e (setEntryImage s.cfs.tables e image), done) := by
  rw [writeEntry_named h, if_neg (by rw [hl]; decide), if_neg (by rw [hr]; decide), if_neg]
  intro k
  obtain ⟨ho, hk⟩ := Bool.and_eq_true_iff.1 k
  exact absurd ((hc ho).symm.trans hk) (by decide)

/-- The state with the tables of a repair write, its walker stopped when it was VERIFYING (R176). -/
def State.repaired (s : State) (T : Tables) : State :=
  { s with cfs := { s.cfs with tables := T, walker := repairWalker s.cfs.walker } }

theorem acceptWrite_operating (ho : s.operating = true) : s.acceptWrite e T = (s.repaired T).repairEffects s.cfs.tables e := if_pos ho

theorem acceptWrite_config (ho : s.operating = false) :
    s.acceptWrite e T = { s with cfs := { s.cfs with tables := T, timer := some (s.cfs.timer.getD 480000) } } :=
  if_neg (by rw [ho]; decide)

theorem repairWalker_eq (w : Walker) : repairWalker w = if w.state = .verifying then { w with state := .stopped } else w := by
  unfold repairWalker
  split
  case h_1 h => rw [if_pos h]
  case h_2 h => rw [if_neg (by rw [h]; decide)]
  case h_3 h => rw [if_neg (by rw [h]; decide)]

/-! ## The effects of a repair write on the entry's readers (R13, R19, R104) -/

theorem setMeas_rest (s : State) (p : Point) (r : MeasRecord) : ∃ v, s.setMeas p r = { s with mfe := v } := by
  cases p <;> exact ⟨_, rfl⟩

theorem resetPoints_rest (s : State) (l : List Point) : ∃ v, s.resetPoints l = { s with mfe := v } := by
  induction l generalizing s with
  | nil => exact ⟨s.mfe, rfl⟩
  | cons p l ih =>
    obtain ⟨v, hv⟩ := setMeas_rest s p MeasRecord.reset
    obtain ⟨w, hw⟩ := ih (s.setMeas p MeasRecord.reset)
    exact ⟨w, hw.trans (by rw [hv])⟩

theorem resetPoints_meas (s : State) (l : List Point) (p : Point) :
    (s.resetPoints l).meas p = if p ∈ l then MeasRecord.reset else s.meas p := by
  induction l generalizing s with
  | nil => rfl
  | cons q l ih =>
    refine (ih (s.setMeas q MeasRecord.reset)).trans ?_
    rw [setMeas_meas_eq]
    by_cases hl : p ∈ l
    · rw [if_pos hl, if_pos (List.mem_cons_of_mem q hl)]
    · by_cases hq : p = q
      · rw [if_neg hl, if_pos hq, if_pos (hq ▸ List.mem_cons_self)]
      · rw [if_neg hl, if_neg hq, if_neg (fun k => (List.mem_cons.1 k).elim hq hl)]

theorem healthFieldsChange_iff {a c : NodeEntry} :
    healthFieldsChange a c = true ↔ a.role ≠ c.role ∨ a.target ≠ c.target ∨ a.limit ≠ c.limit := by
  simp [healthFieldsChange, or_assoc]

theorem measFieldsChange_iff {a c : NodeEntry} : measFieldsChange a c = true
    ↔ a.role ≠ c.role ∨ a.target ≠ c.target ∨ a.vfs ≠ c.vfs ∨ a.ifs ≠ c.ifs ∨ a.mirrored ≠ c.mirrored := by
  simp [measFieldsChange, or_assoc]

/-- The health record's part of a repair write of a Node entry. -/
def State.healthRepaired (s : State) (a : NodeEntry) (n : NodeIx) : State :=
  if healthFieldsChange a (s.nodeEntry n) then s.renewHealth n else s

theorem repairEffects_node (s : State) (old : Tables) (n : NodeIx) : s.repairEffects old (.node n)
    = if measFieldsChange (vget old.node n) (s.nodeEntry n) then
        (s.healthRepaired (vget old.node n) n).resetPoints (pointsFedBy (vget old.node n) ++ pointsFedBy (s.nodeEntry n))
      else s.healthRepaired (vget old.node n) n := rfl

theorem healthRepaired_rest (s : State) (a : NodeEntry) (n : NodeIx) : ∃ v, s.healthRepaired a n = { s with rif := v } := by
  unfold State.healthRepaired
  split
  · exact ⟨_, rfl⟩
  · exact ⟨s.rif, rfl⟩

/-- A repair write of a Node entry reaches health records and measurement records only. -/
theorem repairEffects_node_rest (s : State) (old : Tables) (n : NodeIx) :
    ∃ v w, s.repairEffects old (.node n) = { s with rif := v, mfe := w } ∧ (s.healthRepaired (vget old.node n) n).rif = v := by
  obtain ⟨v, hv⟩ := healthRepaired_rest s (vget old.node n) n
  rw [repairEffects_node]
  split
  · obtain ⟨w, hw⟩ := resetPoints_rest (s.healthRepaired (vget old.node n) n) (pointsFedBy (vget old.node n) ++ pointsFedBy (s.nodeEntry n))
    exact ⟨v, w, by rw [hw, hv], by rw [hv]⟩
  · exact ⟨v, s.mfe, by rw [hv], by rw [hv]⟩

theorem repairEffects_other (h : ∀ n, e ≠ .node n) : s.repairEffects old e = s ∨ ∃ b, s.repairEffects old e = s.formCap b := by
  cases e with
  | node n => exact absurd rfl (h n)
  | station => exact .inl rfl
  | berth b => exact .inr ⟨b, rfl⟩
  | module m =>
    unfold State.repairEffects
    dsimp only
    split
    · exact .inr ⟨_, rfl⟩
    · exact .inl rfl
  | breaker k => exact .inl rfl
  | reaction i => exact .inl rfl

/-- What a repair write leaves besides health, measurement and cap. -/
theorem repairEffects_rest (s : State) (old : Tables) (e : EntryRef) :
    ∃ v w x, s.repairEffects old e = { s with rif := v, mfe := w, ses := x } := by
  by_cases h : ∃ n, e = .node n
  · obtain ⟨n, rfl⟩ := h
    obtain ⟨v, w, hr, -⟩ := repairEffects_node_rest s old n
    exact ⟨v, w, s.ses, hr⟩
  · rcases repairEffects_other (s := s) (old := old) (not_exists.1 h) with k | ⟨b, k⟩
    · exact ⟨s.rif, s.mfe, s.ses, k⟩
    · exact ⟨s.rif, s.mfe, _, k⟩

/-- A repair write that concerns a berth's rating forms its cap afresh (R104). -/
theorem repairEffects_cap (h : e = .berth b ∨ ∃ m, e = .module m ∧ (s.module m).state = .bound ∧ (s.module m).berth = some b) :
    s.repairEffects old e = s.formCap b := by
  rcases h with rfl | ⟨m, rfl, hs, hb⟩
  · rfl
  · unfold State.repairEffects
    dsimp only
    rw [hs, hb]

/-! ## COMMIT and ENTER CONFIGURATION (R172 to R176) -/

theorem commitTables_locked {sig : BitVec 32} (h : s.locked = true) : s.commitTables sig = (s, refused .mode) := if_pos h

theorem commitTables_unlocked {sig : BitVec 32} (h : s.locked = false) : s.commitTables sig
    = match firstInconsistent s.cfs.tables with
      | some e => (s, refusedWith .inconsistent [.code 1 (entryCodes e).1, .code 1 (entryCodes e).2])
      | none =>
        if signatureOf s.cfs.tables ≠ sig then (s, refused .signature)
        else if s.operating then (s.recommit sig, done)
        else (s.enterOperate sig, done) := by
  unfold State.commitTables
  rw [if_neg (by rw [h]; decide)] <;> rfl

theorem locked_eq_false (h : s.operating = false ∨ s.cfs.invalid = true) : s.locked = false := by
  unfold State.locked
  rcases h with h | h <;> simp [h]

/-- The pool, the breakers and the meters put at rest, as at entry into CONFIG (R71, R74, R149). -/
def State.configBegun (s : State) : State :=
  let s1 : State :=
    { s with
      cfs := { s.cfs with mode := .config, invalid := false, timer := none, walker := { s.cfs.walker with state := .stopped } } }
  s1.resetHealth.resetMeas.mpmConfigEntry

theorem enterConfig_eq (s : State) : s.enterConfig = s.configBegun.bsyConfigEntry.mbuConfigEntry := rfl

theorem enterConfig_outer (s : State) : outer s.enterConfig = outer s.configBegun :=
  (mbuConfigEntry_outer _).trans (bsyConfigEntry_outer _)

theorem configBreaker_command (r : BreakerRecord) : (configBreaker r).command ≠ .close := by
  unfold configBreaker
  split
  case h_1 => exact fun h => (nomatch h)
  case h_2 h => exact fun k => nomatch h.symm.trans k
  case h_3 h => exact fun k => nomatch h.symm.trans k

theorem breakerConfigEntry_breaker (k i : Breaker) (s : State) : (s.breakerConfigEntry k).breaker i
    = if i = k then configBreaker (s.breaker k) else s.breaker i := by
  rw [← setBreaker_breaker_eq s k (configBreaker (s.breaker k)) i]
  unfold State.breakerConfigEntry
  dsimp only
  split
  · rw [latchBerth_breaker]
  · rfl

/-- Entry into CONFIG leaves a breaker without a CLOSE in force without one. -/
theorem breakerConfigEntry_open {k i : Breaker} (h : (s.breaker i).command ≠ .close) : ((s.breakerConfigEntry k).breaker i).command ≠ .close := by
  rw [breakerConfigEntry_breaker]
  split
  · exact configBreaker_command _
  · exact h

theorem breakerConfigEntry_command (k : Breaker) (s : State) : ((s.breakerConfigEntry k).breaker k).command ≠ .close := by
  rw [breakerConfigEntry_breaker, if_pos rfl]
  exact configBreaker_command _

theorem breakerConfigEntry_ses (k : Breaker) (s : State) : (s.breakerConfigEntry k).ses = s.ses := by
  unfold State.breakerConfigEntry
  dsimp only
  split
  · exact setBreaker_ses _ _ _
  · exact setBreaker_ses _ _ _

theorem breakerConfigEntry_mpm (k : Breaker) (s : State) : (s.breakerConfigEntry k).mpm = s.mpm := by
  unfold State.breakerConfigEntry
  dsimp only
  split
  · exact setBreaker_mpm _ _ _
  · exact setBreaker_mpm _ _ _

/-- No breaker keeps a CLOSE in force over the entry into CONFIG (R74). -/
theorem bsyConfigEntry_command (s : State) (k : Breaker) : (s.bsyConfigEntry.breaker k).command ≠ .close := by
  have hsb (x : State) (b : Berth) : ((forEach (fun b s => s.breakerConfigEntry (.sb b)) x).breaker (.sb b)).command ≠ .close :=
    forEach_brings (P := fun b x => (x.breaker (.sb b)).command ≠ .close) (fun b x => breakerConfigEntry_command (.sb b) x)
      (fun _ _ _ h => breakerConfigEntry_open h) x b
  have hpb (x : State) (b : Berth) : ((forEach (fun b s => s.breakerConfigEntry (.pb b)) x).breaker (.pb b)).command ≠ .close :=
    forEach_brings (P := fun b x => (x.breaker (.pb b)).command ≠ .close) (fun b x => breakerConfigEntry_command (.pb b) x)
      (fun _ _ _ h => breakerConfigEntry_open h) x b
  unfold State.bsyConfigEntry
  dsimp only
  refine forEach_keeps (P := fun x => (x.breaker k).command ≠ .close) (fun b x h => by rw [setSync_breaker]; exact h) ?_
  cases k with
  | pb b =>
    exact forEach_keeps (P := fun x => (x.breaker (.pb b)).command ≠ .close) (fun _ _ h => breakerConfigEntry_open h) (hpb s b)
  | sb b => exact hsb _ b

theorem bsyConfigEntry_ses (s : State) : s.bsyConfigEntry.ses = s.ses := by
  unfold State.bsyConfigEntry
  dsimp only
  refine forEach_keeps (P := fun x => x.ses = s.ses) (fun _ _ h => h) ?_
  refine forEach_keeps (P := fun x => x.ses = s.ses) (fun _ x h => (breakerConfigEntry_ses _ x).trans h) ?_
  exact forEach_keeps (P := fun x => x.ses = s.ses) (fun _ x h => (breakerConfigEntry_ses _ x).trans h) rfl

theorem bsyConfigEntry_mpm (s : State) : s.bsyConfigEntry.mpm = s.mpm := by
  unfold State.bsyConfigEntry
  dsimp only
  refine forEach_keeps (P := fun x => x.mpm = s.mpm) (fun _ _ h => h) ?_
  refine forEach_keeps (P := fun x => x.mpm = s.mpm) (fun _ x h => (breakerConfigEntry_mpm _ x).trans h) ?_
  exact forEach_keeps (P := fun x => x.mpm = s.mpm) (fun _ x h => (breakerConfigEntry_mpm _ x).trans h) rfl

theorem meterEnded_running (s : State) (b : Berth) (w : CloseReason) (m : Meter) (h : m.running = false) :
    ((s.meterEnded b w m).meter b).running = false := by
  have hm : ((s.setMeter b m).meter b).running = false := by rw [setMeter_meter_self]; exact h
  unfold State.meterEnded
  split
  · split
    · rw [setMeter_meter_self]
      exact hm
    · rw [setMeter_meter_self, deferClosure_meter]
      exact hm
  · rw [setMeter_meter_self]
    exact h
  · exact hm

/-- A meter does not run after the end of its metering (R151). -/
theorem endMetering_meter_running (s : State) (b : Berth) (w : CloseReason) : ((s.endMetering b w).meter b).running = false := by
  cases h : (s.meter b).running with
  | false =>
    rw [endMetering_stopped w h]
    exact h
  | true =>
    rw [endMetering_running w h]
    exact meterEnded_running s b w _ rfl

theorem mbuConfigEntry_running (s : State) (b : Berth) : (s.mbuConfigEntry.meter b).running = false :=
  forEach_brings (P := fun b x => (x.meter b).running = false) (fun b x => endMetering_meter_running x b .fault)
    (fun b c x h => by
      by_cases hc : b = c
      · exact hc ▸ endMetering_meter_running x c .fault
      · rw [(BillingOnly.endMetering (.refl c x) .fault).others b hc]
        exact h) s b

theorem mbuConfigEntry_rest (s : State) : ∃ m h, s.mbuConfigEntry = { s with mbu := m, mrh := h } :=
  forEach_billing (fun c x => BillingOnly.endMetering (.refl c x) .fault) s

theorem mbuConfigEntry_mpm (s : State) : s.mbuConfigEntry.mpm = s.mpm := by
  obtain ⟨m, h, hr⟩ := mbuConfigEntry_rest s
  rw [hr]

theorem mbuConfigEntry_ses (s : State) : s.mbuConfigEntry.ses = s.ses := by
  obtain ⟨m, h, hr⟩ := mbuConfigEntry_rest s
  rw [hr]

theorem mbuConfigEntry_breaker (s : State) (k : Breaker) : s.mbuConfigEntry.breaker k = s.breaker k := by
  obtain ⟨m, h, hr⟩ := mbuConfigEntry_rest s
  rw [hr]
  cases k <;> rfl

theorem enterConfig_mpm (s : State) : s.enterConfig.mpm = s.configBegun.mpm := (mbuConfigEntry_mpm _).trans (bsyConfigEntry_mpm _)

theorem enterConfig_ses (s : State) : s.enterConfig.ses = s.ses := (mbuConfigEntry_ses _).trans (bsyConfigEntry_ses _)

/-- What the entry into CONFIG leaves (R175). -/
theorem enterConfig_effects (s : State) : s.enterConfig.cfs = s.configBegun.cfs ∧ s.enterConfig.rif = s.configBegun.rif
    ∧ s.enterConfig.mfe = Mfe.reset ∧ s.enterConfig.mpm.alloc = [] ∧ s.enterConfig.ses = s.ses
    ∧ (∀ b, (s.enterConfig.meter b).running = false) ∧ ∀ k, (s.enterConfig.breaker k).command ≠ .close := by
  refine ⟨cfs_of_outer (enterConfig_outer s), rif_of_outer (enterConfig_outer s), mfe_of_outer (enterConfig_outer s),
    congrArg Mpm.alloc (enterConfig_mpm s), enterConfig_ses s, fun b => mbuConfigEntry_running _ b, fun k => ?_⟩
  rw [enterConfig_eq, mbuConfigEntry_breaker]
  exact bsyConfigEntry_command _ k

end
end Sys2Proof.Machine

/-! PROOFS. The statement about the requests of the configuration store (10): each request by its owner's judgement, a repair write by
the entry that it concerns. -/

namespace Sys2Proof.Machine

open Sys2Proof

section
variable {s : State} {b : Berth} {n : NodeIx} {e : EntryRef} {old T : Tables} {table entry : Byte} {image : List Byte} {r : Request}
  {l : List Request}

/-! ## A repair write's readers -/

theorem repairEffects_nodeEntry (s : State) (old : Tables) (e : EntryRef) (n : NodeIx) :
    (s.repairEffects old e).nodeEntry n = s.nodeEntry n := by
  obtain ⟨v, w, x, h⟩ := repairEffects_rest s old e
  rw [h]
  rfl

theorem healthRepaired_changed {a : NodeEntry} (h : healthFieldsChange a (s.nodeEntry n) = true) : s.healthRepaired a n = s.renewHealth n :=
  if_pos h

theorem healthRepaired_same {a : NodeEntry} (h : healthFieldsChange a (s.nodeEntry n) = false) : s.healthRepaired a n = s :=
  if_neg (by rw [h]; decide)

theorem repairEffects_node_rif (s : State) (old : Tables) (n : NodeIx) :
    (s.repairEffects old (.node n)).rif = (s.healthRepaired (vget old.node n) n).rif := by
  obtain ⟨v, w, h, hv⟩ := repairEffects_node_rest s old n
  rw [h, hv]

theorem healthRepaired_mfe (s : State) (a : NodeEntry) (n : NodeIx) : (s.healthRepaired a n).mfe = s.mfe := by
  obtain ⟨v, h⟩ := healthRepaired_rest s a n
  rw [h]

/-- A repair write of a Node entry resets the health record, and the records of the points fed before or after it, when it changes what
they read (R13, R19). -/
theorem repairEffects_node_readers (s : State) (old : Tables) (n : NodeIx) :
    (healthFieldsChange (vget old.node n) (s.nodeEntry n) = true → (s.repairEffects old (.node n)).rif = (s.renewHealth n).rif)
      ∧ (healthFieldsChange (vget old.node n) (s.nodeEntry n) = false → (s.repairEffects old (.node n)).rif = s.rif)
      ∧ (measFieldsChange (vget old.node n) (s.nodeEntry n) = true → ∀ p, (s.repairEffects old (.node n)).meas p
        = if p ∈ pointsFedBy (vget old.node n) ++ pointsFedBy (s.nodeEntry n) then MeasRecord.reset else s.meas p)
      ∧ (measFieldsChange (vget old.node n) (s.nodeEntry n) = false → (s.repairEffects old (.node n)).mfe = s.mfe) := by
  refine ⟨fun h => ?_, fun h => ?_, fun h p => ?_, fun h => ?_⟩
  · rw [repairEffects_node_rif, healthRepaired_changed h]
  · rw [repairEffects_node_rif, healthRepaired_same h]
  · have hmeas : (s.healthRepaired (vget old.node n) n).meas p = s.meas p := by
      obtain ⟨v, k⟩ := healthRepaired_rest s (vget old.node n) n
      rw [k]
      cases p <;> rfl
    rw [repairEffects_node, if_pos h, resetPoints_meas, hmeas]
  · rw [repairEffects_node, if_neg (by rw [h]; decide)]
    exact healthRepaired_mfe s _ n

/-- An entry other than a node's reaches no health and no measurement record. -/
theorem repairEffects_other_readers (h : ∀ n, e ≠ .node n) : (s.repairEffects old e).rif = s.rif ∧ (s.repairEffects old e).mfe = s.mfe := by
  rcases repairEffects_other (s := s) (old := old) h with k | ⟨b, k⟩
  · rw [k]
    exact ⟨rfl, rfl⟩
  · rw [k]
    exact ⟨rif_of_outer (formCap_outer s b), mfe_of_outer (formCap_outer s b)⟩

theorem repairEffects_node_ses (s : State) (old : Tables) (n : NodeIx) : (s.repairEffects old (.node n)).ses = s.ses := by
  obtain ⟨v, w, h, -⟩ := repairEffects_node_rest s old n
  rw [h]

/-! ## The three requests put through (R170, R172, R174) -/

theorem writeEntry_fits (hc : r.code = 2) (ha : r.args = table :: entry :: image) (hi : imageSize table = some image.length) :
    lengthFits r = true := by
  unfold lengthFits
  rw [if_neg (fun k => by rw [ha] at k; exact absurd k.2 (by simp))]
  have hlen : argLength r.code r.args = some (image.length + 2) := by
    rw [hc, ha]
    exact congrArg (Option.map (fun n => n + 2)) hi
  rw [hlen, ha]
  exact beq_self_eq_true _

/-- A COMMIT that passes its tests (R172, R173, R176). -/
theorem commitTables_passed {sig : BitVec 32} (h : s.locked = false) (hn : firstInconsistent s.cfs.tables = none)
    (hs : signatureOf s.cfs.tables = sig) :
    s.commitTables sig = (if s.operating = true then s.recommit sig else s.enterOperate sig, done) := by
  rw [commitTables_unlocked h, hn]
  dsimp only
  rw [if_neg (not_not.2 hs)]
  split <;> rfl

theorem enterOperate_outcome (s : State) (sig : BitVec 32) : (∀ n, (s.enterOperate sig).health n = ⟨0, false, false⟩)
    ∧ (s.enterOperate sig).mfe = Mfe.reset ∧ (s.enterOperate sig).ses.budget = 0 ∧ (s.enterOperate sig).ses.berth = s.ses.berth
    ∧ (s.enterOperate sig).rob = s.rob ∧ (s.enterOperate sig).mbu = s.mbu ∧ (s.enterOperate sig).ctu = s.ctu
    ∧ (s.enterOperate sig).sup = s.sup :=
  ⟨fun n => vget_replicate Health.reset n, rfl, rfl, rfl, rfl, rfl, rfl, rfl⟩

theorem rests_iff : (vlist s.ses.berth).all restsForConfig = true ↔ ∀ b, (s.session b).state = .idle ∨ (s.session b).state = .faulted := by
  unfold vlist restsForConfig
  simp only [List.all_eq_true, List.mem_map, List.mem_finRange, true_and, forall_exists_index, forall_apply_eq_imp_iff, Bool.or_eq_true,
    beq_iff_eq]
  rfl

theorem requestConfig_config (h : s.operating = false) : s.requestConfig = (s, done) := if_neg (by rw [h]; decide)

theorem requestConfig_refused (ho : s.operating = true) (h : ∃ b, (s.session b).state ≠ .idle ∧ (s.session b).state ≠ .faulted) :
    s.requestConfig = (s, refused .state) := by
  obtain ⟨b, hi, hf⟩ := h
  refine (if_pos ho).trans (if_neg fun k => ?_)
  exact (rests_iff.1 k b).elim hi hf

theorem requestConfig_entered (ho : s.operating = true) (h : ∀ b, (s.session b).state = .idle ∨ (s.session b).state = .faulted) :
    s.requestConfig = (s.enterConfig, done) := (if_pos ho).trans (if_pos (rests_iff.2 h))

theorem owner_writeEntry (s : State) (ha : r.args = table :: entry :: image) :
    ownerOf 2 r.args s.quiet = s.quiet.writeEntry table entry image := by
  rw [ha]
  rfl

theorem owner_commit (s : State) (ha : r.args.length = 4) : ownerOf 3 r.args s.quiet = s.quiet.commitTables (BitVec.ofNat 32 (natOf r.args)) := by
  have htake : r.args.take 4 = r.args := List.take_of_length_le (Nat.le_of_eq ha)
  exact congrArg (fun a => s.quiet.commitTables (BitVec.ofNat 32 (natOf a))) htake

/-- What a repair write leaves besides health, measurement and cap (R170, R176). -/
theorem repaired_rest {t : State} (ht : (s.repaired T).repairEffects s.cfs.tables e = t) : t.cfs = { s.cfs with
        tables := T, walker := if s.cfs.walker.state = .verifying then { s.cfs.walker with state := .stopped } else s.cfs.walker }
      ∧ t.mrh = s.mrh ∧ t.mpm = s.mpm ∧ t.bsy = s.bsy ∧ t.rob = s.rob ∧ t.sup = s.sup ∧ t.ctu = s.ctu ∧ t.mbu = s.mbu := by
  obtain ⟨v, w, y, h⟩ := repairEffects_rest (s.repaired T) s.cfs.tables e
  rw [← repairWalker_eq, ← ht, h]
  exact ⟨rfl, rfl, rfl, rfl, rfl, rfl, rfl, rfl⟩

/-- What a repair write of a Node entry leaves of health, measurement and sessions (R13, R19). -/
theorem repaired_node {t : State} (ht : (s.repaired T).repairEffects s.cfs.tables (.node n) = t) : t.ses = s.ses ∧
    let a := s.nodeEntry n
    let c := t.nodeEntry n
    (a.role ≠ c.role ∨ a.target ≠ c.target ∨ a.limit ≠ c.limit →
        t.health n = ⟨0, false, false⟩ ∧ vget t.rif.fresh n = true ∧ ∀ i, i ≠ n → t.health i = s.health i)
      ∧ (a.role = c.role → a.target = c.target → a.limit = c.limit → t.rif = s.rif)
      ∧ (a.role ≠ c.role ∨ a.target ≠ c.target ∨ a.vfs ≠ c.vfs ∨ a.ifs ≠ c.ifs ∨ a.mirrored ≠ c.mirrored →
        ∀ p, t.meas p = if p ∈ pointsFedBy a ++ pointsFedBy c then MeasRecord.reset else s.meas p)
      ∧ (a.role = c.role → a.target = c.target → a.vfs = c.vfs → a.ifs = c.ifs → a.mirrored = c.mirrored → t.mfe = s.mfe) := by
  have hc : t.nodeEntry n = (s.repaired T).nodeEntry n := ht ▸ repairEffects_nodeEntry _ _ _ n
  obtain ⟨hh, hhs, hm, hms⟩ := repairEffects_node_readers (s.repaired T) s.cfs.tables n
  rw [ht] at hh hhs hm hms
  rw [← hc] at hh hhs hm hms
  refine ⟨ht ▸ repairEffects_node_ses _ _ n, fun h => ?_, fun h1 h2 h3 => hhs ?_, fun h p => ?_, fun h1 h2 h3 h4 h5 => hms ?_⟩
  · have hrif := hh (healthFieldsChange_iff.2 h)
    have hhealth (i : NodeIx) : t.health i = if i = n then Health.reset else s.health i := by
      unfold State.health
      rw [hrif]
      exact renewHealth_health (s.repaired T) n i
    refine ⟨(hhealth n).trans (if_pos rfl), ?_, fun i hi => (hhealth i).trans (if_neg hi)⟩
    rw [hrif, renewHealth_fresh, if_pos rfl]
  · exact Bool.not_eq_true _ ▸ fun k => (healthFieldsChange_iff.1 k).elim (· h1) (·.elim (· h2) (· h3))
  · refine (hm (measFieldsChange_iff.2 h) p).trans ?_
    cases p <;> rfl
  · exact Bool.not_eq_true _ ▸ fun k => (measFieldsChange_iff.1 k).elim (· h1)
      (·.elim (· h2) (·.elim (· h3) (·.elim (· h4) (· h5))))

/-- What a repair write that concerns a berth's rating leaves of the sessions (R104). -/
theorem repaired_cap {t : State} (h : e = .berth b ∨ ∃ m, e = .module m ∧ (s.module m).state = .bound ∧ (s.module m).berth = some b)
    (ht : (s.repaired T).repairEffects s.cfs.tables e = t) : (t.session b).sigma = t.boundRating b
      ∧ (t.session b).cap = t.boundRating b * (t.berthEntry b).loading.toNat / 100
      ∧ (t.session b).share = min (s.session b).share (t.session b).cap
      ∧ (t.session b).state = (s.session b).state ∧ ∀ i, i ≠ b → t.session i = s.session i := by
  have hf : (s.repaired T).formCap b = t := (repairEffects_cap (s := s.repaired T) h).symm.trans ht
  rw [← hf, formCap_session_self]
  exact ⟨rfl, rfl, rfl, rfl, fun i hi => formCap_session_ne _ hi⟩

theorem writeTableEntry_outcome (h : AtHead s r l) (hc : r.code = 2) (ha : r.args = table :: entry :: image)
    (hi : imageSize table = some image.length) {a : Answer} {t : State} (ho : s.quiet.writeEntry table entry image = (t, a)) :
    exec .writeTableEntry s = .next (t.answered r l a) :=
  next_owned h hc (writeEntry_fits hc ha hi) 2 ((owner_writeEntry s ha).trans ho)

theorem commit_outcome (h : AtHead s r l) (hc : r.code = 3) (ha : r.args.length = 4) {a : Answer} {t : State}
    (ho : s.quiet.commitTables (BitVec.ofNat 32 (natOf r.args)) = (t, a)) : exec .commit s = .next (t.answered r l a) :=
  next_owned h hc (fits_of_length hc (by decide) (by rw [ha]; rfl)) 3 ((owner_commit s ha).trans ho)

theorem enterConfiguration_outcome (h : AtHead s r l) (hc : r.code = 4) (ha : r.args = []) {a : Answer} {t : State}
    (ho : s.quiet.requestConfig = (t, a)) : exec .enterConfiguration s = .next (t.answered r l a) :=
  next_owned h hc (fits_of_length hc (by decide) (by rw [ha]; rfl)) 4 ho

/-- Settles O50: the three requests by their tests in order, and the store's tests by what each reads. -/
theorem configurationRequests : Obligations.ConfigurationRequests := by
  refine ⟨fun s r l table entry image h hc ha hi => ⟨fun hn => ?_, fun e he => ⟨fun hop hv => ?_, fun hl hr => ?_, fun hop hr => ?_,
      fun hop hv hr hk => ?_, fun hop hv hr hk => ?_⟩⟩,
    fun s r l h hc ha => ⟨fun hop hv => ?_, fun hl => ⟨fun e he => ?_, fun hn hs => ?_, fun hn hs => ?_⟩⟩,
    fun s r l h hc ha => ⟨fun hop => ?_, fun hop hb => ?_, fun hop hb => ?_⟩,
    fun s t => ⟨fun b => ?_, fun n => repairConflict_node, rfl, fun _ => rfl, fun _ => rfl, fun _ => rfl⟩,
    fun t => ⟨firstInconsistent_none, fun e he => firstInconsistent_some he⟩, allEntries_order,
    fun t => ⟨stationConsistent_iff, fun n => nodeConsistent_iff, fun b => berthConsistent_iff, fun m => moduleConsistent_iff,
      fun k => Bool.and_true _, fun i => reactionConsistent_iff i⟩⟩
  · exact writeTableEntry_outcome h hc ha hi (writeEntry_unnamed hn)
  · exact writeTableEntry_outcome h hc ha hi ((writeEntry_named he).trans (if_pos (locked_iff.2 ⟨hop, hv⟩)))
  · refine writeTableEntry_outcome h hc ha hi ((writeEntry_named he).trans ?_)
    rw [if_neg (by rw [locked_eq_false (s := s.quiet) hl]; decide)]
    exact if_pos (by change (!entryInRange (setEntryImage s.cfs.tables e image) e) = true; rw [hr]; rfl)
  · refine (writeTableEntry_outcome h hc ha hi (writeEntry_accepted he (locked_eq_false (s := s.quiet) (.inl hop)) hr
      fun k => absurd (hop.symm.trans k) (by decide))).trans ?_
    rw [acceptWrite_config (s := s.quiet) hop]
    rfl
  · refine writeTableEntry_outcome h hc ha hi ((writeEntry_named he).trans ?_)
    rw [if_neg (by rw [locked_eq_false (s := s.quiet) (.inr hv)]; decide)]
    rw [if_neg (by change ¬ (!entryInRange (setEntryImage s.cfs.tables e image) e) = true; rw [hr]; decide)]
    exact if_pos (Bool.and_eq_true_iff.2 ⟨hop, hk⟩)
  · refine ⟨_, writeTableEntry_outcome h hc ha hi (writeEntry_accepted he (locked_eq_false (s := s.quiet) (.inr hv)) hr fun _ => hk), ?_⟩
    rw [acceptWrite_operating (s := s.quiet) hop]
    generalize ht : State.repairEffects _ _ _ = t
    obtain ⟨hcfs, hmrh, hmpm, hbsy, hrob, hsup, hctu, hmbu⟩ := repaired_rest (s := s.quiet) ht
    refine ⟨hcfs, (answered_responses _ _ _ _).trans (by rw [hmrh]; rfl), hmpm, hbsy, hrob, hsup, hctu, hmbu, fun hn => ?_, fun n hn => ?_,
      fun b hb => ?_⟩
    · rw [← ht]
      exact repairEffects_other_readers (s := s.quiet.repaired _) hn
    · subst hn
      exact (repaired_node (s := s.quiet) ht : _)
    · exact (repaired_cap (s := s.quiet) hb ht : _)
  · exact commit_outcome h hc ha (commitTables_locked (locked_iff.2 ⟨hop, hv⟩))
  · refine commit_outcome h hc ha ((commitTables_unlocked (locked_eq_false (s := s.quiet) hl)).trans ?_)
    change (match firstInconsistent s.cfs.tables with | some e => _ | none => _) = _
    rw [he]
  · refine commit_outcome h hc ha ((commitTables_unlocked (locked_eq_false (s := s.quiet) hl)).trans ?_)
    rw [show firstInconsistent s.quiet.cfs.tables = none from hn]
    exact if_pos hs
  · refine ⟨_, commit_outcome h hc ha (commitTables_passed (s := s.quiet) (locked_eq_false hl) hn hs), ?_⟩
    by_cases hop : s.operating = true
    · rw [if_pos (show s.quiet.operating = true from hop)]
      refine ⟨?_, rfl, rfl, rfl, fun k => absurd (hop.symm.trans k) (by decide), fun _ => ?_⟩
      · exact of_decide_eq_true hop
      · exact ⟨hl.elim (fun k => absurd (hop.symm.trans k) (by decide)) id, rfl, rfl, rfl, rfl, rfl, rfl, rfl⟩
    · rw [if_neg (show ¬ s.quiet.operating = true from hop)]
      obtain ⟨hh, hmfe, hbudget, hberth, hrob, hmbu, hctu, hsup⟩ := enterOperate_outcome s.quiet (BitVec.ofNat 32 (natOf r.args))
      exact ⟨rfl, rfl, rfl, rfl, fun _ => ⟨rfl, rfl, rfl, rfl, hh, hmfe, hbudget, hberth, hrob, hmbu, hctu, hsup⟩, fun k => absurd k hop⟩
  · exact enterConfiguration_outcome h hc ha (requestConfig_config hop)
  · exact enterConfiguration_outcome h hc ha (requestConfig_refused hop hb)
  · refine ⟨_, enterConfiguration_outcome h hc ha (requestConfig_entered hop hb), ?_⟩
    obtain ⟨hcfs, hrif, hmfe, halloc, hses, hmeter, hbreaker⟩ := enterConfig_effects s.quiet
    have hresp : s.quiet.enterConfig.mrh.responses = s.mrh.responses := responses_of_mail (mail_of_shell (enterConfig_shell s.quiet))
    generalize s.quiet.enterConfig = t at *
    simp only [answered_responses, answered_cfs, answered_mfe, answered_mpm, answered_session, answered_meter, answered_breaker]
    rw [hcfs, hresp]
    refine ⟨rfl, rfl, rfl, rfl, rfl, rfl, fun n => ?_, hmfe, halloc, fun b => ?_, hmeter, hbreaker, rfl⟩
    · change vget t.rif.health n = _
      rw [hrif]
      exact resetHealth_health _ n
    · change (vget t.ses.berth b).state = _
      rw [hses]
      rfl
  · rw [← held_eq_length, ← waitingCount_eq]
    exact decide_eq_true_iff

end
end Sys2Proof.Machine

/-! PROOFS. What the units last reported (04 to 06): breakers' status, ready flag and offset, ships' state and output, modules' reported
fields. A delivery writes those of its unit alone, and nothing else that the part does writes any. -/

namespace Sys2Proof.Machine

open Sys2Proof

/-- What a breaker's unit last delivered (R75). -/
def reading (r : BreakerRecord) : BreakerStatus × Bool × Nat := (r.status, r.ready, r.offset)

/-- What a ship last delivered (R93). -/
def shipReading (r : Session) : ShipState × Int := (r.ship, r.shipOutput)

/-- What a module last delivered (R52). -/
def moduleReading (r : ModuleRecord) : ReportedState × Nat × BreakerStatus × Selector × Int :=
  (r.reported, r.kva, r.breaker, r.selector, r.output)

/-- Two states in which every unit has last reported the same. -/
structure SameReports (s t : State) : Prop where
  breaker : ∀ k, reading (t.breaker k) = reading (s.breaker k)
  ship : ∀ b, shipReading (t.session b) = shipReading (s.session b)
  module : ∀ m, moduleReading (t.module m) = moduleReading (s.module m)

section
variable {s t u : State} {b : Berth} {m : ModuleId} {k : Breaker}

theorem SameReports.refl (s : State) : SameReports s s := ⟨fun _ => rfl, fun _ => rfl, fun _ => rfl⟩

theorem SameReports.trans (h : SameReports s t) (i : SameReports t u) : SameReports s u :=
  ⟨fun k => (i.breaker k).trans (h.breaker k), fun b => (i.ship b).trans (h.ship b), fun m => (i.module m).trans (h.module m)⟩

theorem SameReports.of_blocks (hb : t.bsy = s.bsy) (hs : t.ses.berth = s.ses.berth) (hm : t.mpm.module = s.mpm.module) : SameReports s t := by
  refine ⟨fun k => ?_, fun b => ?_, fun m => ?_⟩
  · unfold State.breaker
    rw [hb]
  · unfold State.session
    rw [hs]
  · unfold State.module
    rw [hm]

theorem SameReports.ite {p : Prop} [Decidable p] (h : SameReports s t) (i : SameReports s u) : SameReports s (if p then t else u) := by
  split
  · exact h
  · exact i

/-! ## The setters -/

theorem SameReports.setSession (h : SameReports s t) {r : Session} (hr : shipReading r = shipReading (t.session b)) :
    SameReports s (t.setSession b r) := by
  refine h.trans ⟨fun k => by rw [setSession_breaker], fun c => ?_, fun m => by rw [setSession_module]⟩
  rw [setSession_session_eq]
  split
  case isTrue hc => rw [hr, hc]
  case isFalse => rfl

theorem SameReports.setBreaker (h : SameReports s t) {r : BreakerRecord} (hr : reading r = reading (t.breaker k)) :
    SameReports s (t.setBreaker k r) := by
  refine h.trans ⟨fun i => ?_, fun c => by rw [setBreaker_session], fun m => by rw [setBreaker_module]⟩
  rw [setBreaker_breaker_eq]
  split
  case isTrue hi => rw [hr, hi]
  case isFalse => rfl

theorem SameReports.setModule (h : SameReports s t) {r : ModuleRecord} (hr : moduleReading r = moduleReading (t.module m)) :
    SameReports s (t.setModule m r) := by
  refine h.trans ⟨fun k => by rw [setModule_breaker], fun c => by rw [setModule_session], fun i => ?_⟩
  rw [setModule_module_eq]
  split
  case isTrue hi => rw [hr, hi]
  case isFalse => rfl

theorem SameReports.setSync (h : SameReports s t) (r : SyncRecord) : SameReports s (t.setSync b r) :=
  h.trans ⟨fun k => by rw [setSync_breaker], fun c => by rw [setSync_session], fun m => by rw [setSync_module]⟩

theorem SameReports.setSuperv (h : SameReports s t) (r : Supervision) : SameReports s (t.setSuperv b r) := h.trans (.of_blocks rfl rfl rfl)
theorem SameReports.setOsc (h : SameReports s t) (r : Osc) : SameReports s (t.setOsc b r) := h.trans (.of_blocks rfl rfl rfl)
theorem SameReports.setMeas (h : SameReports s t) (p : Point) (r : MeasRecord) : SameReports s (t.setMeas p r) :=
  h.trans (by cases p <;> exact .of_blocks rfl rfl rfl)
theorem SameReports.latchBerth (h : SameReports s t) (f : BerthFlag) : SameReports s (t.latchBerth b f) := h.trans (.of_blocks rfl rfl rfl)
theorem SameReports.latchStation (h : SameReports s t) (f : StationFlag) : SameReports s (t.latchStation f) := h.trans (.of_blocks rfl rfl rfl)

theorem SameReports.billing (h : SameReports s t) (i : BillingOnly b t u) : SameReports s u := by
  obtain ⟨m, n, rfl⟩ := i.rest
  exact h.trans (.of_blocks rfl rfl rfl)

theorem SameReports.foldl {ι : Type} {f : State → ι → State} (hf : ∀ x i, SameReports x (f x i)) (l : List ι) (s : State) :
    SameReports s (l.foldl f s) := by
  induction l generalizing s with
  | nil => exact .refl s
  | cons i l ih => exact (hf s i).trans (ih _)

/-! ## The session's core (06) -/

theorem SameReports.oscEntry (h : SameReports s t) (st : SessionState) : SameReports s (t.oscEntry b st) := by
  unfold State.oscEntry
  split
  · exact h.setOsc _
  · exact h.setOsc _

theorem SameReports.enterState (h : SameReports s t) (st : SessionState) : SameReports s (t.enterState b st) := by
  unfold State.enterState
  exact ((h.setSession (b := b) (by rfl)).setSync _).oscEntry st |>.setSuperv _

theorem SameReports.formCap (h : SameReports s t) : SameReports s (t.formCap b) := h.setSession (by rfl)

theorem SameReports.pbCloseComplete (h : SameReports s t) : SameReports s (t.pbCloseComplete b) := by
  unfold State.pbCloseComplete
  exact .ite (((h.setSession (b := b) (by rfl)).billing (.startMetering (.refl b _) _ _ _)).setSync _) h

theorem SameReports.closeRequest (h : SameReports s t) (k : Breaker) : SameReports s (t.closeRequest k).1 := by
  unfold State.closeRequest
  dsimp only
  split
  · exact h.setBreaker (by rfl)
  all_goals exact h

theorem SameReports.openRequest (h : SameReports s t) (k : Breaker) : SameReports s (t.openRequest k).1 := by
  unfold State.openRequest
  dsimp only
  split
  · split
    · exact h
    · exact h.setBreaker (by rfl)
  · exact h
  · split
    · exact h
    · exact h.setBreaker (by rfl)

theorem SameReports.presentPbClose (h : SameReports s t) : SameReports s (t.presentPbClose b) := by
  have hr := h.closeRequest (.pb b)
  unfold State.presentPbClose
  dsimp only
  split
  · exact hr.setSession (by rfl)
  · exact hr.setSession (by rfl)
  · exact (hr.setSession (b := b) (by rfl)).pbCloseComplete
  · exact hr.setSession (by rfl)

theorem SameReports.idleEntry (h : SameReports s t) : SameReports s (t.idleEntry b) := ((h.enterState (b := b) .idle).setSession (by rfl)).latchBerth _

theorem SameReports.tryIdle (h : SameReports s t) : SameReports s (t.tryIdle b) := .ite h.idleEntry h

theorem SameReports.changeOfHoldings (h : SameReports s t) : SameReports s (t.changeOfHoldings b) := by
  have hr : SameReports s (t.recount b) := (h.setSession (b := b) (by rfl)).formCap
  rw [changeOfHoldings_eq]
  exact (SameReports.ite hr.presentPbClose hr).tryIdle

/-! ## The pool (04) -/

theorem SameReports.queueOp (h : SameReports s t) (op : QueuedOp) : SameReports s (t.queueOp m op) := h.trans (.of_blocks rfl rfl rfl)
theorem SameReports.removeOps (h : SameReports s t) (m : ModuleId) : SameReports s (t.removeOps m) := h.trans (.of_blocks rfl rfl rfl)
theorem SameReports.zeroAges (h : SameReports s t) (m : ModuleId) : SameReports s (t.zeroAges m) := h.trans (.of_blocks rfl rfl rfl)
theorem SameReports.queued (h : SameReports s t) (l : List AllocEntry) : SameReports s (t.queued l) := h.trans (.of_blocks rfl rfl rfl)

theorem SameReports.beginStopPhase (h : SameReports s t) : SameReports s (t.beginStopPhase m) := h.setModule (by rfl)

theorem SameReports.protect (h : SameReports s t) : SameReports s (t.protect m) :=
  .ite h (.ite ((h.setModule (m := m) (by rfl)).zeroAges m) h)

theorem SameReports.releaseOne (h : SameReports s t) : SameReports s (t.releaseOne m) := by
  have hs : SameReports s (t.stopping m) := (h.removeOps m).setModule (by rfl)
  cases hh : isHolding (t.module m) with
  | false => rwa [releaseOne_other hh]
  | true =>
    rw [releaseOne_holding hh]
    split
    · exact hs
    · exact hs.queueOp _
    · exact hs.queueOp _
    · exact .ite hs.beginStopPhase (hs.queueOp _)

theorem SameReports.releaseModules (h : SameReports s t) (l : List ModuleId) : SameReports s (t.releaseModules b l) := by
  have he : SameReports s (t.releaseEach l) := h.trans (.foldl (fun x i => SameReports.releaseOne (.refl x)) l t)
  rw [releaseModules_eq]
  exact .ite he.changeOfHoldings he

theorem SameReports.grantPresented (h : SameReports s t) (l : List ModuleId) : SameReports s (t.grantPresented b l) := by
  unfold State.grantPresented
  split
  · exact h.enterState _
  iterate 3 exact h.releaseModules l
  · exact h

theorem SameReports.pickAll (h : SameReports s t) (b : Berth) (n : Nat) : SameReports s (t.pickAll b n).1 := by
  induction n generalizing t with
  | zero => exact h
  | succ n ih =>
    unfold State.pickAll
    split
    · exact ih (h.setModule (by rfl))
    · exact h

theorem SameReports.grantHead (h : SameReports s t) (e : AllocEntry) : SameReports s (t.grantHead e) := by
  have hg : SameReports s (t.granted e) := (h.pickAll e.berth e.count).trans (.of_blocks rfl rfl rfl)
  rw [grantHead_eq]
  exact (hg.grantPresented _).changeOfHoldings

theorem SameReports.grantLoop (h : SameReports s t) (n : Nat) : SameReports s (t.grantLoop n) := by
  induction n generalizing t with
  | zero => exact h
  | succ n ih =>
    unfold State.grantLoop
    split
    · split
      · exact ih (h.grantHead _)
      · exact h
    · exact h

theorem SameReports.grantEvaluation (h : SameReports s t) : SameReports s t.grantEvaluation := .ite (h.grantLoop _) h

theorem SameReports.allocRequest (h : SameReports s t) (b : Berth) (n : Nat) (w : Urgency) : SameReports s (t.allocRequest b n w) := by
  obtain ⟨l, -, k | k⟩ := allocRequest_cases t b n w
  · rw [k]
    exact h.queued l
  · rw [k]
    exact (h.queued l).grantEvaluation

theorem SameReports.cancelAlloc (h : SameReports s t) (b : Berth) : SameReports s (t.cancelAlloc b) := by
  have hq : SameReports s (t.unqueued b) := h.trans (.of_blocks rfl rfl rfl)
  rcases cancelAlloc_cases t b with k | k
  · rwa [k]
  · rw [k]
    exact hq.grantEvaluation

theorem SameReports.cooldownEntry (h : SameReports s t) : SameReports s (t.cooldownEntry m) := by
  unfold State.cooldownEntry
  dsimp only
  split
  · exact (h.setModule (by rfl)).changeOfHoldings
  · exact h.setModule (by rfl)

theorem SameReports.failureHoldings (h : SameReports s t) (old : ModuleState) : SameReports s (t.failureHoldings b old) := by
  have hl : SameReports s (if old = .bound then t.latchBerth b .capacityLost else t) := .ite (h.latchBerth _) h
  unfold State.failureHoldings
  dsimp only
  exact (SameReports.ite (hl.allocRequest _ _ _) hl).changeOfHoldings

theorem SameReports.failed (h : SameReports s t) (c : FailureCause) : SameReports s (t.failed m c) := by
  have hp : SameReports s ((t.removeOps m).protect m) := (h.removeOps m).protect
  have hm : moduleReading (t.module m) = moduleReading (((t.removeOps m).protect m).module m) :=
    ((SameReports.protect ((SameReports.refl t).removeOps m)).module m).symm
  unfold State.failed
  refine SameReports.latchStation (hp.setModule (Eq.trans ?_ hm)) _
  unfold failedRecord protectedRecord
  split
  · rfl
  · split <;> rfl

theorem SameReports.failModule (h : SameReports s t) (c : FailureCause) : SameReports s (t.failModule m c) := by
  rcases failModule_cases t m c with k | ⟨b, old, k⟩
  · rw [k]
    exact h.failed c
  · rw [k]
    exact (h.failed c).failureHoldings old

theorem SameReports.tripModule (h : SameReports s t) : SameReports s (t.tripModule m) := by
  have hp : SameReports s ((t.removeOps m).protect m) := (h.removeOps m).protect
  have hs := SameReports.ite (p := isHolding (((t.removeOps m).protect m).module m) = true)
    (hp.setModule (m := m) (r := { ((t.removeOps m).protect m).module m with state := .stopping, stopPhase := false, stageTimer := 0 }) rfl)
    (.ite (p := (((t.removeOps m).protect m).module m).state = .stopping ∧ (((t.removeOps m).protect m).module m).stopPhase = true
      ∧ (((t.removeOps m).protect m).module m).op ≠ .none)
      (hp.setModule (m := m) (r := { ((t.removeOps m).protect m).module m with stopPhase := false, run := .run }) rfl) hp)
  unfold State.tripModule
  exact .ite hs.beginStopPhase hs

theorem SameReports.tripModules (h : SameReports s t) : SameReports s (t.tripModules b) := by
  have he : SameReports s (t.tripEach (t.modulesOf b)) := h.trans (.foldl (fun x i => SameReports.tripModule (.refl x)) _ t)
  rw [tripModules_eq]
  exact he.changeOfHoldings

theorem SameReports.moduleClosedReport (h : SameReports s t) : SameReports s (t.moduleClosedReport b) := by
  have hb : SameReports s (t.startBlanking b) := h.setSuperv _
  unfold State.moduleClosedReport
  exact .ite hb (hb.setSuperv _)

end
end Sys2Proof.Machine

/-! PROOFS. What the units last reported, kept by drains, trips, faults and presentations (05 to 07), and by the point cycles (02). -/

namespace Sys2Proof.Machine

open Sys2Proof

section
variable {s t u : State} {b : Berth} {m : ModuleId} {k : Breaker}

/-! ## Drains and partings (06) -/

theorem SameReports.drainReturn (h : SameReports s t) : SameReports s (t.drainReturn b) := by
  have hm : SameReports s (if (t.session b).metering then t.endMetering b .sessionEnd else t) :=
    .ite (h.billing (.endMetering (.refl b t) _)) h
  unfold State.drainReturn
  exact (hm.setSession (b := b) (by rfl)).releaseModules _

theorem SameReports.pbDrained (h : SameReports s t) : SameReports s (t.pbDrained b) := by
  unfold State.pbDrained
  exact ((h.setSession (b := b) (by rfl)).drainReturn).tryIdle

theorem SameReports.drainPb (h : SameReports s t) : SameReports s (t.drainPb b) := by
  have ho := (h.setSession (b := b) (r := { t.session b with drain := .pb }) (by rfl)).openRequest (.pb b)
  unfold State.drainPb
  exact .ite ho.pbDrained ho

theorem SameReports.sbDrained (h : SameReports s t) : SameReports s (t.sbDrained b) := by
  unfold State.sbDrained
  exact .ite ((h.setSession (b := b) (r := { t.session b with drain := .done }) (by rfl)).tryIdle) h.drainPb

theorem SameReports.enterDraining (h : SameReports s t) (w : EndReason) (x : Bool) : SameReports s (t.enterDraining b w x) := by
  have he := ((h.cancelAlloc b).setSession (b := b) (r := { (t.cancelAlloc b).session b with endReason := some w }) (by rfl)).enterState
    (b := b) .draining
  unfold State.enterDraining
  dsimp only
  generalize ((t.cancelAlloc b).setSession b { (t.cancelAlloc b).session b with endReason := some w }).enterState b .draining = v at *
  have ho := (he.setSession (b := b) (r := { v.session b with drain := .sb }) (by rfl)).openRequest (.sb b)
  exact .ite (.ite ho.sbDrained ho) he.drainPb

theorem SameReports.shipReturned (h : SameReports s t) : SameReports s (t.shipReturned b) := (h.enterState _).latchBerth _

theorem SameReports.partShip (h : SameReports s t) : SameReports s (t.partShip b) := by
  have ho := (h.enterState (b := b) .parting).openRequest (.sb b)
  unfold State.partShip
  exact .ite ho.shipReturned ho

/-! ## What a breaker's end brings to the session (06) -/

theorem SameReports.sbCloseComplete (h : SameReports s t) : SameReports s (t.sbCloseComplete b) :=
  .ite (.ite (h.enterState _) (h.enterState _)) h

theorem SameReports.sbOpenComplete (h : SameReports s t) : SameReports s (t.sbOpenComplete b) := by
  unfold State.sbOpenComplete
  split
  · exact .ite (h.enterState _) h
  · exact h.shipReturned
  · exact .ite h.sbDrained h
  · exact h

theorem SameReports.pbOpenComplete (h : SameReports s t) : SameReports s (t.pbOpenComplete b) := by
  unfold State.pbOpenComplete
  split
  · exact .ite h.pbDrained h
  · split
    · exact (h.billing (.endMetering (.refl b t) .fault)).setSession (by rfl)
    · exact h
  · exact h

theorem SameReports.closeComplete (h : SameReports s t) : SameReports s (t.closeComplete k) := by
  cases k
  · exact h.pbCloseComplete
  · exact h.sbCloseComplete

theorem SameReports.openComplete (h : SameReports s t) : SameReports s (t.openComplete k) := by
  cases k
  · exact h.pbOpenComplete
  · exact h.sbOpenComplete

theorem SameReports.pbUncommandedOpen (h : SameReports s t) : SameReports s (t.pbUncommandedOpen b) :=
  .ite (h.enterDraining _ _) (.ite (SameReports.drainReturn (h.setSession (b := b) (r := { t.session b with pbTaken := true }) (by rfl))) h)

theorem SameReports.uncommandedOpen (h : SameReports s t) : SameReports s (t.uncommandedOpen k) := by
  cases k
  · exact h.pbUncommandedOpen
  · exact .ite (h.enterState _) h

theorem SameReports.alignmentSuccess (h : SameReports s t) : SameReports s (t.alignmentSuccess b) := .ite ((h.enterState _).latchBerth _) h

/-! ## Faults (07) -/

theorem SameReports.concludeMeasurement (h : SameReports s t) (v : Option Nat) : SameReports s (t.concludeMeasurement k v) := by
  unfold State.concludeMeasurement
  exact .ite ((h.setBreaker (k := k) (by rfl)).latchBerth _) h

theorem SameReports.issueOpen (h : SameReports s t) : SameReports s (t.issueOpen k) := h.setBreaker (by rfl)
theorem SameReports.clearClose (h : SameReports s t) : SameReports s (t.clearClose k) := h.setBreaker (by rfl)
theorem SameReports.clearOpen (h : SameReports s t) : SameReports s (t.clearOpen k) := h.setBreaker (by rfl)

theorem SameReports.tripBreaker (h : SameReports s t) : SameReports s (t.tripBreaker k) := by
  unfold State.tripBreaker
  dsimp only
  split
  · exact (h.concludeMeasurement _).issueOpen
  · exact .ite h h.issueOpen
  · exact h

theorem SameReports.tripBreakers (h : SameReports s t) : SameReports s (t.tripBreakers b) := h.tripBreaker.tripBreaker.setSync _

theorem SameReports.enterFaulted (h : SameReports s t) : SameReports s (t.enterFaulted b) :=
  .ite h (((h.cancelAlloc b).enterState _).setSession (by rfl))

theorem SameReports.tripPbComplete (h : SameReports s t) : SameReports s (t.tripPbComplete b) := .ite h.pbOpenComplete h

theorem SameReports.setRestartTimer (h : SameReports s t) : SameReports s (t.setRestartTimer b) := h.setSuperv _

theorem SameReports.trip (h : SameReports s t) (x : FaultKind) (c : FaultClass) : SameReports s (t.trip b x c) := by
  have he : SameReports s (t.tripEntered b x c) := ((h.setSuperv _).tripBreakers).enterFaulted
  rw [trip_eq]
  exact (he.tripModules.tripPbComplete.latchBerth _).setRestartTimer

theorem SameReports.laterFault (h : SameReports s t) (x : FaultKind) (c : FaultClass) : SameReports s (t.laterFault b x c) := by
  have hl : SameReports s (t.laterTripped b x c) := (h.setSuperv _).tripBreakers
  rw [laterFault_eq]
  exact hl.tripModules.tripPbComplete.setRestartTimer.latchBerth _

theorem SameReports.fault (h : SameReports s t) (x : FaultKind) : SameReports s (t.fault b x) := by
  unfold State.fault
  split
  · exact h
  · split
    · exact (h.setSuperv _).latchBerth _
    · exact .ite (h.laterFault x _) (h.trip x _)

theorem SameReports.faultIf (h : SameReports s t) (w : Bool) (x : FaultKind) : SameReports s (t.faultIf w b x) := .ite (h.fault x) h

/-! ## A module's and a breaker's delivery -/

theorem SameReports.failedToCooldown (h : SameReports s t) : SameReports s (t.failedToCooldown m) := .ite h.cooldownEntry h

/-- The state rules of a module's delivery keep what every unit reported (R55, R57, R61, R69). -/
theorem SameReports.moduleDelivered (h : SameReports s t) (op : ModuleOp) (w : Bool) : SameReports s (t.moduleDelivered m op w) := by
  unfold State.moduleDelivered
  dsimp only
  split
  · split
    · have hb := h.setModule (m := m) (r := { t.module m with state := .bound, run := .run }) (by rfl)
      split
      · exact hb.changeOfHoldings.moduleClosedReport
      · exact hb
    · exact .ite (h.queueOp _) h
  · exact .ite (.ite h.cooldownEntry h) (.ite h.beginStopPhase h)
  · exact h.failedToCooldown
  · exact h
  · exact h
  · exact h
  · exact h

theorem SameReports.uncommandedOpenFault (h : SameReports s t) (w : SessionState) : SameReports s (t.uncommandedOpenFault k w) := by
  cases k
  · exact .ite h (h.fault _)
  · exact .ite (h.fault _) h

theorem SameReports.presentUncommandedOpen (h : SameReports s t) (w : Bool) : SameReports s (t.presentUncommandedOpen w k) :=
  .ite (h.uncommandedOpenFault _).uncommandedOpen (h.uncommandedOpen.uncommandedOpenFault _)

theorem SameReports.breakerReport (h : SameReports s t) (w : Bool) (old : BreakerRecord) (x : BreakerStatus) :
    SameReports s (t.breakerReport w k old x) := by
  have hb : SameReports s (t.startBlanking (breakerBerth k)) := h.setSuperv _
  unfold State.breakerReport
  dsimp only
  split
  · exact .ite h (.ite hb (hb.fault _))
  · exact .ite (h.presentUncommandedOpen w) h
  · exact .ite h (h.fault _)
  · exact h

theorem SameReports.commandEnd (h : SameReports s t) : SameReports s (t.commandEnd k) := by
  unfold State.commandEnd
  dsimp only
  split
  · have hc := (h.concludeMeasurement (k := k) (plausible (t.breakerEntry k) (measuredTime t.ext (t.breaker k).issue (t.breaker k).offset))).clearClose
      (k := k)
    unfold State.closeCompletes
    exact (SameReports.ite hc.issueOpen hc).closeComplete
  · exact .ite (h.concludeMeasurement _).clearClose.openComplete h
  · exact h.clearOpen.openComplete
  · exact h

/-! ## The point cycles (02) -/

theorem SameReports.superviseVoltage (h : SameReports s t) (p : Point) : SameReports s (t.superviseVoltage p) := by
  unfold State.superviseVoltage
  split
  · exact .ite ((h.setSuperv _).faultIf _ _) h
  · exact h

theorem SameReports.superviseFrequency (h : SameReports s t) (p : Point) : SameReports s (t.superviseFrequency p) := by
  unfold State.superviseFrequency
  split
  · split
    · exact .ite ((h.setSuperv _).faultIf _ _) h
    · exact h
  · exact h

theorem SameReports.superviseCurrent (h : SameReports s t) : SameReports s (t.superviseCurrent b) := .ite ((h.setSuperv _).faultIf _ _) h

theorem SameReports.shipCrossing (h : SameReports s t) (x : Ticks) : SameReports s (t.shipCrossing b x) := by
  have hi {v : State} (k : SameReports s v) : SameReports s (v.issueSyncClose b) := by
    unfold State.issueSyncClose State.syncCloseIssued
    exact ((k.closeRequest (.sb b)).setSync _).setSession (by rfl)
  rw [shipCrossing_eq]
  exact .ite (.ite (hi (h.setSync _)) (h.setSync _)) h

theorem SameReports.plugCrossing (h : SameReports s t) (x : Ticks) : SameReports s (t.plugCrossing b x) := by
  unfold State.plugCrossing
  dsimp only
  split
  · exact (h.setSync _).alignmentSuccess
  · exact (h.setSync _).fault _
  · exact h.setSync _

theorem SameReports.presentCrossing (h : SameReports s t) (p : Point) (n : Ext) (x : Ticks) : SameReports s (t.presentCrossing p n x) := by
  unfold State.presentCrossing
  split
  · exact ((h.setOsc _).superviseVoltage _).superviseFrequency _
  · exact ((h.plugCrossing x).superviseVoltage _).superviseFrequency _
  · exact (((h.setOsc _).shipCrossing x).superviseVoltage _).superviseFrequency _
  · exact h

theorem billing_substitutedCycle (s : State) (b : Berth) (n : Ext) : BillingOnly b s (s.substitutedCycle b n) := by
  have hf : BillingOnly b s (if hasHeld (s.meter b) && (s.meter b).heldFor != n then s.flushHeld b else s) :=
    .ite (.flushHeld (.refl b s)) (.refl b s)
  unfold State.substitutedCycle
  exact .ite (hf.setMeter _) hf

theorem SameReports.presentEveryCycle (h : SameReports s t) (p : Point) (n : Ext) (w : Bool) : SameReports s (t.presentEveryCycle p n w) := by
  unfold State.presentEveryCycle
  split
  · exact SameReports.superviseCurrent (.ite (h.billing (billing_substitutedCycle t _ n)) h)
  all_goals exact h

/-- A point cycle keeps what every unit reported. -/
theorem SameReports.runCycle (h : SameReports s t) (p : Point) (n : Ext) (e : NodeEntry) (x : Option (Tri Int × Tri Int)) :
    SameReports s (t.runCycle p n e x) := by
  have hs : SameReports s (t.sampled p n e x) := by
    obtain ⟨l, hl⟩ := sampled_eq t p n e x
    rw [hl]
    exact (h.setMeas p _).trans (.of_blocks rfl rfl rfl)
  unfold State.runCycle
  refine SameReports.presentEveryCycle ?_ _ _ _
  split
  · exact hs.presentCrossing _ _ _
  · exact hs

theorem SameReports.noCrossing (h : SameReports s t) (p : Point) : SameReports s (t.noCrossing p) := by
  unfold State.noCrossing
  split
  · exact .ite ((h.setMeas p _).superviseVoltage p) h
  · exact h

theorem SameReports.takeTimeout (h : SameReports s t) (p : Point) : SameReports s (t.takeTimeout p) := by
  have hd (l : List Due) : SameReports s { t with due := l } := h.trans (.of_blocks rfl rfl rfl)
  exact .ite ((hd _).noCrossing p) h

end
end Sys2Proof.Machine

/-! PROOFS. The ship interface's delivery (01, 06): the rewritten frame, the point cycles of P and S with their timeouts, the ship's
report, and the statement about it. -/

namespace Sys2Proof.Machine

open Sys2Proof

section
variable {s t u : State} {b : Berth} {k : FrameKind} {f : Arrival} {n : NodeIx}

/-! ## The frame that goes on (R1, R9) -/

theorem body_length_of_goodFrame (hk : hasSection k = true) (hg : GoodFrame s k f) : f.body.length = (sectionPlace k).1 + (sectionPlace k).2 := by
  obtain ⟨-, hw, hc⟩ := hg
  have hlen : f.body.length = f.length.toNat := of_decide_eq_true hw
  exact hlen.trans (body_length_of_good hk (Bool.and_eq_true_iff.1 hc).1)

/-- A frame forwarded rewritten keeps its header and its measurement part, and its CRC is good (R1, R9). -/
theorem forwarded_parts (u : State) (hk : hasSection k = true) (hg : GoodFrame s k f) (target : Byte) :
    let g := u.forwarded k target (arrivalFrame (nibbleOf k) f)
    g.dest = f.dest ∧ g.source = f.source ∧ g.kindByte = f.kindHigh ++ nibbleOf k ∧ g.length = f.length ∧ g.cycle = f.cycle
      ∧ g.crc = crc16 (headerBytes g ++ g.body) ∧ g.body.take (sectionPlace k).1 = f.body.take (sectionPlace k).1 := by
  have htake : (f.body.take (sectionPlace k).1).length = (sectionPlace k).1 := by
    rw [List.length_take, body_length_of_goodFrame hk hg, Nat.min_eq_left (Nat.le_add_right _ _)]
  dsimp only
  rw [forwarded_section hk, rewriteFrame_crc, rewriteFrame_body]
  refine ⟨rfl, rfl, rfl, rfl, rfl, rfl, ?_⟩
  exact List.take_left' htake

/-! ## No-crossing timeouts (R25) -/

/-- A point's record once its no-crossing timeout is taken (R25). -/
def State.timedOut (s : State) (p : Point) : MeasRecord :=
  match feedingNode s.cfs.tables p with
  | some i => if timeoutReached (s.meas p) then timeoutRecord (s.nodeEntry i).vfs.toNat (s.pointVnom p) (s.meas p) else s.meas p
  | none => s.meas p

theorem noCrossing_meas (s : State) (p q : Point) : (s.noCrossing p).meas q = if q = p then s.timedOut p else s.meas q := by
  have hself : s.meas q = if q = p then s.meas p else s.meas q := by
    split
    case isTrue h => rw [h]
    case isFalse => rfl
  unfold State.noCrossing State.timedOut
  cases feedingNode s.cfs.tables p with
  | none => exact hself
  | some i =>
    dsimp only
    split
    · rw [meas_of_mfe (mfe_of_outer (superviseVoltage_outer _ p)), setMeas_meas_eq]
    · exact hself

theorem takeTimeout_meas (s : State) (p q : Point) : (s.takeTimeout p).meas q
    = if q = p ∧ Due.noCrossingTimeout p ∈ s.due then s.timedOut p else s.meas q := by
  unfold State.takeTimeout
  by_cases h : Due.noCrossingTimeout p ∈ s.due
  · have hdue : ({ s with due := s.due.erase (.noCrossingTimeout p) } : State).timedOut p = s.timedOut p := by cases p <;> rfl
    have hmeas : ({ s with due := s.due.erase (.noCrossingTimeout p) } : State).meas q = s.meas q := by cases q <;> rfl
    rw [if_pos h, noCrossing_meas, hdue, hmeas]
    by_cases hq : q = p
    · rw [if_pos hq, if_pos ⟨hq, h⟩]
    · rw [if_neg hq, if_neg fun k => hq k.1]
  · rw [if_neg h, if_neg fun k => h k.2]

theorem timedOut_heldV (s : State) (p : Point) : (s.timedOut p).heldV = (s.meas p).heldV := by
  unfold State.timedOut
  split
  · split <;> rfl
  · rfl

theorem takeTimeout_heldV (s : State) (p q : Point) : ((s.takeTimeout p).meas q).heldV = (s.meas q).heldV := by
  rw [takeTimeout_meas]
  split
  case isTrue h => rw [timedOut_heldV, h.1]
  case isFalse => rfl

theorem takeTimeout_port (s : State) (p : Point) : port (s.takeTimeout p) = port s := by
  obtain ⟨m, l, h⟩ := takeTimeout_outer s p
  exact (port_of_outer h : _)

/-- The samples that a point holds after a delivery for it (R18, R21). -/
theorem runCycle_heldV (s : State) (p : Point) (n : Ext) (e : NodeEntry) (v i : Tri Int) : ((s.runCycle p n e (some (v, i))).meas p).heldV
    = triZip substitute (s.meas p).heldV (condition (flagOf e.mirrored) v) := by
  rw [runCycle_meas, if_pos rfl]
  obtain ⟨x, m, l, k, h⟩ := pointCycle_record p n e (s.pointVnom p) (some (v, i)) (s.meas p)
  rw [h]
  rfl

/-! ## The ship's report (R93, R107, R108, R111) -/

theorem siuReport_eq (s : State) (b : Berth) (ship : ShipState) (output : Int) : s.siuReport b ship output
    = if ship = .shipEsd ∧ (s.session b).ship ≠ .shipEsd then (s.shipReport b ship output).fault b .shipEsd else s.shipReport b ship output := by
  have h : (ship == .shipEsd && (s.session b).ship != .shipEsd) = true ↔ ship = .shipEsd ∧ (s.session b).ship ≠ .shipEsd := by simp
  unfold State.siuReport State.faultIf
  exact if_congr h rfl rfl

/-- The ship's state and output stored (R93). -/
def State.shipStored (s : State) (b : Berth) (ship : ShipState) (output : Int) : State :=
  s.setSession b { s.session b with ship := ship, shipOutput := output }

theorem shipStored_session (s : State) (b : Berth) (ship : ShipState) (output : Int) :
    (s.shipStored b ship output).session b = { s.session b with ship := ship, shipOutput := output } := setSession_session_self _ _ _

theorem shipReport_rampIn {ship : ShipState} {output : Int} (h : (s.session b).state = .rampIn) : s.shipReport b ship output
    = if ship = .genOff then ((s.setSession b (quietReport (s.berthEntry b).residual.toNat output
          { s.session b with ship := ship, shipOutput := output })).enterState b .shore).latchBerth b .shoreSupply
      else s.setSession b (quietReport (s.berthEntry b).residual.toNat output { s.session b with ship := ship, shipOutput := output }) := by
  unfold State.shipReport
  dsimp only
  rw [setSession_session_self, setSession_twice]
  split
  case h_1 => rfl
  case h_2 k => exact absurd (h.symm.trans k) (by decide)
  case h_3 k _ => exact absurd h k

theorem shipReport_recall {ship : ShipState} {output : Int} (h : (s.session b).state = .recall) : s.shipReport b ship output
    = if ship = .genParallel then (s.shipStored b ship output).recallEnd b else s.shipStored b ship output := by
  unfold State.shipReport
  dsimp only
  rw [setSession_session_self]
  split
  case h_1 k => exact absurd (h.symm.trans k) (by decide)
  case h_2 => rfl
  case h_3 _ k => exact absurd h k

theorem shipReport_other {ship : ShipState} {output : Int} (h : (s.session b).state ≠ .rampIn) (h2 : (s.session b).state ≠ .recall) :
    s.shipReport b ship output = s.shipStored b ship output := by
  unfold State.shipReport
  dsimp only
  rw [setSession_session_self]
  split
  case h_1 k => exact absurd k h
  case h_2 k => exact absurd k h2
  case h_3 => rfl

theorem quietReport_reading (n : Nat) (z : Int) (r : Session) : shipReading (quietReport n z r) = shipReading r := by
  unfold quietReport
  split <;> rfl

/-- What the ship delivered is held after its report, whatever the report brings (R93). -/
theorem shipReport_reading (s : State) (b : Berth) (ship : ShipState) (output : Int) :
    shipReading ((s.shipReport b ship output).session b) = (ship, output) := by
  have hstored : shipReading ((s.shipStored b ship output).session b) = (ship, output) := by rw [shipStored_session]; rfl
  by_cases hi : (s.session b).state = .rampIn
  · have hquiet : shipReading ((s.setSession b (quietReport (s.berthEntry b).residual.toNat output
        { s.session b with ship := ship, shipOutput := output })).session b) = (ship, output) := by
      rw [setSession_session_self, quietReport_reading]
      rfl
    rw [shipReport_rampIn hi]
    generalize s.setSession b _ = v at *
    split
    · exact ((SameReports.refl v).enterState .shore |>.latchBerth (b := b) .shoreSupply).ship b |>.trans hquiet
    · exact hquiet
  · by_cases hr : (s.session b).state = .recall
    · rw [shipReport_recall hr]
      split
      · exact (SameReports.setSession ((SameReports.refl (s.shipStored b ship output)).enterState .rampOut) (by rfl)).ship b |>.trans hstored
      · exact hstored
    · rw [shipReport_other hi hr]
      exact hstored

end
end Sys2Proof.Machine

/-! PROOFS. The statement about the ship interface's delivery (06): the point cycles of P and S, then the ship's report, then the
breaker's. -/

namespace Sys2Proof.Machine

open Sys2Proof

section
variable {s t u : State} {b : Berth} {k : Breaker} {f : Arrival} {n : NodeIx} {ship : ShipState} {output : Int}

/-- The breaker holds what its unit delivered, whatever the delivery brings (R75). -/
theorem breakerDelivery_reading (s : State) (first : Bool) (k : Breaker) (d : BreakerReport) :
    reading ((s.breakerDelivery first k d).breaker k) = (d.status, d.ready, d.offset) := by
  have h : SameReports (s.setBreaker k { s.breaker k with status := d.status, ready := d.ready, offset := d.offset })
      (s.breakerDelivery first k d) := ((SameReports.refl _).breakerReport first (s.breaker k) d.status).commandEnd
  refine (h.breaker k).trans ?_
  rw [setBreaker_breaker_self]
  rfl

theorem breakerDelivery_ship (s : State) (first : Bool) (k : Breaker) (d : BreakerReport) :
    shipReading ((s.breakerDelivery first k d).session b) = shipReading (s.session b) := by
  have h : SameReports (s.setBreaker k { s.breaker k with status := d.status, ready := d.ready, offset := d.offset })
      (s.breakerDelivery first k d) := ((SameReports.refl _).breakerReport first (s.breaker k) d.status).commandEnd
  refine (h.ship b).trans ?_
  rw [setBreaker_session]

theorem siuReport_reading (s : State) (b : Berth) (ship : ShipState) (output : Int) :
    shipReading ((s.siuReport b ship output).session b) = (ship, output) := by
  rw [siuReport_eq]
  split
  · exact ((SameReports.fault (.refl _) .shipEsd).ship b).trans (shipReport_reading s b ship output)
  · exact shipReport_reading s b ship output

/-! ## The point cycles of P and S (R20, R25) -/

/-- The point cycles that a ship interface's delivery gives, each with its timeout. -/
def State.shipCycles (s : State) (b : Berth) (n : Ext) (e : NodeEntry) (body : List Byte) : State :=
  ((((s.runCycle (.plug b) n e (some (samplesAt body 0, triOf 0))).takeTimeout (.plug b)).runCycle (.ship b) n e
    (some (samplesAt body 6, triOf 0))).takeTimeout (.ship b))

theorem shipCycles_port (s : State) (b : Berth) (n : Ext) (e : NodeEntry) (body : List Byte) : port (s.shipCycles b n e body) = port s :=
  (takeTimeout_port _ _).trans ((runCycle_port _ _ _ _ _).trans ((takeTimeout_port _ _).trans (runCycle_port _ _ _ _ _)))

theorem shipCycles_reports (s : State) (b : Berth) (n : Ext) (e : NodeEntry) (body : List Byte) : SameReports s (s.shipCycles b n e body) :=
  ((((SameReports.refl s).runCycle _ _ _ _).takeTimeout _).runCycle _ _ _ _).takeTimeout _

theorem shipCycles_heldV (s : State) (b : Berth) (n : Ext) (e : NodeEntry) (body : List Byte) :
    ((s.shipCycles b n e body).meas (.plug b)).heldV
        = triZip substitute (s.meas (.plug b)).heldV (condition (flagOf e.mirrored) (samplesAt body 0))
      ∧ ((s.shipCycles b n e body).meas (.ship b)).heldV
        = triZip substitute (s.meas (.ship b)).heldV (condition (flagOf e.mirrored) (samplesAt body 6)) := by
  have hps : Point.plug b ≠ .ship b := Point.noConfusion
  have hother (x : State) : (x.runCycle (.ship b) n e (some (samplesAt body 6, triOf 0))).meas (.plug b) = x.meas (.plug b) :=
    (runCycle_meas x _ _ _ _ _).trans (if_neg hps)
  have hother' (x : State) : (x.runCycle (.plug b) n e (some (samplesAt body 0, triOf 0))).meas (.ship b) = x.meas (.ship b) :=
    (runCycle_meas x _ _ _ _ _).trans (if_neg hps.symm)
  unfold State.shipCycles
  constructor
  · rw [takeTimeout_heldV, hother, takeTimeout_heldV, runCycle_heldV]
  · rw [takeTimeout_heldV, runCycle_heldV, takeTimeout_heldV, hother']

/-- A ship interface's delivery: the cycles, the ship's report and the breaker's (R8; entry 8). -/
theorem shipDelivery_eq {e : NodeEntry} (hb : berthOf e.target = some b) (o : DeliveryOrder) (body : List Byte) :
    s.shipDelivery o e body = ((s.shipCycles b s.ext e body).siuReport b (shipOf (s.session b).ship (byteAt body 12))
      (intOf (field body 13 4))).breakerDelivery o.supervisionFirst (.sb b)
        ⟨statusOf (byteAt body 17), readyOf (byteAt body 18), offsetOf (byteAt body 19)⟩ := by
  have hship : ((s.shipCycles b s.ext e body).session b).ship = (s.session b).ship :=
    congrArg Prod.fst ((shipCycles_reports s b s.ext e body).ship b)
  rw [← hship]
  unfold State.shipDelivery
  rw [hb]
  rfl

/-! ## The ship's report by the session's state (R107, R108, R111) -/

theorem shipReport_genOff (h : (s.session b).state = .rampIn) : let u := s.shipReport b .genOff output
    (u.session b).state = .shore ∧ (u.session b).share = 0 ∧ (u.session b).phase = .shoreSupply
      ∧ (u.session b).gensMayDisconnect = false ∧ (u.osc b).mode = .free ∧ u.isLatched (.berth b) 3 = true := by
  dsimp only
  rw [shipReport_rampIn h, if_pos rfl, latchBerth_session, latchBerth_osc]
  have hst : (quietReport (s.berthEntry b).residual.toNat output { s.session b with ship := .genOff, shipOutput := output }).state = .rampIn := by
    unfold quietReport
    split <;> exact h
  generalize quietReport _ _ _ = q at *
  rw [enterState_session_self, setSession_session_self, enterState_osc_self _ _ _ (by decide)]
  exact ⟨rfl, rfl, rfl, if_pos hst, changeMode_mode _ _, latchBerth_isLatched_self _ _ .shoreSupply⟩

theorem recallEnd_session (s : State) (b : Berth) : (s.recallEnd b).session b
    = { sessionAtEntry (s.berthEntry b) .rampOut (s.session b) with share := min (s.session b).cap (s.meas (.bus b)).lastPower.toNat } := by
  unfold State.recallEnd
  rw [setSession_session_self, enterState_session_self]

theorem shipReport_genParallel (h : (s.session b).state = .recall) : let u := s.shipReport b .genParallel output
    (u.session b).state = .rampOut ∧ ((u.session b).share : Int) = min ((s.session b).cap : Int) (max 0 (s.meas (.bus b)).lastPower)
      ∧ (u.session b).gensStart = false ∧ u.ses.budget = s.ses.budget := by
  dsimp only
  rw [shipReport_recall h, if_pos rfl, recallEnd_session, shipStored_session]
  refine ⟨rfl, ?_, if_pos h, ?_⟩
  · change ((min (s.session b).cap (s.meas (.bus b)).lastPower.toNat : Nat) : Int) = _
    rw [Nat.cast_min, Int.toNat_eq_max, max_comm]
  · exact enterState_budget (s.shipStored b .genParallel output) b .rampOut

theorem shipReport_quiet (h : (s.session b).state = .rampIn) (hs : ship ≠ .genOff) :
    (output ≤ (s.berthEntry b).residual.toNat → s.shipReport b ship output = s.setSession b { s.session b with
        ship := ship, shipOutput := output, quietCount := min 8000 ((s.session b).quietCount + 1),
        gensMayDisconnect := (s.session b).gensMayDisconnect || 8000 ≤ (s.session b).quietCount + 1 })
      ∧ ((s.berthEntry b).residual.toNat < output → s.shipReport b ship output = s.setSession b { s.session b with
        ship := ship, shipOutput := output, quietCount := 0, gensMayDisconnect := false }) := by
  rw [shipReport_rampIn h, if_neg hs]
  exact ⟨fun k => congrArg (s.setSession b) (if_pos k), fun k => congrArg (s.setSession b) (if_neg (not_le.2 k))⟩

/-- Settles O13: the delivery's parts in their order, and the ship's report by the session's state. -/
theorem siuDelivery : Obligations.SiuDelivery := by
  refine ⟨fun s o f n b h hg ht hruns hb => ?_, fun s b ship output => ?_⟩
  · intro e v p w
    refine ⟨_, exec_delivered h hg ht, ?_⟩
    obtain ⟨⟨r, hr⟩, -, hhealth, hext⟩ := arrived_eq s .siu n f
    have hd : (s.surveyed .siu f).deliver (arrivalOrder .siu o) .siu n f.body = (s.arrived .siu n f).shipDelivery o (s.nodeEntry n) f.body := by
      rw [deliver_surveyed, if_pos hruns]
      rfl
    have hE : (s.arrived .siu n f).ext = s.ext := hext
    have hsession : (s.arrived .siu n f).session b = s.session b := by
      rw [hr]
      rfl
    have hw : w = (s.arrived .siu n f).shipCycles b s.ext (s.nodeEntry n) f.body := rfl
    have hheld := shipCycles_heldV (s.arrived .siu n f) b s.ext (s.nodeEntry n) f.body
    rw [← hw, meas_arrived, meas_arrived] at hheld
    have hport := shipCycles_port (s.arrived .siu n f) b s.ext (s.nodeEntry n) f.body
    rw [← hw] at hport
    rw [hd, shipDelivery_eq hb, hE, hsession, ← hw]
    clear_value w
    have hparts (u : State) := forwarded_parts (k := .siu) u rfl hg (s.nodeEntry n).target
    obtain ⟨hplug, hsamples⟩ := hheld
    have hship : shipReading ((w.siuReport b (shipOf (s.session b).ship (byteAt f.body 12)) (intOf (field f.body 13 4))).session b) = _ :=
      siuReport_reading w b _ _
    generalize hx : w.siuReport b _ _ = x at *
    have hmfe : x.mfe = w.mfe := by rw [← hx, siuReport_mfe]
    have hrif : x.rif = w.rif := by rw [← hx, siuReport_rif]
    have hout : x.ringOut = w.ringOut := by rw [← hx, siuReport_ringOut]
    have hk := breakerDelivery_reading x o.supervisionFirst (.sb b)
      ⟨statusOf (byteAt f.body 17), readyOf (byteAt f.body 18), offsetOf (byteAt f.body 19)⟩
    have hs := (breakerDelivery_ship (b := b) x o.supervisionFirst (.sb b)
      ⟨statusOf (byteAt f.body 17), readyOf (byteAt f.body 18), offsetOf (byteAt f.body 19)⟩).trans hship
    have hout' := breakerDelivery_ringOut x o.supervisionFirst (.sb b)
      ⟨statusOf (byteAt f.body 17), readyOf (byteAt f.body 18), offsetOf (byteAt f.body 19)⟩
    have hrif' := breakerDelivery_rif x o.supervisionFirst (.sb b)
      ⟨statusOf (byteAt f.body 17), readyOf (byteAt f.body 18), offsetOf (byteAt f.body 19)⟩
    have hmfe' := breakerDelivery_mfe x o.supervisionFirst (.sb b)
      ⟨statusOf (byteAt f.body 17), readyOf (byteAt f.body 18), offsetOf (byteAt f.body 19)⟩
    generalize x.breakerDelivery _ _ _ = t at *
    refine ⟨congrArg Prod.fst hs, congrArg Prod.snd hs, congrArg (fun z => z.1) hk, congrArg (fun z => z.2.1) hk,
      congrArg (fun z => z.2.2) hk, ?_, ?_, ?_, ⟨_, ?_, (hparts _).2.1, (hparts _).2.2.2.2.1, (hparts _).2.2.2.2.2.2, rfl⟩⟩
    · rw [send_health]
      unfold State.health
      rw [hrif', hrif, rif_of_port hport]
      exact congrArg Health.delivered ((hhealth n).trans (if_pos rfl))
    · rw [send_meas, meas_of_mfe (hmfe'.trans hmfe)]
      exact hplug
    · rw [send_meas, meas_of_mfe (hmfe'.trans hmfe)]
      exact hsamples
    · have hnone : t.ringOut = [] := hout'.trans (hout.trans ((ringOut_of_port hport).trans (by rw [hr])))
      exact congrArg (· ++ _) hnone
  · intro r u
    refine ⟨siuReport_eq s b ship output, congrArg Prod.fst (shipReport_reading s b ship output),
      congrArg Prod.snd (shipReport_reading s b ship output), fun hst hn => shipReport_quiet hst hn, fun hst hn => ?_, fun hst hn => ?_,
      fun hst hn => ?_⟩
    · subst hn
      exact shipReport_genOff hst
    · subst hn
      exact shipReport_genParallel hst
    · by_cases hrec : (s.session b).state = .recall
      · exact (shipReport_recall hrec).trans (if_neg fun k => hn ⟨hrec, k⟩)
      · exact shipReport_other hst hrec

end
end Sys2Proof.Machine

/-! PROOFS. The end of a measurement second (02, 09): what closes write, and how meter, session and supervision take it. -/

namespace Sys2Proof.Machine

open Sys2Proof

section
variable {s t u : State} {b : Berth} {e : NodeEntry} {n : Ext}

/-! ## The close of a second (R30) -/

theorem closeSecond_complete (e : NodeEntry) {r : MeasRecord} (h : r.tally = 4000) : closeSecond (some e) r = { r with
    rawSum := r.acc, lastPower := (r.acc * e.vfs.toNat * e.ifs.toNat).tdiv (32767 ^ 2 * 4000 * 1000),
    lastSubst := r.substTally, acc := 0, tally := 0, substTally := 0 } := by
  unfold closeSecond
  dsimp only
  rw [if_pos h]
  rfl

theorem closeSecond_partial (e : Option NodeEntry) {r : MeasRecord} (h : r.tally ≠ 4000) :
    closeSecond e r = { r with acc := 0, tally := 0, substTally := 0 } := by
  unfold closeSecond
  cases e with
  | none => rfl
  | some e =>
    dsimp only
    rw [if_neg h]

theorem closeBus_complete (he : s.feedingEntry (.bus b) = some e) (h : (s.meas (.bus b)).tally = 4000) : s.closeBus b
    = (((s.setMeas (.bus b) (closeSecond (some e) (s.meas (.bus b)))).secondEndMeter b e).secondEndSession b).superviseReverse b := by
  unfold State.closeBus
  dsimp only
  rw [he]
  exact if_pos h

theorem closeBus_partial (h : (s.meas (.bus b)).tally ≠ 4000 ∨ s.feedingEntry (.bus b) = none) : s.closeBus b
    = s.setMeas (.bus b) (closeSecond (s.feedingEntry (.bus b)) (s.meas (.bus b))) := by
  unfold State.closeBus
  dsimp only
  split
  case h_1 x hx => exact if_neg (h.resolve_right (by rw [hx]; exact Option.some_ne_none x))
  case h_2 => rfl

/-- The close of B touches neither ring nor store, and of the front end its own record alone. -/
theorem closeBus_outer (b : Berth) (s : State) :
    outer (s.closeBus b) = outer (s.setMeas (.bus b) (closeSecond (s.feedingEntry (.bus b)) (s.meas (.bus b)))) := by
  cases he : s.feedingEntry (.bus b) with
  | none => rw [closeBus_partial (.inr he), he]
  | some e =>
    by_cases h : (s.meas (.bus b)).tally = 4000
    · rw [closeBus_complete he h]
      exact (superviseReverse_outer _ b).trans ((secondEndSession_outer _ b).trans (secondEndMeter_outer _ b e))
    · rw [closeBus_partial (.inl h), he]

theorem closeBus_meas (b : Berth) (s : State) (q : Point) : (s.closeBus b).meas q
    = if q = .bus b then closeSecond (s.feedingEntry (.bus b)) (s.meas (.bus b)) else s.meas q := by
  rw [meas_of_mfe (mfe_of_outer (closeBus_outer b s)), setMeas_meas_eq]

/-- What a second's end leaves as it is: the ring, the clock and the tables. -/
def aloof (s : State) : List RingFrame × Rif × Ctu × Cfs := (s.ringOut, s.rif, s.ctu, s.cfs)

theorem aloof_of_outer (h : outer t = outer s) : aloof t = aloof s := (congrArg aloof h :)

theorem closeBus_aloof (b : Berth) (s : State) : aloof (s.closeBus b) = aloof s := (aloof_of_outer (closeBus_outer b s)).trans rfl

theorem closes_aloof (s : State) : aloof (forEach State.closeBus s) = aloof s :=
  forEach_keeps (P := fun x => aloof x = aloof s) (fun b x h => (closeBus_aloof b x).trans h) rfl

theorem feedingEntry_of_aloof (h : aloof t = aloof s) (p : Point) : t.feedingEntry p = s.feedingEntry p := by
  have hc : t.cfs = s.cfs := congrArg (fun x => x.2.2.2) h
  unfold State.feedingEntry State.nodeEntry
  rw [hc]

/-- B of every berth closed (R30). -/
theorem closes_bus (s : State) (b : Berth) :
    (forEach State.closeBus s).meas (.bus b) = closeSecond (s.feedingEntry (.bus b)) (s.meas (.bus b)) := by
  obtain ⟨l, r, hlr⟩ := List.append_of_mem (List.mem_finRange b)
  have hnodup : (l ++ b :: r).Nodup := hlr ▸ List.nodup_finRange 4
  have hl : b ∉ l := fun k => (List.disjoint_of_nodup_append hnodup) k List.mem_cons_self
  have hr : b ∉ r := (List.nodup_cons.1 (List.nodup_append.1 hnodup).2.1).1
  have hbeside (l : List Berth) : ∀ x : State, b ∉ l → (l.foldl (fun x c => x.closeBus c) x).meas (.bus b) = x.meas (.bus b)
      ∧ aloof (l.foldl (fun x c => x.closeBus c) x) = aloof x := by
    induction l with
    | nil => exact fun x _ => ⟨rfl, rfl⟩
    | cons c l ih =>
      intro x hx
      obtain ⟨hc, hx⟩ : b ≠ c ∧ b ∉ l := by simpa using hx
      obtain ⟨h1, h2⟩ := ih (x.closeBus c) hx
      exact ⟨h1.trans ((closeBus_meas c x _).trans (if_neg fun k => hc (Point.bus.inj k))), h2.trans (closeBus_aloof c x)⟩
  obtain ⟨h1, h2⟩ := hbeside l s hl
  obtain ⟨h3, -⟩ := hbeside r ((l.foldl (fun x c => x.closeBus c) s).closeBus b) hr
  unfold forEach
  rw [hlr, List.foldl_append, List.foldl_cons, h3, closeBus_meas, if_pos rfl, feedingEntry_of_aloof h2, h1]

theorem closes_other (s : State) {p : Point} (h : ∀ b, p ≠ .bus b) : (forEach State.closeBus s).meas p = s.meas p :=
  forEach_keeps (P := fun x => x.meas p = s.meas p) (fun b x k => ((closeBus_meas b x p).trans (if_neg (h b))).trans k) rfl

/-- B of every berth and G closed (R30). -/
@[irreducible] def State.secondClosed (s : State) : State := (forEach State.closeBus s).closeIncomer

theorem secondClosed_meas (s : State) : (∀ b, s.secondClosed.meas (.bus b) = closeSecond (s.feedingEntry (.bus b)) (s.meas (.bus b)))
    ∧ s.secondClosed.meas .incomer = closeSecond (s.feedingEntry .incomer) (s.meas .incomer)
    ∧ ∀ b, s.secondClosed.meas (.plug b) = s.meas (.plug b) ∧ s.secondClosed.meas (.ship b) = s.meas (.ship b) := by
  have hfeed := feedingEntry_of_aloof (closes_aloof s) .incomer
  unfold State.secondClosed State.closeIncomer
  rw [hfeed, closes_other s (p := .incomer) fun _ => Point.noConfusion]
  refine ⟨fun b => ?_, ?_, fun b => ⟨?_, ?_⟩⟩
  · rw [setMeas_meas_eq, if_neg Point.noConfusion, closes_bus]
  · rw [setMeas_meas_eq, if_pos rfl]
  · rw [setMeas_meas_eq, if_neg Point.noConfusion, closes_other s fun _ => Point.noConfusion]
  · rw [setMeas_meas_eq, if_neg Point.noConfusion, closes_other s fun _ => Point.noConfusion]

theorem closeIncomer_aloof (s : State) : aloof s.closeIncomer = aloof s := rfl

theorem secondClosed_aloof (s : State) : aloof s.secondClosed = aloof s := by
  unfold State.secondClosed
  rw [closeIncomer_aloof, closes_aloof]

/-! ## Session and supervision at a second's end (R112, R128) -/

theorem secondEndSession_other (h : (s.session b).state ≠ .rampOut) : s.secondEndSession b = s := if_neg h

/-- The session's count of quiet seconds written (R112). -/
def State.quietCounted (s : State) (b : Berth) (n : Nat) : State := s.setSession b { s.session b with quietSeconds := n }

/-- In RAMP_OUT the second counts with share 0 and the power at or below the residual, and starts the count again otherwise (R112). -/
theorem secondEndSession_rampOut (h : (s.session b).state = .rampOut) : s.secondEndSession b
    = if (s.session b).share = 0 ∧ (s.meas (.bus b)).lastPower ≤ (s.berthEntry b).residual.toNat then
        if 1 ≤ (s.session b).quietSeconds then (s.quietCounted b 2).partShip b else s.quietCounted b 1
      else s.quietCounted b 0 := by
  refine (if_pos h).trans ?_
  by_cases hq : (s.session b).share = 0 ∧ (s.meas (.bus b)).lastPower ≤ (s.berthEntry b).residual.toNat
  · rw [if_pos hq]
    by_cases h1 : 1 ≤ (s.session b).quietSeconds
    · have hn : min 2 ((s.session b).quietSeconds + 1) = 2 := by omega
      rw [if_pos h1, if_pos hq, hn]
      rfl
    · have hn : min 2 ((s.session b).quietSeconds + 1) = 1 := by omega
      rw [if_neg h1, if_pos hq, hn]
      rfl
  · rw [if_neg hq, if_neg hq]
    rfl

theorem partShip_complete (hc : (s.breaker (.sb b)).command = .none) (hs : (s.breaker (.sb b)).status = .open) :
    s.partShip b = (s.enterState b .parting).shipReturned b := by
  unfold State.partShip
  rw [openRequest_none_open (by rw [enterState_breaker]; exact hc) (by rw [enterState_breaker]; exact hs)]
  rfl

theorem shipReturned_connected (s : State) (b : Berth) :
    ((s.shipReturned b).session b).state = .connected ∧ (s.shipReturned b).isLatched (.berth b) 4 = true := by
  unfold State.shipReturned
  rw [latchBerth_session, enterState_session_self]
  exact ⟨rfl, latchBerth_isLatched_self _ _ .shipReturned⟩

/-- PARTING entered with the open of SB asked for and not complete at once (R112). -/
theorem partShip_waiting (h : ((s.enterState b .parting).openRequest (.sb b)).2 = false) :
    s.partShip b = ((s.enterState b .parting).openRequest (.sb b)).1 := if_neg (by rw [h]; decide)

theorem partShip_parting (h : ((s.enterState b .parting).openRequest (.sb b)).2 = false) :
    ((s.partShip b).session b).state = .parting ∧ ((s.partShip b).session b).phase = .parting := by
  obtain ⟨r, hr⟩ := openRequest_eq (s.enterState b .parting) (.sb b)
  rw [partShip_waiting h, hr, setBreaker_session, enterState_session_self]
  exact ⟨rfl, rfl⟩

theorem partShip_issued (hc : (s.breaker (.sb b)).command = .none) (hs : (s.breaker (.sb b)).status ≠ .open) :
    ((s.partShip b).session b).state = .parting ∧ ((s.partShip b).session b).phase = .parting
      ∧ ((s.partShip b).breaker (.sb b)).command = .open := by
  have hrequest := openRequest_none_notOpen (s := s.enterState b .parting) (k := .sb b) (by rw [enterState_breaker]; exact hc)
    (by rw [enterState_breaker]; exact hs)
  have hwait : ((s.enterState b .parting).openRequest (.sb b)).2 = false := by rw [hrequest]
  obtain ⟨h1, h2⟩ := partShip_parting hwait
  refine ⟨h1, h2, ?_⟩
  rw [partShip_waiting hwait, hrequest]
  unfold State.issueOpen
  dsimp only
  rw [setBreaker_breaker_self]

theorem openRequest_inForce {k : Breaker} (h : (s.breaker k).command ≠ .none) : (s.openRequest k).2 = false := by
  unfold State.openRequest
  dsimp only
  split
  case h_1 hc => exact absurd hc h
  case h_2 => rfl
  case h_3 => split <;> rfl

end
end Sys2Proof.Machine

/-! PROOFS. A second taken by a meter (09), the headroom at a second's end (06), and the statement about the end of a measurement
second (02). -/

namespace Sys2Proof.Machine

open Sys2Proof

section
variable {s t u : State} {b : Berth} {e : NodeEntry} {m : Meter} {a : AcctBoundary} {o : OpenRecord}

/-! ## The second accrued (R152) -/

theorem accrueSecond_kept (raw : Int) (vfs ifs : Nat) (m : Meter) : (accrueSecond raw vfs ifs m).1.running = m.running
    ∧ (accrueSecond raw vfs ifs m).1.heldBlock = m.heldBlock ∧ (accrueSecond raw vfs ifs m).1.heldBoundary = m.heldBoundary
    ∧ (accrueSecond raw vfs ifs m).1.deferral = m.deferral := by
  unfold accrueSecond
  split
  · exact ⟨rfl, rfl, rfl, rfl⟩
  · split
    · exact ⟨rfl, rfl, rfl, rfl⟩
    · exact ⟨rfl, rfl, rfl, rfl⟩

theorem meterSecond_kept (lost : Bool) (raw : Int) (subst vfs ifs : Nat) (tag : Ext) (m : Meter) :
    let w := meterSecond lost raw subst vfs ifs tag m
    w.running = m.running ∧ w.heldBlock = m.heldBlock ∧ w.heldBoundary = m.heldBoundary ∧ w.deferral = m.deferral
      ∧ w.lastTag = some tag := by
  obtain ⟨h1, h2, h3, h4⟩ := accrueSecond_kept raw vfs ifs m
  dsimp only
  unfold meterSecond
  split
  · exact ⟨rfl, rfl, rfl, rfl, rfl⟩
  · exact ⟨h1, h2, h3, h4, rfl⟩

/-- A second taken by a meter whose gap count is below its bound (R152). -/
theorem meterSecond_eq (lost : Bool) (raw : Int) (subst vfs ifs : Nat) (tag : Ext) (h : ∀ o, m.record = some o → o.gap < 4294967295) :
    meterSecond lost raw subst vfs ifs tag m = if lost then { m with
        record := m.record.map (fun o => { o with gap := o.gap + 1 }), lastSecond := some ⟨0, .none, raw, subst, true⟩,
        lastTag := some tag }
      else { (accrueSecond raw vfs ifs m).1 with
        lastSecond := some ⟨(accrueSecond raw vfs ifs m).2.1, (accrueSecond raw vfs ifs m).2.2, raw, subst, false⟩, lastTag := some tag } := by
  have hgap : m.record.map (fun r => { r with gap := addWidth 32 r.gap 1 }) = m.record.map (fun o => { o with gap := o.gap + 1 }) := by
    cases hr : m.record with
    | none => rfl
    | some o =>
      have hlt := h o hr
      have hadd : addWidth 32 o.gap 1 = o.gap + 1 := addWidth_of_lt (by omega)
      exact congrArg some (congrArg (fun n => { o with gap := n }) hadd)
  unfold meterSecond
  rw [hgap]

theorem secondEndMeter_stopped (hr : (s.meter b).running = false) (hh : hasHeld (s.meter b) = false) : s.secondEndMeter b e = s := by
  unfold State.secondEndMeter
  rw [flushStale_of_fresh (.inl hh)]
  exact if_neg (by rw [hr]; decide)

/-- The meter's record of the second that ends. -/
def State.secondOf (s : State) (b : Berth) (e : NodeEntry) : Meter :=
  meterSecond (s.roleLost .muBerth b.val) (s.meas (.bus b)).rawSum (s.meas (.bus b)).lastSubst e.vfs.toNat e.ifs.toNat s.endedExt (s.meter b)

theorem secondEndMeter_running (hr : (s.meter b).running = true) (hf : FreshFor s.endedExt (s.meter b)) :
    s.secondEndMeter b e = (s.setMeter b (s.secondOf b e)).flushHeld b := by
  unfold State.secondEndMeter
  rw [flushStale_of_fresh hf]
  exact if_pos hr

/-! ## What a meter holds over, applied (R155) -/

theorem flushHeld_lastSecond (s : State) (b : Berth) : ((s.flushHeld b).meter b).lastSecond = (s.meter b).lastSecond := by
  obtain ⟨r, n, hm⟩ := heldApplied_meter (s.meter b)
  rw [flushHeld_eq, hm]
  split
  case h_1 a _ =>
    obtain ⟨q, p, d, ha⟩ := applyBoundary_meter
      (s.setMeter b { s.meter b with record := r, blockSum := n, heldBlock := none, heldBoundary := none }) b a
    rw [ha, setMeter_meter_self]
  case h_2 => rw [setMeter_meter_self]

theorem blockHeld_of_none (h : m.heldBoundary = none) : blockHeld m = { m with
    heldBlock := none, blockSum := 0, record := m.record.map (fun o => { o with peakDemand := max o.peakDemand m.blockSum }) } := by
  cases m
  cases h
  rfl

theorem heldApplied_record (hr : m.running = true) : (heldApplied m).record = m.record.map (fun o => { o with
    peakDemand := if m.heldBlock.isSome then max o.peakDemand m.blockSum else o.peakDemand }) := by
  cases hb : m.heldBlock with
  | none =>
    unfold heldApplied
    rw [hb]
    cases m.record <;> rfl
  | some x =>
    rw [heldApplied_block (by rw [hb]; rfl) hr]
    rfl

/-- A held boundary applied to a meter whose ring has room closes its record (R155, R158). -/
theorem flushHeld_closes (hr : (s.meter b).running = true) (ha : (s.meter b).heldBoundary = some a) (ho : (s.meter b).record = some o)
    (hd : (s.meter b).deferral = none) (hc : s.mbu.canPlace = true) : ∃ k, (s.flushHeld b).mbu.ring = s.mbu.ring ++ [k] ∧ k.berth = b
      ∧ k.reason = a.reason ∧ k.closedAt = a.time ∧ k.gap = o.gap
      ∧ k.entries = o.entries.map (fun y => ⟨y.band, y.price, y.importE, y.exportE, y.charge, y.tariff⟩)
      ∧ k.peakDemand = (if (s.meter b).heldBlock.isSome then max o.peakDemand (s.meter b).blockSum else o.peakDemand) := by
  obtain ⟨hdef, hrun, -, -⟩ := heldApplied_fields (s.meter b)
  have hself := setMeter_meter_self s b (heldApplied (s.meter b))
  have hrec := heldApplied_record hr
  rw [ho] at hrec
  rw [flushHeld_eq, ha]
  dsimp only
  rw [applyBoundary_placed (s := s.setMeter b (heldApplied (s.meter b))) (by rw [hself, hrun]; exact hr) (by rw [hself]; exact hrec) (by rw [hself, hdef]; exact hd) hc]
  exact ⟨_, rfl, rfl, rfl, rfl, rfl, rfl, rfl⟩

/-! ## A substituted cycle (R154) -/

theorem substitutedCycle_unheld {n : Ext} (h : hasHeld (s.meter b) = false ∨ (s.meter b).heldFor = n) : s.substitutedCycle b n
    = if (s.meter b).running = true ∧ s.roleLost .muBerth b.val = false then s.setMeter b { s.meter b with
        record := (s.meter b).record.map (fun o => { o with substituted := min 4294967295 (o.substituted + 1) }) } else s := by
  have hflush : (hasHeld (s.meter b) && (s.meter b).heldFor != n) = false := by
    rcases h with h | h <;> simp [h]
  have hs : (if hasHeld (s.meter b) && (s.meter b).heldFor != n then s.flushHeld b else s) = s := if_neg (by rw [hflush]; decide)
  have hp : ((s.meter b).running && !s.roleLost .muBerth b.val) = true ↔ (s.meter b).running = true ∧ s.roleLost .muBerth b.val = false := by
    simp
  unfold State.substitutedCycle
  rw [hs]
  exact if_congr hp rfl rfl

/-! ## The headroom (R105) -/

theorem touches_secondEndMeter (s : State) (b : Berth) (e : NodeEntry) : Touches anyBerth s (s.secondEndMeter b e) := by
  have h : Touches anyBerth s (s.flushStale b) := .ite (touches_flushHeld trivial s) (.refl _ s)
  exact .ite ((h.trans (touches_setMeter (b := b) trivial _ _)).trans (touches_flushHeld trivial _)) h

theorem touches_secondEndSession (s : State) (b : Berth) : Touches anyBerth s (s.secondEndSession b) := by
  have hq (n : Nat) : Touches anyBerth s (s.quietCounted b n) := touches_setSession (b := b) trivial s _
  by_cases h : (s.session b).state = .rampOut
  · rw [secondEndSession_rampOut h]
    exact .ite (.ite ((hq 2).trans (touches_partShip _ b)) (hq 1)) (hq 0)
  · rw [secondEndSession_other h]
    exact .refl _ s

theorem touches_superviseReverse (s : State) (b : Berth) : Touches anyBerth s (s.superviseReverse b) :=
  .ite ((touches_setSuperv (b := b) trivial s _).trans (touches_faultIf trivial _ (fun _ _ _ => trivial) _ _)) (.refl _ s)

theorem touches_setMeas (B : Berth → Prop) (s : State) (p : Point) (r : MeasRecord) : Touches B s (s.setMeas p r) := by
  obtain ⟨v, h⟩ := setMeas_rest s p r
  rw [h]
  exact ⟨fun c _ => ⟨rfl, rfl, rfl, rfl, rfl, rfl, rfl⟩, fun _ => ⟨rfl, rfl⟩, fun _ _ h => h, s.ses.berth, rfl⟩

theorem touches_closeBus (b : Berth) (s : State) : Touches anyBerth s (s.closeBus b) := by
  have hm := touches_setMeas anyBerth s (.bus b) (closeSecond (s.feedingEntry (.bus b)) (s.meas (.bus b)))
  cases he : s.feedingEntry (.bus b) with
  | none => rwa [closeBus_partial (.inr he)]
  | some e =>
    by_cases h : (s.meas (.bus b)).tally = 4000
    · rw [he] at hm
      rw [closeBus_complete he h]
      exact ((hm.trans (touches_secondEndMeter _ b e)).trans (touches_secondEndSession _ b)).trans (touches_superviseReverse _ b)
    · rwa [closeBus_partial (.inl h)]

theorem touches_secondClosed (s : State) : Touches anyBerth s s.secondClosed := by
  unfold State.secondClosed State.closeIncomer
  exact (Touches.forEach touches_closeBus s).trans (touches_setMeas _ _ _ _)

theorem touches_superviseVoltage (s : State) (p : Point) : Touches anyBerth s (s.superviseVoltage p) := by
  unfold State.superviseVoltage
  split
  case h_1 b _ =>
    exact .ite ((touches_setSuperv (b := b) trivial s _).trans (touches_faultIf trivial _ (fun _ _ _ => trivial) _ _)) (.refl _ s)
  case h_2 => exact .refl _ s

theorem touches_noCrossing (s : State) (p : Point) : Touches anyBerth s (s.noCrossing p) := by
  unfold State.noCrossing
  split
  · exact .ite ((touches_setMeas _ s p _).trans (touches_superviseVoltage _ p)) (.refl _ s)
  · exact .refl _ s

theorem touches_due (B : Berth → Prop) (s : State) (l : List Due) : Touches B s { s with due := l } :=
  ⟨fun _ _ => ⟨rfl, rfl, rfl, rfl, rfl, rfl, rfl⟩, fun _ => ⟨rfl, rfl⟩, fun _ _ h => h, s.ses.berth, rfl⟩

theorem touches_takeTimeouts (s : State) : Touches anyBerth s s.takeTimeouts :=
  .foldl (fun x p => .ite ((touches_due _ x _).trans (touches_noCrossing _ p)) (.refl _ x)) _ (.refl _ s)

end
end Sys2Proof.Machine

/-! PROOFS. The headroom refresh (06) and the statement about the end of a measurement second (02). -/

namespace Sys2Proof.Machine

open Sys2Proof

section
variable {s t u : State} {b : Berth}

/-- The event's own command runs the end of the second in the order that it names. -/
theorem exec_secondEnd (h : DueNow s .measurementSecondEnd) (first : Bool) :
    exec (.measurementSecondEnd first) s = .next ((s.without .measurementSecondEnd).secondEnd first) := by
  change Host.Outcome.next (s.inside fun s => s.takeIfDue first .measurementSecondEnd) = _
  rw [inside_of_released h.1, takeIfDue_of_due h]
  rfl

/-- The closes and the headroom refresh in the order given (R30, R105). -/
def State.secondEnded (u : State) (first : Bool) : State := if first then u.refresh.secondClosed else u.secondClosed.refresh

theorem secondEnd_eq (s : State) (first : Bool) :
    s.secondEnd first = s.takeTimeouts.secondEnded first := by
  unfold State.secondEnd State.secondEnded State.secondClosed
  dsimp only
  split
  · rfl
  · rfl

/-! ## The headroom refresh (R105) -/

theorem refresh_aloof (s : State) : aloof s.refresh = aloof s := aloof_of_outer (refresh_outer s)

theorem refresh_config (h : s.operating = false) : s.refresh = s := if_neg (by rw [h]; decide)

theorem importNow_eq (s : State) : s.importNow = if (feedingNode s.cfs.tables .incomer).isSome then (s.meas .incomer).lastPower
    else (s.meas (.bus 0)).lastPower + (s.meas (.bus 1)).lastPower + (s.meas (.bus 2)).lastPower + (s.meas (.bus 3)).lastPower := by
  have hsum : (List.finRange 4).foldl (fun acc b => acc + (s.meas (.bus b)).lastPower) 0
      = 0 + (s.meas (.bus 0)).lastPower + (s.meas (.bus 1)).lastPower + (s.meas (.bus 2)).lastPower + (s.meas (.bus 3)).lastPower := rfl
  unfold State.importNow State.hasIncomer
  rw [hsum, zero_add]

/-- What a refresh takes (R105). -/
theorem refresh_headroom (h : s.operating = true) :
    s.refresh.ses.incomerLost = s.roleLost .muIncomer 0 ∧ s.refresh.ses.stationImport = s.importNow
      ∧ s.refresh.ses.budget
        = (if s.roleLost .muIncomer 0 then 0 else ((s.cfs.tables.station.importLimit.toNat : Int) - s.importNow).toNat)
      ∧ (s.roleLost .muIncomer 0 = false → (s.cfs.tables.station.importLimit.toNat : Int) < s.importNow →
        s.refresh.isLatched .station 6 = true) := by
  unfold State.refresh
  rw [if_pos h]
  dsimp only
  split
  case isTrue hl => exact ⟨rfl, rfl, rfl, fun _ _ => latchStation_isLatched_self _ .importHigh⟩
  case isFalse hl => exact ⟨rfl, rfl, rfl, fun h1 h2 => absurd ⟨h1, h2⟩ hl⟩

/-- Two states with the same headroom. -/
theorem Touches.headroom_same {B : Berth → Prop} (h : Touches B s t) : t.ses.incomerLost = s.ses.incomerLost
    ∧ t.ses.stationImport = s.ses.stationImport ∧ t.ses.budget = s.ses.budget := by
  obtain ⟨v, hv⟩ := h.headroom
  rw [hv]
  exact ⟨rfl, rfl, rfl⟩

theorem operating_of_aloof (h : aloof t = aloof s) : t.operating = s.operating := by
  have hc : t.cfs = s.cfs := congrArg (fun x => x.2.2.2) h
  unfold State.operating
  rw [hc]

theorem roleLost_of_aloof (h : aloof t = aloof s) (r : Role) (n : Nat) : t.roleLost r n = s.roleLost r n :=
  roleLost_of (congrArg (fun x => x.2.1) h) (congrArg (fun x => x.2.2.2) h) r n

theorem takeTimeouts_aloof (s : State) : aloof s.takeTimeouts = aloof s := by
  obtain ⟨m, l, h⟩ := takeTimeouts_outer s
  exact (aloof_of_outer h : _)

theorem secondClosed_meas_same (h : aloof t = aloof s) (hm : t.mfe = s.mfe) (p : Point) : t.secondClosed.meas p = s.secondClosed.meas p := by
  obtain ⟨hb, hg, ho⟩ := secondClosed_meas t
  obtain ⟨kb, kg, ko⟩ := secondClosed_meas s
  cases p with
  | bus b => rw [hb, kb, feedingEntry_of_aloof h, meas_of_mfe hm]
  | incomer => rw [hg, kg, feedingEntry_of_aloof h, meas_of_mfe hm]
  | plug b => rw [(ho b).1, (ko b).1, meas_of_mfe hm]
  | ship b => rw [(ho b).2, (ko b).2, meas_of_mfe hm]

theorem secondEnded_aloof (u : State) (first : Bool) : aloof (u.secondEnded first) = aloof u := by
  unfold State.secondEnded
  split
  · exact (secondClosed_aloof _).trans (refresh_aloof u)
  · exact (refresh_aloof _).trans (secondClosed_aloof u)

theorem secondEnded_meas (u : State) (first : Bool) (p : Point) : (u.secondEnded first).meas p = u.secondClosed.meas p := by
  unfold State.secondEnded
  split
  · exact secondClosed_meas_same (refresh_aloof u) (refresh_mfe u) p
  · exact meas_of_mfe (refresh_mfe _) p

/-- The headroom after the end of a second in OPERATE, from the powers before or after the closes (R105). -/
theorem secondEnded_headroom (h : u.operating = true) (first : Bool) :
    let t := u.secondEnded first
    let x := if first then u else u.secondClosed
    t.ses.incomerLost = u.roleLost .muIncomer 0 ∧ t.ses.stationImport = x.importNow
      ∧ t.ses.budget = (if u.roleLost .muIncomer 0 then 0 else ((u.cfs.tables.station.importLimit.toNat : Int) - x.importNow).toNat)
      ∧ (u.roleLost .muIncomer 0 = false → (u.cfs.tables.station.importLimit.toNat : Int) < x.importNow →
        t.isLatched .station 6 = true) := by
  unfold State.secondEnded
  cases first with
  | true =>
    have htouch := touches_secondClosed u.refresh
    obtain ⟨h1, h2, h3⟩ := htouch.headroom_same
    obtain ⟨k1, k2, k3, k4⟩ := refresh_headroom h
    rw [if_pos rfl, if_pos rfl]
    exact ⟨h1.trans k1, h2.trans k2, h3.trans k3, fun a b => htouch.latched _ _ (k4 a b)⟩
  | false =>
    have ha := secondClosed_aloof u
    obtain ⟨k1, k2, k3, k4⟩ := refresh_headroom ((operating_of_aloof ha).trans h)
    have hcfs : u.secondClosed.cfs = u.cfs := congrArg (fun x => x.2.2.2) ha
    rw [roleLost_of_aloof ha] at k1 k3 k4
    rw [hcfs] at k3 k4
    rw [if_neg (by decide), if_neg (by decide)]
    exact ⟨k1, k2, k3, k4⟩

theorem secondEnded_config (h : u.operating = false) (first : Bool) :
    let t := u.secondEnded first
    t.ses.incomerLost = u.ses.incomerLost ∧ t.ses.stationImport = u.ses.stationImport ∧ t.ses.budget = u.ses.budget := by
  unfold State.secondEnded
  cases first with
  | true =>
    rw [if_pos rfl, refresh_config h]
    exact (touches_secondClosed u).headroom_same
  | false =>
    rw [if_neg (by decide), refresh_config ((operating_of_aloof (secondClosed_aloof u)).trans h)]
    exact (touches_secondClosed u).headroom_same

end
end Sys2Proof.Machine

/-! PROOFS. The statement about the end of a measurement second (02). -/

namespace Sys2Proof.Machine

open Sys2Proof

section
variable {s t u : State} {b : Berth} {e : NodeEntry}

/-- The state and the headroom that a second's end leaves, from the state with the due timeouts taken. -/
theorem secondEnd_outcome (h : aloof u = aloof s) (hh : u.ses.incomerLost = s.ses.incomerLost
    ∧ u.ses.stationImport = s.ses.stationImport ∧ u.ses.budget = s.ses.budget) (first : Bool) :
    let t := u.secondEnded first
    (∀ b, t.meas (.bus b) = closeSecond (s.feedingEntry (.bus b)) (u.meas (.bus b)))
      ∧ t.meas .incomer = closeSecond (s.feedingEntry .incomer) (u.meas .incomer)
      ∧ (∀ b, t.meas (.plug b) = u.meas (.plug b) ∧ t.meas (.ship b) = u.meas (.ship b))
      ∧ t.rif = s.rif ∧ t.ctu = s.ctu ∧ t.cfs = s.cfs ∧ t.ringOut = s.ringOut
      ∧ (s.operating = true →
        let power (p : Point) : Int := if first then (u.meas p).lastPower else (t.meas p).lastPower
        let imported : Int :=
          if (feedingNode s.cfs.tables .incomer).isSome then power .incomer
          else power (.bus 0) + power (.bus 1) + power (.bus 2) + power (.bus 3)
        let limit := s.cfs.tables.station.importLimit.toNat
        t.ses.incomerLost = s.roleLost .muIncomer 0 ∧ t.ses.stationImport = imported
          ∧ t.ses.budget = (if s.roleLost .muIncomer 0 then 0 else ((limit : Int) - imported).toNat)
          ∧ (s.roleLost .muIncomer 0 = false → (limit : Int) < imported → t.isLatched .station 6 = true))
      ∧ (s.operating = false → t.ses.incomerLost = s.ses.incomerLost ∧ t.ses.stationImport = s.ses.stationImport
        ∧ t.ses.budget = s.ses.budget) := by
  intro t
  have haloof : aloof t = aloof s := (secondEnded_aloof u first).trans h
  have hmeas (p : Point) : t.meas p = u.secondClosed.meas p := secondEnded_meas u first p
  obtain ⟨hbus, hincomer, hothers⟩ := secondClosed_meas u
  have hcfs : u.cfs = s.cfs := congrArg (fun x => x.2.2.2) h
  refine ⟨fun b => ?_, ?_, fun b => ⟨?_, ?_⟩, congrArg (fun x => x.2.1) haloof, congrArg (fun x => x.2.2.1) haloof,
    congrArg (fun x => x.2.2.2) haloof, congrArg (fun x => x.1) haloof, fun hop => ?_, fun hop => ?_⟩
  · rw [hmeas, hbus, feedingEntry_of_aloof h]
  · rw [hmeas, hincomer, feedingEntry_of_aloof h]
  · rw [hmeas, (hothers b).1]
  · rw [hmeas, (hothers b).2]
  · have himport : (if first then u else u.secondClosed).importNow
        = if (feedingNode s.cfs.tables .incomer).isSome then (if first then (u.meas .incomer).lastPower else (t.meas .incomer).lastPower)
          else (if first then (u.meas (.bus 0)).lastPower else (t.meas (.bus 0)).lastPower)
            + (if first then (u.meas (.bus 1)).lastPower else (t.meas (.bus 1)).lastPower)
            + (if first then (u.meas (.bus 2)).lastPower else (t.meas (.bus 2)).lastPower)
            + (if first then (u.meas (.bus 3)).lastPower else (t.meas (.bus 3)).lastPower) := by
      cases first with
      | true =>
        simp only [if_true]
        rw [importNow_eq, hcfs]
      | false =>
        have hc : u.secondClosed.cfs = s.cfs := congrArg (fun x => x.2.2.2) ((secondClosed_aloof u).trans h)
        simp only [Bool.false_eq_true, if_false, hmeas]
        rw [importNow_eq, hc]
    have hhead := secondEnded_headroom ((operating_of_aloof h).trans hop) first
    dsimp only at hhead ⊢
    rw [himport, roleLost_of_aloof h, hcfs] at hhead
    exact hhead
  · obtain ⟨h1, h2, h3⟩ := secondEnded_config ((operating_of_aloof h).trans hop) first
    obtain ⟨k1, k2, k3⟩ := hh
    exact ⟨h1.trans k1, h2.trans k2, h3.trans k3⟩

/-- A point's due timeout taken (R20, R25). -/
theorem takeTimeout_record {p : Point} {i : NodeIx} (hd : Due.noCrossingTimeout p ∈ s.due) (hi : feedingNode s.cfs.tables p = some i)
    (hc : 101 ≤ (s.meas p).window.count) :
    (s.takeTimeout p).meas p = timeoutRecord (s.nodeEntry i).vfs.toNat (s.pointVnom p) (s.meas p) := by
  rw [takeTimeout_meas, if_pos ⟨rfl, hd⟩]
  unfold State.timedOut
  rw [hi]
  exact if_pos (decide_eq_true hc)

/-- Settles O17: the closes and the refresh in either order, and what each close presents. -/
theorem measurementSecondEnd_closes : Obligations.MeasurementSecondEnd := by
  refine ⟨fun s first h => ?_, fun s p i hd hi hc => takeTimeout_record hd hi hc, fun s h p => by rw [takeTimeouts_eq_self h],
    fun e r h => closeSecond_complete e h, fun e r h => closeSecond_partial e h, fun s first h => ?_,
    fun s b => ⟨fun e he h => closeBus_complete he h, fun h => closeBus_partial h⟩, fun s b e => ?meter, fun s b => ?session,
    fun s b n h => ?_⟩
  · refine ⟨_, exec_secondEnd h first, ?_⟩
    rw [secondEnd_eq]
    have hu : aloof (s.without .measurementSecondEnd).takeTimeouts = aloof (s.without .measurementSecondEnd) := takeTimeouts_aloof _
    have hh := (touches_takeTimeouts (s.without .measurementSecondEnd)).headroom_same
    generalize (s.without .measurementSecondEnd).takeTimeouts = u at *
    exact (secondEnd_outcome hu hh first : _)
  · refine (exec_secondEnd h first).trans (congrArg Host.Outcome.next ?_)
    rw [secondEnd_eq]
    generalize (s.without .measurementSecondEnd).takeTimeouts = u
    unfold State.secondEnded State.secondClosed
    rfl
  case meter =>
    intro m r x lost w u
    refine ⟨fun hr hh => secondEndMeter_stopped hr hh, fun hr hg => ?_⟩
    have hw : s.secondOf b e = w := meterSecond_eq _ _ _ _ _ _ hg
    obtain ⟨hrun, hblock, hbound, hdef, htag⟩ := meterSecond_kept lost r.rawSum r.lastSubst e.vfs.toNat e.ifs.toNat s.endedExt m
    rw [show meterSecond lost r.rawSum r.lastSubst e.vfs.toNat e.ifs.toNat s.endedExt m = w from hw] at hrun hblock hbound hdef htag
    have hself : (s.setMeter b w).meter b = w := setMeter_meter_self s b w
    clear_value w
    have hu (hf : FreshFor s.endedExt m) : u = (s.setMeter b w).flushHeld b := (secondEndMeter_running hr hf).trans (by rw [hw])
    clear_value u
    refine ⟨fun hh => ?_, fun hfor => ?_⟩
    · rw [hu (.inl hh)]
      refine flushHeld_of_none ?_
      rw [hself]
      unfold hasHeld
      rw [hblock, hbound]
      exact hh
    · rw [hu (.inr hfor)]
      obtain ⟨h1, -, h3⟩ := flushHeld_meter (s.setMeter b w) b
      have h4 := flushHeld_lastSecond (s.setMeter b w) b
      rw [hself] at h3 h4
      refine ⟨h1, h3.trans htag, h4, fun hb => ?_, fun hb hn => ?_, fun a o ha ho hd hlen hnum => ?_⟩
      · exact flushHeld_blockSum (by rw [hself, hblock]; exact hb) (by rw [hself, hrun]; exact hr)
      · rw [flushHeld_block_only (by rw [hself, hblock]; exact hb) (by rw [hself, hrun]; exact hr) (by rw [hself, hbound]; exact hn), hself,
          setMeter_twice, blockHeld_of_none (hbound.trans hn)]
      · have hclose := flushHeld_closes (s := s.setMeter b w) (b := b) (by rw [hself, hrun]; exact hr) (by rw [hself, hbound]; exact ha)
          (by rw [hself]; exact ho) (by rw [hself, hdef]; exact hd) (canPlace_iff _ |>.2 ⟨hlen, hnum⟩)
        rw [hself, hblock] at hclose
        exact hclose
  case session =>
    intro r u quiet
    have hq : (s.quietCounted b 2).breaker (.sb b) = s.breaker (.sb b) := setSession_breaker _ _ _ _
    have hparts (h : r.state = .rampOut) (hn : quiet) (h1 : 1 ≤ r.quietSeconds) : u = (s.quietCounted b 2).partShip b :=
      (secondEndSession_rampOut h).trans ((if_pos hn).trans (if_pos h1))
    refine ⟨fun h => secondEndSession_other h, fun h hn => ?_, fun h hn h0 => ?_, fun h hn h1 => ⟨fun hc hs => ?_, fun hc hs => ?_, fun hc => ?_⟩⟩
    · exact (secondEndSession_rampOut h).trans (if_neg hn)
    · refine (secondEndSession_rampOut h).trans ((if_pos hn).trans (if_neg ?_))
      rw [show (s.session b).quietSeconds = 0 from h0]
      decide
    · rw [hparts h hn h1, partShip_complete (by rw [hq]; exact hc) (by rw [hq]; exact hs)]
      exact shipReturned_connected _ b
    · rw [hparts h hn h1]
      exact partShip_issued (by rw [hq]; exact hc) (by rw [hq]; exact hs)
    · rw [hparts h hn h1]
      exact partShip_parting (openRequest_inForce (by rw [enterState_breaker, hq]; exact hc))
  · have hcases := substitutedCycle_unheld h
    exact ⟨fun hr hl => hcases.trans (if_pos ⟨hr, hl⟩), fun hr => hcases.trans (if_neg fun k =>
      hr.elim (fun x => absurd (k.1.symm.trans x) (by decide)) fun x => absurd (k.2.symm.trans x) (by decide))⟩

end
end Sys2Proof.Machine

/-! PROOFS. A module's delivery (04): the record that holds what it brought, why it fails the module, and the rule of each state
otherwise. -/

namespace Sys2Proof.Machine

open Sys2Proof

section
variable {s t : State} {m : ModuleId} {b : Berth} {d : ModuleReport} {op : ModuleOp}

/-- A module's record with what its unit delivered, and an operation in force. -/
def deliveredRecord (r : ModuleRecord) (d : ModuleReport) (op : ModuleOp) : ModuleRecord :=
  { r with reported := d.reported, kva := d.kva, breaker := d.breaker, selector := d.selector, output := d.output, op := op }

/-- The state that holds what a module's unit delivered, before the delivery's rules act. -/
def State.moduleStored (s : State) (m : ModuleId) (d : ModuleReport) (op : ModuleOp) : State :=
  s.setModule m (deliveredRecord (s.module m) d op)

theorem moduleStored_module (s : State) (m : ModuleId) (d : ModuleReport) (op : ModuleOp) :
    (s.moduleStored m d op).module m = deliveredRecord (s.module m) d op := setModule_module_self _ _ _

theorem moduleDelivery_failing {c : FailureCause} (h : failureOf (s.module m) d = some c) :
    s.moduleDelivery m d = (s.moduleStored m d (opAfter true (s.module m).op d.breaker)).failModule m c := by
  unfold State.moduleDelivery
  dsimp only
  rw [h]
  rfl

theorem moduleDelivery_sound (h : failureOf (s.module m) d = none) : s.moduleDelivery m d
    = (s.moduleStored m d (opAfter false (s.module m).op d.breaker)).moduleDelivered m (s.module m).op (s.module m).stopPhase := by
  unfold State.moduleDelivery
  dsimp only
  rw [h]
  rfl

/-- A delivery leaves every report as it brought it (R52). -/
theorem moduleDelivery_reading (s : State) (m : ModuleId) (d : ModuleReport) :
    moduleReading ((s.moduleDelivery m d).module m) = (d.reported, d.kva, d.breaker, d.selector, d.output) := by
  have hstored (op : ModuleOp) : moduleReading ((s.moduleStored m d op).module m) = (d.reported, d.kva, d.breaker, d.selector, d.output) := by
    rw [moduleStored_module]
    rfl
  cases h : failureOf (s.module m) d with
  | some c =>
    rw [moduleDelivery_failing h]
    exact (((SameReports.refl _).failModule c).module m).trans (hstored _)
  | none =>
    rw [moduleDelivery_sound h]
    exact (((SameReports.refl _).moduleDelivered _ _).module m).trans (hstored _)

/-! ## Why a delivery fails a module (R59; entry 14) -/

/-- A BOUND module's breaker that reads otherwise than CLOSED with no operation in force. -/
abbrev uncommanded (r : ModuleRecord) (d : ModuleReport) : Prop := r.state = .bound ∧ r.op = .none ∧ d.breaker ≠ .closed

/-- A BOUND module's selector that stands at another place than its berth. -/
abbrev misplaced (r : ModuleRecord) (d : ModuleReport) : Prop := r.state = .bound ∧ r.berth.map .berth ≠ some d.selector

/-- The causes of the table, in its order, in the states that can fail. -/
theorem failureOf_eq (r : ModuleRecord) (d : ModuleReport) [Decidable (uncommanded r d)] [Decidable (misplaced r d)] :
    failureOf r d = if canFail r.state then
        if d.reported = .fault then some .reportedFault
        else if d.breaker = .fault ∨ uncommanded r d then some .breakerFault
        else if misplaced r d then some .selector
        else none
      else none := by
  have hmis : (r.state = .bound ∧ some d.selector ≠ r.berth.map .berth) ↔ misplaced r d := and_congr_right fun _ => ne_comm
  unfold failureOf
  split
  · split
    · rfl
    · by_cases hf : d.breaker = .fault
      · rw [if_pos hf, if_pos (.inl hf)]
      · rw [if_neg hf]
        by_cases hu : uncommanded r d
        · rw [if_pos (show r.state = .bound ∧ r.op = .none ∧ d.breaker ≠ .closed from hu), if_pos (.inr hu)]
        · rw [if_neg (show ¬ (r.state = .bound ∧ r.op = .none ∧ d.breaker ≠ .closed) from hu), if_neg (not_or.2 ⟨hf, hu⟩)]
          simp only [hmis]
  · rfl

theorem canFail_iff (st : ModuleState) : canFail st = true ↔ st ≠ .failed ∧ st ≠ .blocked := by cases st <;> decide

theorem failureOf_failing {r : ModuleRecord} (hf : r.state ≠ .failed) (hb : r.state ≠ .blocked)
    (h : d.reported = .fault ∨ d.breaker = .fault ∨ uncommanded r d ∨ misplaced r d) [Decidable (uncommanded r d)] :
    failureOf r d = some (if d.reported = .fault then .reportedFault
      else if d.breaker = .fault ∨ uncommanded r d then .breakerFault else .selector) := by
  classical
  rw [failureOf_eq, if_pos ((canFail_iff _).2 ⟨hf, hb⟩)]
  split
  · rfl
  · split
    · rfl
    · rw [if_pos]
      tauto

theorem failureOf_sound {r : ModuleRecord} (hr : d.reported ≠ .fault) (hb : d.breaker ≠ .fault) (hu : ¬ uncommanded r d)
    (hm : ¬ misplaced r d) : failureOf r d = none := by
  classical
  rw [failureOf_eq, if_neg hr, if_neg (not_or.2 ⟨hb, hu⟩), if_neg hm, ite_self]

theorem failureOf_unfailing {r : ModuleRecord} (h : r.state = .failed ∨ r.state = .blocked) : failureOf r d = none := by
  classical
  rw [failureOf_eq, if_neg fun k => ?_]
  obtain ⟨h1, h2⟩ := (canFail_iff _).1 k
  exact h.elim h1 h2

/-- A sound delivery fails no module but a BOUND one. -/
theorem failureOf_unbound {r : ModuleRecord} (hr : d.reported ≠ .fault) (hb : d.breaker ≠ .fault) (h : r.state ≠ .bound) :
    failureOf r d = none := failureOf_sound hr hb (fun k => h k.1) fun k => h k.1

/-! ## The rule of each state (R55, R57, R61, R69) -/

theorem opQueued_iff : s.opQueued m = true ↔ ∃ e ∈ s.mpm.switching, e.module = m := by
  simp [State.opQueued]

theorem opQueued_eq_false : s.opQueued m = false ↔ ∀ e ∈ s.mpm.switching, e.module ≠ m := by
  simp [State.opQueued]

theorem moduleDelivered_starting (h : (s.module m).state = .starting) (w : Bool) : s.moduleDelivered m op w
    = if completes op (s.module m).breaker && op == .close then
        match (s.module m).berth with
        | some b => ((s.setModule m { s.module m with state := .bound, run := .run }).changeOfHoldings b).moduleClosedReport b
        | none => s.setModule m { s.module m with state := .bound, run := .run }
      else if (s.module m).reported = .running ∧ (s.module m).berth.map .berth = some (s.module m).selector
        ∧ s.opQueued m = false ∧ op = .none then s.queueOp m .close
      else s := by
  unfold State.moduleDelivered
  dsimp only
  split
  case h_1 => rfl
  all_goals rename_i k; exact absurd (h.symm.trans k) (by decide)

theorem moduleDelivered_stopping (h : (s.module m).state = .stopping) (w : Bool) : s.moduleDelivered m op w
    = if w then (if (s.module m).reported = .stopped ∧ (s.module m).breaker = .open then s.cooldownEntry m else s)
      else if completes op (s.module m).breaker && op != .close && !s.opQueued m then s.beginStopPhase m
      else s := by
  unfold State.moduleDelivered
  dsimp only
  split
  case h_2 => rfl
  all_goals rename_i k; exact absurd (h.symm.trans k) (by decide)

theorem moduleDelivered_failed (h : (s.module m).state = .failed) (w : Bool) : s.moduleDelivered m op w = s.failedToCooldown m := by
  unfold State.moduleDelivered
  dsimp only
  rw [h]

theorem moduleDelivered_idle (h : (s.module m).state = .free ∨ (s.module m).state = .bound ∨ (s.module m).state = .cooldown
    ∨ (s.module m).state = .blocked) (w : Bool) : s.moduleDelivered m op w = s := by
  unfold State.moduleDelivered
  dsimp only
  rcases h with h | h | h | h <;> rw [h]

theorem cooldownEntry_module (s : State) (m : ModuleId) : (s.cooldownEntry m).module m = { s.module m with
    state := .cooldown, berth := none, run := .stop, stopPhase := false, cooldown := 4 * s.cfs.tables.station.cooldown.toNat } := by
  unfold State.cooldownEntry
  dsimp only
  split
  · exact (changeOfHoldings_module _ _ _).trans (setModule_module_self _ _ _)
  · exact setModule_module_self _ _ _

/-! ## Other modules -/

/-- A failure, a cooldown and a close leave every other module that is not FREE. -/
theorem failModule_module_ne {i : ModuleId} (hi : i ≠ m) (h : (s.module i).state ≠ .free) (c : FailureCause) :
    (s.failModule m c).module i = s.module i := by
  have hfailed : (s.failed m c).module i = s.module i := by
    unfold State.failed
    rw [latchStation_module, setModule_module_ne _ _ _ hi, protect_module, if_neg hi]
    rfl
  rcases failModule_cases s m c with k | ⟨b, old, k⟩
  · rw [k, hfailed]
  · rw [k, (failureHoldings_spares (m := i) (s.failed m c) b old (by rwa [hfailed])).1, hfailed]

theorem cooldownEntry_module_ne {i : ModuleId} (hi : i ≠ m) : (s.cooldownEntry m).module i = s.module i := by
  unfold State.cooldownEntry
  dsimp only
  split
  · exact (changeOfHoldings_module _ _ _).trans (setModule_module_ne _ _ _ hi)
  · exact setModule_module_ne _ _ _ hi

theorem moduleClosedReport_mpm (s : State) (b : Berth) : (s.moduleClosedReport b).mpm = s.mpm := by
  unfold State.moduleClosedReport
  dsimp only
  split <;> rfl

theorem moduleDelivered_module_ne {i : ModuleId} (hi : i ≠ m) (w : Bool) : (s.moduleDelivered m op w).module i = s.module i := by
  unfold State.moduleDelivered
  dsimp only
  split
  · split
    · split
      · rw [module_of_mpm (moduleClosedReport_mpm _ _), changeOfHoldings_module, setModule_module_ne _ _ _ hi]
      · exact setModule_module_ne _ _ _ hi
    · split <;> rfl
  · split
    · split
      · exact cooldownEntry_module_ne hi
      · rfl
    · split
      · rw [beginStopPhase_module, if_neg hi]
      · rfl
  · unfold State.failedToCooldown
    dsimp only
    split
    · exact cooldownEntry_module_ne hi
    · rfl
  all_goals rfl

theorem moduleDelivery_module_ne {i : ModuleId} (hi : i ≠ m) (h : (s.module i).state ≠ .free) :
    (s.moduleDelivery m d).module i = s.module i := by
  have hstored (op : ModuleOp) : (s.moduleStored m d op).module i = s.module i := setModule_module_ne _ _ _ hi
  cases hf : failureOf (s.module m) d with
  | some c => rw [moduleDelivery_failing hf, failModule_module_ne hi (by rwa [hstored]), hstored]
  | none => rw [moduleDelivery_sound hf, moduleDelivered_module_ne hi, hstored]

end
end Sys2Proof.Machine

/-! PROOFS. The parts of a module's delivery that the statement about the units' deliveries names, one for each state of the module
(04), and what the close of a module's breaker presents to session and supervision (06, 07). -/

namespace Sys2Proof.Machine

open Sys2Proof

section
variable {s t : State} {m : ModuleId} {b : Berth} {d : ModuleReport} {op : ModuleOp}

/-! ## A failing delivery (R59, R60) -/

/-- An open completed at a failing delivery is over, a CLOSE is not (R69; entry 14). -/
theorem opAfter_failing {st : BreakerStatus} (h : op = .none ∨ op = .close) : opAfter true op st = op := by
  rcases h with rfl | rfl <;> cases st <;> rfl

theorem moduleDelivery_fails (hf : (s.module m).state ≠ .failed) (hb : (s.module m).state ≠ .blocked)
    (h : d.reported = .fault ∨ d.breaker = .fault ∨ uncommanded (s.module m) d ∨ misplaced (s.module m) d)
    [Decidable (uncommanded (s.module m) d)] :
    ((s.moduleDelivery m d).module m).state = .failed ∧ ((s.moduleDelivery m d).module m).berth = none
      ∧ ((s.moduleDelivery m d).module m).run = .stop ∧ ((s.moduleDelivery m d).module m).stopPhase = false
      ∧ ((s.moduleDelivery m d).module m).cause = some (if d.reported = .fault then .reportedFault
        else if d.breaker = .fault ∨ uncommanded (s.module m) d then .breakerFault else .selector)
      ∧ (∀ e ∈ (s.moduleDelivery m d).mpm.switching, e.module ≠ m) ∧ (s.moduleDelivery m d).isLatched .station 5 = true
      ∧ ((s.module m).op = .none ∨ (s.module m).op = .close → d.breaker ≠ .open →
        ((s.moduleDelivery m d).module m).op = .protectionOpen) := by
  rw [moduleDelivery_failing (failureOf_failing hf hb h)]
  obtain ⟨hm, hq, hl⟩ := failModule_kept (s.moduleStored m d (opAfter true (s.module m).op d.breaker)) m
    (if d.reported = .fault then .reportedFault else if d.breaker = .fault ∨ uncommanded (s.module m) d then .breakerFault else .selector)
  rw [hm, moduleStored_module]
  refine ⟨rfl, rfl, rfl, rfl, rfl, hq, hl, fun hop hbr => ?_⟩
  rw [opAfter_failing hop]
  have hp : protectedRecord (deliveredRecord (s.module m) d (s.module m).op)
      = { deliveredRecord (s.module m) d (s.module m).op with op := .protectionOpen, opAge := 0 } := by
    unfold protectedRecord
    rw [if_neg, if_pos (.inl hbr)]
    rintro (k | k) <;> rcases hop with h | h <;> exact absurd (h.symm.trans k) (by decide)
  exact congrArg ModuleRecord.op hp

/-! ## STARTING (R55, R69, R96, R124) -/

section starting
variable (hs : (s.module m).state = .starting) (hr : d.reported ≠ .fault) (hb : d.breaker ≠ .fault)
include hs hr hb

theorem moduleDelivery_starting : s.moduleDelivery m d
    = (s.moduleStored m d (opAfter false (s.module m).op d.breaker)).moduleDelivered m (s.module m).op (s.module m).stopPhase :=
  moduleDelivery_sound (failureOf_unbound hr hb (by rw [hs]; decide))

/-- With no operation in force a STARTING module's CLOSE is queued, or nothing happens. -/
theorem moduleDelivery_awaiting (hop : (s.module m).op = .none) : s.moduleDelivery m d
    = if d.reported = .running ∧ (s.module m).berth.map .berth = some d.selector ∧ s.opQueued m = false then
        (s.moduleStored m d .none).queueOp m .close
      else s.moduleStored m d .none := by
  rw [moduleDelivery_starting hs hr hb, hop, moduleDelivered_starting (by rw [moduleStored_module]; exact hs), moduleStored_module]
  have hiff : (d.reported = .running ∧ (s.module m).berth.map .berth = some d.selector ∧ (s.moduleStored m d .none).opQueued m = false
      ∧ ModuleOp.none = .none) ↔ (d.reported = .running ∧ (s.module m).berth.map .berth = some d.selector ∧ s.opQueued m = false) :=
    ⟨fun ⟨h1, h2, h3, _⟩ => ⟨h1, h2, h3⟩, fun ⟨h1, h2, h3⟩ => ⟨h1, h2, h3, rfl⟩⟩
  exact (if_neg Bool.false_ne_true).trans (if_congr hiff rfl rfl)

theorem moduleDelivery_queues (hrun : d.reported = .running) (hsel : (s.module m).berth.map .berth = some d.selector)
    (hop : (s.module m).op = .none) (hq : ∀ e ∈ s.mpm.switching, e.module ≠ m) :
    (s.moduleDelivery m d).mpm.switching = s.mpm.switching ++ [⟨m, .close⟩] ∧ ((s.moduleDelivery m d).module m).state = .starting
      ∧ ((s.moduleDelivery m d).module m).berth = (s.module m).berth := by
  rw [moduleDelivery_awaiting hs hr hb hop, if_pos ⟨hrun, hsel, opQueued_eq_false.2 hq⟩, queueOp_module, moduleStored_module]
  exact ⟨rfl, hs, rfl⟩

theorem moduleDelivery_waits (hno : d.reported ≠ .running ∨ (s.module m).berth.map .berth ≠ some d.selector)
    (hop : (s.module m).op = .none) :
    ((s.moduleDelivery m d).module m).state = .starting ∧ (s.moduleDelivery m d).mpm.switching = s.mpm.switching := by
  rw [moduleDelivery_awaiting hs hr hb hop, if_neg fun k => hno.elim (fun h => h k.1) fun h => h k.2.1, moduleStored_module]
  exact ⟨hs, rfl⟩

end starting

/-- The state in which a module's CLOSE has completed, before its berth hears of it (R69). -/
def State.moduleBound (s : State) (m : ModuleId) (d : ModuleReport) : State :=
  (s.moduleStored m d .none).setModule m { deliveredRecord (s.module m) d .none with state := .bound, run := .run }

theorem moduleBound_module (s : State) (m : ModuleId) (d : ModuleReport) :
    (s.moduleBound m d).module m = { deliveredRecord (s.module m) d .none with state := .bound, run := .run } :=
  setModule_module_self _ _ _

/-- A CLOSE completed makes its module BOUND, and the berth's session and supervision hear of it (R69, R96, R124). -/
theorem moduleDelivery_closes (hs : (s.module m).state = .starting) (hr : d.reported ≠ .fault) (hop : (s.module m).op = .close)
    (hb : d.breaker = .closed) : s.moduleDelivery m d = match (s.module m).berth with
      | some b => ((s.moduleBound m d).changeOfHoldings b).moduleClosedReport b
      | none => s.moduleBound m d := by
  rw [moduleDelivery_starting hs hr (by rw [hb]; decide), hop, hb]
  have hnone : opAfter false .close .closed = .none := by decide
  rw [hnone, moduleDelivered_starting (by rw [moduleStored_module]; exact hs), moduleStored_module, if_pos]
  · rfl
  · change (completes .close d.breaker && _) = true
    rw [hb]
    decide

theorem moduleClosedReport_eq (s : State) (b : Berth) : s.moduleClosedReport b = s.setSuperv b { s.superv b with
    blank := 4 * (s.berthEntry b).blank.toNat
    armed := if (s.session b).state = .idle then (s.superv b).armed else true } := by
  unfold State.moduleClosedReport
  dsimp only
  have hst : (s.startBlanking b).session b = s.session b := setSuperv_session _ _ _ _
  have hsup : (s.startBlanking b).superv b = { s.superv b with blank := 4 * (s.berthEntry b).blank.toNat } := setSuperv_superv_self _ _ _
  rw [hst, hsup]
  split
  · rfl
  · unfold State.startBlanking
    exact setSuperv_twice _ _ _ _

/-- A change of holdings with a module BOUND takes no session to IDLE. -/
theorem changeOfHoldings_held_state (h : 0 < s.countIn b .bound) :
    ((s.changeOfHoldings b).session b).state = (s.session b).state := by
  have hr : readyForIdle (s.recounted b) = false := by
    have hb : ((s.recounted b).bound == 0) = false := beq_eq_false_iff_ne.2 (Nat.pos_iff_ne_zero.1 h)
    unfold readyForIdle
    rw [hb, Bool.and_false, Bool.false_and]
  by_cases he : (s.session b).state = .energising
  · exact changeOfHoldings_state (by rw [he]; decide) (by rw [he]; decide)
  · rw [changeOfHoldings_of_plain he hr, setSession_session_self]
    rfl

theorem countIn_pos {st : ModuleState} (hs : (s.module m).state = st) (hb : (s.module m).berth = some b) : 0 < s.countIn b st := by
  rw [countIn_eq_card, Finset.card_pos]
  exact ⟨m, by simp [State.inState, hs, hb]⟩

/-- A change of holdings that completes a session's holdings in ENERGISING presents the plug breaker's close (R96). -/
theorem changeOfHoldings_asks (hst : (s.session b).state = .energising) (hask : (s.session b).pbAsked = false)
    (h0 : s.countIn b .starting = 0) (h1 : 0 < s.countIn b .bound) (hq : ∀ e ∈ s.mpm.alloc, e.berth ≠ b)
    (hc : (s.breaker (.pb b)).command = .none) (ho : (s.breaker (.pb b)).status = .open) :
    ((s.changeOfHoldings b).breaker (.pb b)).command = .close ∧ ((s.changeOfHoldings b).session b).pbAsked = true := by
  have hself : (s.recount b).session b = s.recounted b := by rw [recount_eq, setSession_session_self]
  have hpb : (s.recount b).breaker (.pb b) = s.breaker (.pb b) := by rw [recount_eq, setSession_breaker]
  have hcomplete : (s.recount b).holdingsComplete b = true := by
    have hstart : (s.recounted b).starting = 0 := h0
    have hbound : 1 ≤ (s.recounted b).bound := h1
    have hqueue : (s.recount b).mpm.alloc.any (fun e => e.berth == b) = false := by
      rw [recount_eq, setSession_mpm]
      simpa using hq
    unfold State.holdingsComplete
    rw [hself, hstart, hqueue, decide_eq_true hbound]
    rfl
  rw [changeOfHoldings_eq, if_pos ⟨hst, hcomplete, hask⟩,
    presentPbClose_issued (s := s.recount b) (by rw [hpb]; exact hc) (by rw [hpb]; exact ho), tryIdle_of_not_ready]
  · refine ⟨?_, ?_⟩
    · rw [setSession_breaker]
      exact congrArg BreakerRecord.command (setBreaker_breaker_self _ _ _)
    · rw [setSession_session_self]
  · rw [setSession_session_self, hself]
    cases k : readyForIdle _
    · rfl
    · rcases readyForIdle_state k with k | k <;> exact absurd (hst.symm.trans k) (by decide)

theorem moduleDelivery_binds (hs : (s.module m).state = .starting) (hr : d.reported ≠ .fault) (hop : (s.module m).op = .close)
    (hb : d.breaker = .closed) : let t := s.moduleDelivery m d
    (t.module m).state = .bound ∧ (t.module m).op = .none ∧ (t.module m).run = .run ∧ (t.module m).berth = (s.module m).berth
      ∧ ∀ b, (s.module m).berth = some b →
        (t.superv b).blank = 4 * (s.berthEntry b).blank.toNat ∧ (t.session b).bound = t.countIn b .bound
          ∧ (t.session b).starting = t.countIn b .starting ∧ ((s.session b).state ≠ .idle → (t.superv b).armed = true)
          ∧ ((s.session b).state = .energising → (s.session b).pbAsked = false → t.countIn b .starting = 0 →
            (∀ e ∈ s.mpm.alloc, e.berth ≠ b) → (s.breaker (.pb b)).command = .none → (s.breaker (.pb b)).status = .open →
              (t.breaker (.pb b)).command = .close ∧ (t.session b).pbAsked = true) := by
  dsimp only
  rw [moduleDelivery_closes hs hr hop hb]
  have hmod := moduleBound_module s m d
  have hses (b : Berth) : (s.moduleBound m d).session b = s.session b := rfl
  cases hberth : (s.module m).berth with
  | none =>
    dsimp only
    rw [hmod]
    exact ⟨rfl, rfl, rfl, hberth, fun b h => absurd h (by simp)⟩
  | some c =>
    dsimp only
    have hpb : (s.moduleBound m d).breaker (.pb c) = s.breaker (.pb c) := rfl
    have halloc : (s.moduleBound m d).mpm.alloc = s.mpm.alloc := rfl
    have hentry : (s.moduleBound m d).berthEntry c = s.berthEntry c := rfl
    have hpos : 0 < (s.moduleBound m d).countIn c .bound := countIn_pos (m := m) (by rw [hmod]) (by rw [hmod]; exact hberth)
    generalize s.moduleBound m d = u at *
    have hmpm : ((u.changeOfHoldings c).moduleClosedReport c).mpm = u.mpm := (moduleClosedReport_mpm _ _).trans (changeOfHoldings_mpm _ _)
    have hstate := (changeOfHoldings_held_state hpos).trans (congrArg Session.state (hses c))
    obtain ⟨hstart, hbound⟩ := changeOfHoldings_counts u c
    rw [module_of_mpm hmpm, hmod]
    refine ⟨rfl, rfl, rfl, hberth, fun b hbc => ?_⟩
    obtain rfl : c = b := Option.some.inj hbc
    rw [countIn_of_mpm hmpm, countIn_of_mpm hmpm, moduleClosedReport_eq, setSuperv_superv_self, setSuperv_session, setSuperv_breaker]
    refine ⟨?_, hbound, hstart, fun hi => if_neg (by rwa [hstate]), fun h1 h2 h3 h4 h5 h6 => ?_⟩
    · change 4 * ((u.changeOfHoldings c).berthEntry c).blank.toNat = _
      rw [← hentry]
      unfold State.berthEntry
      rw [changeOfHoldings_cfs]
    · exact changeOfHoldings_asks (by rw [hses]; exact h1) (by rw [hses]; exact h2) h3 hpos (by rw [halloc]; exact h4)
        (by rw [hpb]; exact h5) (by rw [hpb]; exact h6)

/-! ## STOPPING (R57, R69; entry 39) -/

theorem moduleDelivery_stopping (hs : (s.module m).state = .stopping) (hr : d.reported ≠ .fault) (hb : d.breaker ≠ .fault) :
    s.moduleDelivery m d
      = if (s.module m).stopPhase then
          if d.reported = .stopped ∧ d.breaker = .open then
            (s.moduleStored m d (opAfter false (s.module m).op d.breaker)).cooldownEntry m
          else s.moduleStored m d (opAfter false (s.module m).op d.breaker)
        else if completes (s.module m).op d.breaker && (s.module m).op != .close && !s.opQueued m then
          (s.moduleStored m d (opAfter false (s.module m).op d.breaker)).beginStopPhase m
        else s.moduleStored m d (opAfter false (s.module m).op d.breaker) := by
  rw [moduleDelivery_sound (failureOf_unbound hr hb (by rw [hs]; decide)),
    moduleDelivered_stopping (by rw [moduleStored_module]; exact hs), moduleStored_module]
  rfl

theorem moduleDelivery_opened (hs : (s.module m).state = .stopping) (hr : d.reported ≠ .fault) (hp : (s.module m).stopPhase = false)
    (hop : (s.module m).op = .open ∨ (s.module m).op = .protectionOpen) (hb : d.breaker = .open) : let t := s.moduleDelivery m d
    (t.module m).op = .none ∧ (t.module m).state = .stopping ∧ (t.module m).berth = (s.module m).berth
      ∧ ((∀ e ∈ s.mpm.switching, e.module ≠ m) → (t.module m).stopPhase = true ∧ (t.module m).run = .stop
        ∧ (t.module m).stageTimer = 0 ∧ (t.module m).startLimit = 4 * (s.moduleEntry m).startLimit.toNat)
      ∧ ((∃ e ∈ s.mpm.switching, e.module = m) → (t.module m).stopPhase = false) := by
  have hafter : opAfter false (s.module m).op .open = .none := by rcases hop with h | h <;> rw [h] <;> decide
  have hdone : (completes (s.module m).op .open && (s.module m).op != .close) = true := by rcases hop with h | h <;> rw [h] <;> decide
  dsimp only
  rw [moduleDelivery_stopping hs hr (by rw [hb]; decide), hp, if_neg Bool.false_ne_true, hb, hdone, Bool.true_and, hafter]
  cases hq : s.opQueued m
  · rw [if_pos (by decide), beginStopPhase_module, if_pos rfl, moduleStored_module]
    refine ⟨rfl, hs, rfl, fun _ => ⟨rfl, rfl, rfl, rfl⟩, fun ⟨e, he, hm⟩ => ?_⟩
    exact absurd hm (opQueued_eq_false.1 hq e he)
  · rw [if_neg (by decide), moduleStored_module]
    refine ⟨rfl, hs, rfl, fun hno => ?_, fun _ => hp⟩
    obtain ⟨e, he, hm⟩ := opQueued_iff.1 hq
    exact absurd hm (hno e he)

theorem moduleDelivery_stopped (hs : (s.module m).state = .stopping) (hp : (s.module m).stopPhase = true) (hr : d.reported = .stopped)
    (hb : d.breaker = .open) : let t := s.moduleDelivery m d
    (t.module m).state = .cooldown ∧ (t.module m).berth = none ∧ (t.module m).run = .stop ∧ (t.module m).stopPhase = false
      ∧ (t.module m).cooldown = 4 * s.cfs.tables.station.cooldown.toNat := by
  dsimp only
  rw [moduleDelivery_stopping hs (by rw [hr]; decide) (by rw [hb]; decide), hp, if_pos rfl, if_pos ⟨hr, hb⟩, cooldownEntry_module]
  exact ⟨rfl, rfl, rfl, rfl, rfl⟩

theorem moduleDelivery_stops (hs : (s.module m).state = .stopping) (hr : d.reported ≠ .fault) (hb : d.breaker ≠ .fault)
    (hp : (s.module m).stopPhase = true) (hno : d.reported ≠ .stopped ∨ d.breaker ≠ .open) :
    ((s.moduleDelivery m d).module m).state = .stopping ∧ ((s.moduleDelivery m d).module m).stopPhase = true := by
  rw [moduleDelivery_stopping hs hr hb, hp, if_pos rfl, if_neg fun k => hno.elim (fun h => h k.1) fun h => h k.2, moduleStored_module]
  exact ⟨hs, hp⟩

/-! ## FAILED (R61) -/

theorem moduleDelivery_failed (hs : (s.module m).state = .failed) : s.moduleDelivery m d
    = if d.reported = .stopped ∧ d.breaker = .open ∧ opAfter false (s.module m).op d.breaker = .none ∧ s.moduleLost m = false then
        (s.moduleStored m d (opAfter false (s.module m).op d.breaker)).cooldownEntry m
      else s.moduleStored m d (opAfter false (s.module m).op d.breaker) := by
  rw [moduleDelivery_sound (failureOf_unfailing (.inl hs)), moduleDelivered_failed (by rw [moduleStored_module]; exact hs)]
  unfold State.failedToCooldown
  dsimp only
  rw [moduleStored_module]
  exact if_congr ⟨fun k => k.2, fun k => ⟨hs, k⟩⟩ rfl rfl

/-- An open breaker leaves no operation in force but a CLOSE. -/
theorem opAfter_open (op : ModuleOp) : opAfter false op .open = .none ↔ op ≠ .close := by cases op <;> decide

theorem moduleDelivery_recovers (hs : (s.module m).state = .failed) (hr : d.reported = .stopped) (hb : d.breaker = .open)
    (hop : (s.module m).op ≠ .close) (hl : s.roleLost .module m.val = false) : let t := s.moduleDelivery m d
    (t.module m).state = .cooldown ∧ (t.module m).op = .none ∧ (t.module m).cause = (s.module m).cause
      ∧ (t.module m).cooldown = 4 * s.cfs.tables.station.cooldown.toNat := by
  have hafter := (opAfter_open (s.module m).op).2 hop
  dsimp only
  rw [moduleDelivery_failed hs, hb, hafter, if_pos ⟨hr, rfl, rfl, hl⟩, cooldownEntry_module, moduleStored_module]
  exact ⟨rfl, rfl, rfl, rfl⟩

theorem moduleDelivery_staysFailed (hs : (s.module m).state = .failed)
    (hno : d.reported ≠ .stopped ∨ d.breaker ≠ .open ∨ (s.module m).op = .close ∨ s.roleLost .module m.val = true) :
    ((s.moduleDelivery m d).module m).state = .failed ∧ ((s.moduleDelivery m d).module m).cause = (s.module m).cause := by
  rw [moduleDelivery_failed hs, if_neg, moduleStored_module]
  · exact ⟨hs, rfl⟩
  · rintro ⟨h1, h2, h3, h4⟩
    rw [h2] at h3
    rcases hno with k | k | k | k
    · exact k h1
    · exact k h2
    · exact (opAfter_open _).1 h3 k
    · exact absurd (h4.symm.trans k) (by decide)

/-! ## FREE, BOUND, COOLDOWN and BLOCKED -/

theorem moduleDelivery_idle (h : (s.module m).state = .blocked ∨ (d.reported ≠ .fault ∧ d.breaker ≠ .fault)
      ∧ ((s.module m).state = .free ∨ (s.module m).state = .cooldown
        ∨ (s.module m).state = .bound ∧ ¬ uncommanded (s.module m) d ∧ ¬ misplaced (s.module m) d)) :
    ((s.moduleDelivery m d).module m).state = (s.module m).state ∧ ((s.moduleDelivery m d).module m).berth = (s.module m).berth
      ∧ (s.moduleDelivery m d).mpm.switching = s.mpm.switching ∧ (s.moduleDelivery m d).mrh = s.mrh := by
  have hnone : failureOf (s.module m) d = none := by
    rcases h with h | ⟨⟨hr, hb⟩, h | h | ⟨-, hu, hm⟩⟩
    · exact failureOf_unfailing (.inr h)
    · exact failureOf_unbound hr hb (by rw [h]; decide)
    · exact failureOf_unbound hr hb (by rw [h]; decide)
    · exact failureOf_sound hr hb hu hm
  rw [moduleDelivery_sound hnone, moduleDelivered_idle, moduleStored_module]
  · exact ⟨rfl, rfl, rfl, rfl⟩
  · rw [moduleStored_module]
    change (s.module m).state = _ ∨ (s.module m).state = _ ∨ (s.module m).state = _ ∨ (s.module m).state = _
    tauto

end
end Sys2Proof.Machine

/-! PROOFS. What becomes of a breaker's record when its berth's session is told of something (05 to 07): a drain, an uncommanded open
and a fault leave a breaker at rest as it is, and none of them closes one. -/

namespace Sys2Proof.Machine

open Sys2Proof

section
variable {s t : State} {b : Berth} {k x : Breaker}

/-! ## Draining (R115) -/

@[simp] theorem idleEntry_breaker (s : State) (b : Berth) (x : Breaker) : (s.idleEntry b).breaker x = s.breaker x := by
  unfold State.idleEntry
  rw [latchBerth_breaker, setSession_breaker, enterState_breaker]

@[simp] theorem tryIdle_breaker (s : State) (b : Berth) (x : Breaker) : (s.tryIdle b).breaker x = s.breaker x := by
  unfold State.tryIdle
  split
  · exact idleEntry_breaker s b x
  · rfl

/-- Outside ENERGISING a change of holdings presents no close. -/
theorem changeOfHoldings_breaker (h : (s.session b).state ≠ .energising) (x : Breaker) :
    (s.changeOfHoldings b).breaker x = s.breaker x := by
  rw [changeOfHoldings_eq, if_neg fun k => h k.1, tryIdle_breaker, recount_eq, setSession_breaker]

@[simp] theorem releaseOne_breaker (s : State) (m : ModuleId) (x : Breaker) : (s.releaseOne m).breaker x = s.breaker x := by
  cases hh : isHolding (s.module m)
  · rw [releaseOne_other hh]
  · rw [releaseOne_holding hh]
    split
    iterate 3 exact mpm_breaker s _ x
    split
    · exact mpm_breaker s _ x
    · exact mpm_breaker s _ x

theorem releaseEach_breaker (s : State) (l : List ModuleId) (x : Breaker) : (s.releaseEach l).breaker x = s.breaker x :=
  foldl_keeps (fun s => s.breaker x) _ (fun s m => releaseOne_breaker s m x) l s

theorem releaseBerth_breaker (h : (s.session b).state ≠ .energising) (x : Breaker) : (s.releaseBerth b).breaker x = s.breaker x := by
  unfold State.releaseBerth
  rw [releaseModules_eq]
  split
  · rw [changeOfHoldings_breaker (by rwa [releaseEach_session]), releaseEach_breaker]
  · exact releaseEach_breaker _ _ _

/-- The state in which a drain's metering has ended, before its modules are released (R115). -/
def State.unmetered (s : State) (b : Berth) : State :=
  let s1 := if (s.session b).metering then s.endMetering b .sessionEnd else s
  s1.setSession b { s1.session b with metering := false }

theorem drainReturn_eq (s : State) (b : Berth) : s.drainReturn b = (s.unmetered b).releaseBerth b := rfl

theorem unmetered_billing (s : State) (b : Berth) : ∃ u, BillingOnly b s u ∧ s.unmetered b = u.setSession b { s.session b with metering := false } := by
  unfold State.unmetered
  dsimp only
  split
  · have h := (BillingOnly.refl b s).endMetering .sessionEnd
    exact ⟨_, h, by rw [h.session]⟩
  · exact ⟨s, .refl b s, rfl⟩

theorem unmetered_session (s : State) (b : Berth) : (s.unmetered b).session b = { s.session b with metering := false } := by
  obtain ⟨u, -, hu⟩ := unmetered_billing s b
  rw [hu, setSession_session_self]

theorem unmetered_breaker (s : State) (b : Berth) (x : Breaker) : (s.unmetered b).breaker x = s.breaker x := by
  obtain ⟨u, h, hu⟩ := unmetered_billing s b
  rw [hu, setSession_breaker, h.breaker]

theorem drainReturn_breaker (h : (s.session b).state ≠ .energising) (x : Breaker) : (s.drainReturn b).breaker x = s.breaker x := by
  rw [drainReturn_eq, releaseBerth_breaker (by rw [unmetered_session]; exact h), unmetered_breaker]

theorem pbDrained_breaker (h : (s.session b).state ≠ .energising) (x : Breaker) : (s.pbDrained b).breaker x = s.breaker x := by
  unfold State.pbDrained
  rw [tryIdle_breaker, drainReturn_breaker (by rw [setSession_session_self]; exact h), setSession_breaker]

/-- An open request leaves the other breakers. -/
theorem openRequest_breaker_ne (s : State) (h : x ≠ k) : (s.openRequest k).1.breaker x = s.breaker x := by
  obtain ⟨r, hr⟩ := openRequest_eq s k
  rw [hr, setBreaker_breaker_ne _ _ _ h]

theorem openRequest_session (s : State) (k : Breaker) (b : Berth) : (s.openRequest k).1.session b = s.session b := by
  obtain ⟨r, hr⟩ := openRequest_eq s k
  rw [hr, setBreaker_session]

/-- A drain's step PB leaves the other breakers, and PB itself when it is at rest (R115). -/
theorem drainPb_breaker (h : (s.session b).state ≠ .energising)
    (hx : x ≠ .pb b ∨ (s.breaker (.pb b)).command = .none ∧ (s.breaker (.pb b)).status = .open) :
    (s.drainPb b).breaker x = s.breaker x := by
  have hstep : ((s.setSession b { s.session b with drain := .pb }).openRequest (.pb b)).1.breaker x = s.breaker x := by
    rcases hx with hx | ⟨hc, ho⟩
    · rw [openRequest_breaker_ne _ hx, setSession_breaker]
    · rw [openRequest_none_open (by rw [setSession_breaker]; exact hc) (by rw [setSession_breaker]; exact ho), setSession_breaker]
  unfold State.drainPb
  dsimp only
  split
  · rw [pbDrained_breaker, hstep]
    rw [openRequest_session, setSession_session_self]
    exact h
  · exact hstep

theorem sbDrained_breaker (h : (s.session b).state ≠ .energising)
    (hx : x ≠ .pb b ∨ (s.breaker (.pb b)).command = .none ∧ (s.breaker (.pb b)).status = .open) :
    (s.sbDrained b).breaker x = s.breaker x := by
  unfold State.sbDrained
  split
  · rw [tryIdle_breaker, setSession_breaker]
  · exact drainPb_breaker h hx

/-- A drain leaves a plug breaker at rest as it is. -/
theorem enterDraining_rest (hc : (s.breaker (.pb b)).command = .none) (ho : (s.breaker (.pb b)).status = .open) (w : EndReason) (first : Bool) :
    (s.enterDraining b w first).breaker (.pb b) = s.breaker (.pb b) := by
  have hbegun : (s.drainBegun b w).breaker (.pb b) = s.breaker (.pb b) := by
    unfold State.drainBegun
    rw [enterState_breaker, setSession_breaker, (cancelAlloc_same s b).pb]
  have hstate : ((s.drainBegun b w).session b).state ≠ .energising := by
    rw [drainBegun_session]
    exact SessionState.noConfusion
  have hstep : (((s.drainBegun b w).setSession b { (s.drainBegun b w).session b with drain := .sb }).openRequest (.sb b)).1.breaker (.pb b)
      = s.breaker (.pb b) := by
    rw [openRequest_breaker_ne _ (by simp), setSession_breaker, hbegun]
  rw [enterDraining_eq]
  split
  · split
    · rw [sbDrained_breaker, hstep]
      · rw [openRequest_session, setSession_session_self]
        exact hstate
      · rw [hstep]
        exact .inr ⟨hc, ho⟩
    · exact hstep
  · rw [drainPb_breaker hstate (by rw [hbegun]; exact .inr ⟨hc, ho⟩), hbegun]

/-! ## Opens completed and uncommanded (R97, R100, R112, R115, R117) -/

/-- PB's open presented complete leaves every breaker. -/
theorem pbOpenComplete_breaker (s : State) (b : Berth) (x : Breaker) : (s.pbOpenComplete b).breaker x = s.breaker x := by
  unfold State.pbOpenComplete
  split
  case h_1 h =>
    split
    · exact pbDrained_breaker (by rw [h]; decide) x
    · rfl
  case h_2 =>
    split
    · rw [setSession_breaker, ((BillingOnly.refl b s).endMetering .fault).breaker]
    · rfl
  case h_3 => rfl

/-- SB's open presented complete leaves SB. -/
theorem sbOpenComplete_breaker (s : State) (b : Berth) : (s.sbOpenComplete b).breaker (.sb b) = s.breaker (.sb b) := by
  unfold State.sbOpenComplete
  split
  · split
    · exact enterState_breaker _ _ _ _
    · rfl
  · unfold State.shipReturned
    rw [latchBerth_breaker, enterState_breaker]
  case h_3 h =>
    split
    · exact sbDrained_breaker (by rw [h]; decide) (.inl (by simp))
    · rfl
  · rfl

theorem openComplete_breaker (s : State) (k : Breaker) : (s.openComplete k).breaker k = s.breaker k := by
  cases k with
  | pb b => exact pbOpenComplete_breaker s b _
  | sb b => exact sbOpenComplete_breaker s b

theorem uncommandedOpen_breaker (hc : (s.breaker k).command = .none) (ho : (s.breaker k).status = .open) :
    (s.uncommandedOpen k).breaker k = s.breaker k := by
  cases k with
  | pb b =>
    change (s.pbUncommandedOpen b).breaker (.pb b) = _
    unfold State.pbUncommandedOpen
    dsimp only
    split
    · exact enterDraining_rest hc ho _ _
    · split
      case isTrue h => rw [drainReturn_breaker (by rw [setSession_session_self]; exact fun k => absurd (h.1.symm.trans k) (by decide)), setSession_breaker]
      case isFalse => rfl
  | sb b =>
    change (s.sbUncommandedOpen b).breaker (.sb b) = _
    unfold State.sbUncommandedOpen
    split
    · exact enterState_breaker _ _ _ _
    · rfl

/-! ## Faults (R129 to R131, R80) -/

theorem tripModules_breaker (h : (s.session b).state = .faulted) (x : Breaker) : (s.tripModules b).breaker x = s.breaker x := by
  obtain ⟨p, hp⟩ := tripEach_rest s (s.modulesOf b)
  rw [tripModules_eq, hp, changeOfHoldings_breaker, mpm_breaker]
  exact fun k => absurd (h.symm.trans k) (by decide)

theorem tripPbComplete_breaker (s : State) (b : Berth) (x : Breaker) : (s.tripPbComplete b).breaker x = s.breaker x := by
  unfold State.tripPbComplete
  split
  · exact pbOpenComplete_breaker s b x
  · rfl

/-- A fault leaves its berth's breakers, or trips them. -/
theorem fault_breaker (s : State) (b : Berth) (c : FaultKind) (hx : x = .pb b ∨ x = .sb b) : (s.fault b c).breaker x = s.breaker x
    ∨ ∃ v, (s.fault b c).breaker x = ((s.setSuperv b v).tripBreakers b).breaker x := by
  by_cases hi : (s.session b).state = .idle
  · rw [fault_idle hi]
    exact .inl rfl
  by_cases hw : s.classFor c = .warn
  · rw [fault_warn hi hw]
    unfold State.warnFault
    exact .inl (by rw [latchBerth_breaker, setSuperv_breaker])
  right
  by_cases hf : (s.session b).state = .faulted
  · refine ⟨{ s.superv b with
      laterFaults := satAdd 255 (s.superv b).laterFaults 1, laterKind := some c
      tripClass := some (laterClass (s.classFor c) (s.superv b).tripClass) }, ?_⟩
    rw [fault_later hf hw, laterFault_eq, latchBerth_breaker, setRestartTimer_breaker, tripPbComplete_breaker,
      tripModules_breaker (by rwa [laterTripped_session])]
    rfl
  · obtain ⟨e, he⟩ := tripEntered_session (k := c) hi (tripClassFor (s.superv b).attempts (s.classFor c))
    refine ⟨tripRecord c (tripClassFor (s.superv b).attempts (s.classFor c)) s.rif.cycle s.ctu.time (s.superv b), ?_⟩
    rw [fault_trip hi hf hw, trip_eq, setRestartTimer_breaker, latchBerth_breaker, tripPbComplete_breaker,
      tripModules_breaker (by rw [he]; rfl)]
    exact tripEntered_breaker hi _ hx

theorem berthBreaker (k : Breaker) : k = .pb (breakerBerth k) ∨ k = .sb (breakerBerth k) := by
  cases k
  · exact .inl rfl
  · exact .inr rfl

/-- A fault leaves a breaker of its berth that is at rest. -/
theorem fault_rest (c : FaultKind) (hc : (s.breaker k).command = .none) (ho : (s.breaker k).status = .open) :
    (s.fault (breakerBerth k) c).breaker k = s.breaker k := by
  rcases fault_breaker s _ c (berthBreaker k) with h | ⟨v, h⟩
  · exact h
  · have hset : (s.setSuperv (breakerBerth k) v).breaker k = s.breaker k := setSuperv_breaker _ _ _ _
    rw [h, (tripBreakers_breakers (s.setSuperv (breakerBerth k) v) _ (berthBreaker k)).2 (by rw [hset]; exact .inr ⟨hc, ho⟩), hset]

/-- A fault closes no breaker. -/
theorem fault_command (c : FaultKind) (h : (s.breaker k).command ≠ .close) : ((s.fault (breakerBerth k) c).breaker k).command ≠ .close := by
  rcases fault_breaker s _ c (berthBreaker k) with hk | ⟨v, hk⟩
  · rwa [hk]
  · have hset : (s.setSuperv (breakerBerth k) v).breaker k = s.breaker k := setSuperv_breaker _ _ _ _
    obtain ⟨hopens, hstands⟩ := tripBreakers_breakers (s.setSuperv (breakerBerth k) v) _ (berthBreaker k)
    rw [hset] at hopens hstands
    rw [hk]
    by_cases ho : (s.breaker k).status = .open
    · rw [hstands]
      · exact h
      · match hc : (s.breaker k).command with
        | .none => exact .inr ⟨rfl, ho⟩
        | .close => exact absurd hc h
        | .open => exact .inl rfl
    · rw [hopens (.inr ho)]
      decide

theorem uncommandedOpenFault_breaker (w : SessionState) (hc : (s.breaker k).command = .none) (ho : (s.breaker k).status = .open) :
    (s.uncommandedOpenFault k w).breaker k = s.breaker k := by
  cases k with
  | pb b =>
    change State.breaker (if _ then _ else _) _ = _
    split
    · rfl
    · exact fault_rest (k := .pb b) _ hc ho
  | sb b =>
    change State.breaker (if _ then _ else _) _ = _
    split
    · exact fault_rest (k := .sb b) _ hc ho
    · rfl

/-- An uncommanded open's presentations leave the breaker, which is at rest (R75). -/
theorem presentUncommandedOpen_breaker (first : Bool) (hc : (s.breaker k).command = .none) (ho : (s.breaker k).status = .open) :
    (s.presentUncommandedOpen first k).breaker k = s.breaker k := by
  unfold State.presentUncommandedOpen
  dsimp only
  split
  · have h := uncommandedOpenFault_breaker (s.session (breakerBerth k)).state hc ho
    rw [uncommandedOpen_breaker (by rw [h]; exact hc) (by rw [h]; exact ho), h]
  · have h := uncommandedOpen_breaker hc ho
    rw [uncommandedOpenFault_breaker _ (by rw [h]; exact hc) (by rw [h]; exact ho), h]

end
end Sys2Proof.Machine

/-! PROOFS. A breaker's delivery (05): the record that holds what it brought, the presentation of the change of status, and the end of a
command in force. -/

namespace Sys2Proof.Machine

open Sys2Proof

/-- A change of one breaker's record and of the events alone. -/
structure BreakerOnly (k : Breaker) (s t : State) : Prop where
  rest : ∃ p h, t = { s with bsy := p, mrh := h } ∧ p.sync = s.bsy.sync
  others : ∀ j, j ≠ k → t.breaker j = s.breaker j
  latched : ∀ c n, s.isLatched c n = true → t.isLatched c n = true

section
variable {s t u : State} {b : Berth} {k : Breaker} {d : BreakerReport}

theorem BreakerOnly.refl (k : Breaker) (s : State) : BreakerOnly k s s := ⟨⟨s.bsy, s.mrh, rfl, rfl⟩, fun _ _ => rfl, fun _ _ h => h⟩

theorem BreakerOnly.trans (h : BreakerOnly k s t) (i : BreakerOnly k t u) : BreakerOnly k s u := by
  obtain ⟨⟨p, q, rfl, hp⟩, ho, hl⟩ := h
  obtain ⟨⟨p', q', rfl, hp'⟩, ho', hl'⟩ := i
  exact ⟨⟨p', q', rfl, hp'.trans hp⟩, fun j hj => (ho' j hj).trans (ho j hj), fun c n hn => hl' c n (hl c n hn)⟩

theorem BreakerOnly.session (h : BreakerOnly k s t) (b : Berth) : t.session b = s.session b := by
  obtain ⟨p, q, rfl, -⟩ := h.rest
  rfl

theorem BreakerOnly.superv (h : BreakerOnly k s t) (b : Berth) : t.superv b = s.superv b := by
  obtain ⟨p, q, rfl, -⟩ := h.rest
  rfl

theorem BreakerOnly.sync (h : BreakerOnly k s t) (b : Berth) : t.sync b = s.sync b := by
  obtain ⟨p, q, rfl, hp⟩ := h.rest
  unfold State.sync
  rw [hp]

theorem BreakerOnly.mpm (h : BreakerOnly k s t) : t.mpm = s.mpm := by
  obtain ⟨p, q, rfl, -⟩ := h.rest
  rfl

theorem BreakerOnly.cfs (h : BreakerOnly k s t) : t.cfs = s.cfs := by
  obtain ⟨p, q, rfl, -⟩ := h.rest
  rfl

theorem BreakerOnly.setBreaker (h : BreakerOnly k s t) (r : BreakerRecord) : BreakerOnly k s (t.setBreaker k r) := by
  refine h.trans ⟨?_, fun j hj => setBreaker_breaker_ne _ _ _ hj, fun c n hn => ?_⟩
  · cases k <;> exact ⟨_, _, rfl, rfl⟩
  · unfold State.isLatched
    rw [setBreaker_mrh]
    exact hn

theorem BreakerOnly.latchBerth (h : BreakerOnly k s t) (b : Berth) (f : BerthFlag) : BreakerOnly k s (t.latchBerth b f) := by
  refine h.trans ⟨⟨t.bsy, _, rfl, rfl⟩, fun j _ => latchBerth_breaker _ _ _ _, fun c n hn => ?_⟩
  rw [latchBerth_isLatched, hn, Bool.true_or]

theorem BreakerOnly.concludeMeasurement (h : BreakerOnly k s t) (v : Option Nat) : BreakerOnly k s (t.concludeMeasurement k v) := by
  unfold State.concludeMeasurement
  dsimp only
  split
  · exact (h.setBreaker _).latchBerth _ _
  · exact h

/-! ## The record stored, and the ends of a command (R75, R79, R81) -/

/-- The state that holds what a breaker's unit delivered, before the delivery's rules act. -/
def State.breakerStored (s : State) (k : Breaker) (d : BreakerReport) : State :=
  s.setBreaker k { s.breaker k with status := d.status, ready := d.ready, offset := d.offset }

theorem breakerStored_breaker (s : State) (k : Breaker) (d : BreakerReport) :
    (s.breakerStored k d).breaker k = { s.breaker k with status := d.status, ready := d.ready, offset := d.offset } :=
  setBreaker_breaker_self _ _ _

theorem breakerStored_only (s : State) (k : Breaker) (d : BreakerReport) : BreakerOnly k s (s.breakerStored k d) :=
  (BreakerOnly.refl k s).setBreaker _

theorem breakerDelivery_eq (s : State) (first : Bool) (k : Breaker) (d : BreakerReport) : s.breakerDelivery first k d
    = ((s.breakerStored k d).breakerReport first k (s.breaker k) d.status).commandEnd k := rfl

/-- A CLOSE ended with a result or without one: NONE, the measurement concluded (R79, R81). -/
def State.closeOver (s : State) (k : Breaker) (v : Option Nat) : State := (s.concludeMeasurement k v).clearClose k

/-- The state in which a CLOSE has completed, and the OPEN of a withdrawn one is issued (R79). -/
def State.closeEnded (s : State) (k : Breaker) : State :=
  let s1 := s.closeOver k (plausible (s.breakerEntry k) (measuredTime s.ext (s.breaker k).issue (s.breaker k).offset))
  if (s.breaker k).withdrawn then s1.issueOpen k else s1

theorem closeOver_only (s : State) (k : Breaker) (v : Option Nat) : BreakerOnly k s (s.closeOver k v) :=
  ((BreakerOnly.refl k s).concludeMeasurement v).setBreaker _

theorem closeEnded_only (s : State) (k : Breaker) : BreakerOnly k s (s.closeEnded k) := by
  unfold State.closeEnded
  dsimp only
  split
  · exact (closeOver_only s k _).setBreaker _
  · exact closeOver_only s k _

theorem closeOver_breaker (s : State) (k : Breaker) (v : Option Nat) : (s.closeOver k v).breaker k
    = { (s.concludeMeasurement k v).breaker k with command := .none, withdrawn := false } := setBreaker_breaker_self _ _ _

theorem closeOver_record (s : State) (k : Breaker) (v : Option Nat) :
    ((s.closeOver k v).breaker k).command = .none ∧ ((s.closeOver k v).breaker k).withdrawn = false
      ∧ ((s.breaker k).measuring = true → ((s.closeOver k v).breaker k).measuring = false ∧ ((s.closeOver k v).breaker k).lastMeasured = v) := by
  rw [closeOver_breaker]
  refine ⟨rfl, rfl, fun hm => ?_⟩
  rw [concludeMeasurement_breaker hm]
  exact ⟨rfl, rfl⟩

/-- A measurement that was open is reported when it is concluded (R81, R186). -/
theorem closeOver_latched (hm : (s.breaker k).measuring = true) (v : Option Nat) :
    (s.closeOver k v).isLatched (.berth (breakerBerth k)) 1 = true := by
  have hc : (s.concludeMeasurement k v).isLatched (.berth (breakerBerth k)) 1 = true := by
    unfold State.concludeMeasurement
    dsimp only
    rw [if_pos hm]
    exact latchBerth_isLatched_self _ _ .closeMeasured
  exact ((BreakerOnly.refl k _).setBreaker _).latched _ _ hc

/-- What a completed CLOSE leaves of its breaker. -/
theorem closeEnded_record (s : State) (k : Breaker) :
    ((s.closeEnded k).breaker k).withdrawn = false
      ∧ ((s.closeEnded k).breaker k).command = (if (s.breaker k).withdrawn then .open else .none)
      ∧ ((s.breaker k).measuring = true → (s.closeEnded k).isLatched (.berth (breakerBerth k)) 1 = true
        ∧ ((s.closeEnded k).breaker k).measuring = false ∧ ((s.closeEnded k).breaker k).lastMeasured
          = plausible (s.breakerEntry k) (((s.ext - (s.breaker k).issue).toNat : Int) * 250 + (s.breaker k).offset - 250)) := by
  have htime : measuredTime s.ext (s.breaker k).issue (s.breaker k).offset
      = ((s.ext - (s.breaker k).issue).toNat : Int) * 250 + (s.breaker k).offset - 250 := by
    unfold measuredTime
    push_cast
    rfl
  unfold State.closeEnded
  dsimp only
  rw [htime]
  generalize plausible _ _ = v
  obtain ⟨hc, hw, hm⟩ := closeOver_record s k v
  split
  · have hopen : ((s.closeOver k v).issueOpen k).breaker k = _ := setBreaker_breaker_self _ _ _
    rw [hopen]
    exact ⟨rfl, rfl, fun h => ⟨((BreakerOnly.refl k _).setBreaker _).latched _ _ (closeOver_latched h v), hm h⟩⟩
  · exact ⟨hw, hc, fun h => ⟨closeOver_latched h v, hm h⟩⟩

/-! ## The command in force at a delivery (R79) -/

theorem commandEnd_unread (h : (s.breaker k).status = .moving ∨ (s.breaker k).status = .fault) : s.commandEnd k = s := by
  unfold State.commandEnd
  dsimp only
  rcases h with h | h <;> split <;> simp_all

theorem commandEnd_none (h : (s.breaker k).command = .none) : s.commandEnd k = s := by
  unfold State.commandEnd
  dsimp only
  split <;> simp_all

theorem commandEnd_closed (hs : (s.breaker k).status = .closed) (hc : (s.breaker k).command ≠ .close) : s.commandEnd k = s := by
  unfold State.commandEnd
  dsimp only
  split <;> simp_all

theorem commandEnd_closes (hc : (s.breaker k).command = .close) (hs : (s.breaker k).status = .closed) :
    s.commandEnd k = (s.closeEnded k).closeComplete k := by
  unfold State.commandEnd
  dsimp only
  rw [hc, hs]
  rfl

theorem commandEnd_settles (hc : (s.breaker k).command = .close) (hs : (s.breaker k).status = .open) : s.commandEnd k
    = if (s.breaker k).withdrawn = true ∧ 2 ≤ (s.ext - (s.breaker k).withdrawCycle).toNat then (s.closeOver k none).openComplete k else s := by
  unfold State.commandEnd
  dsimp only
  rw [hc, hs]
  exact if_congr (by simp [maySettle]) rfl rfl

theorem commandEnd_opens (hc : (s.breaker k).command = .open) (hs : (s.breaker k).status = .open) :
    s.commandEnd k = (s.clearOpen k).openComplete k := by
  unfold State.commandEnd
  dsimp only
  rw [hc, hs]

/-! ## The change of status presented (R75) -/

theorem breakerReport_moving (first : Bool) (old : BreakerRecord) : s.breakerReport first k old .moving = s := rfl

theorem breakerReport_open (first : Bool) (old : BreakerRecord) : s.breakerReport first k old .open
    = if (old.status = .closed ∨ old.status = .moving) ∧ old.command = .none then s.presentUncommandedOpen first k else s := rfl

theorem breakerReport_fault (first : Bool) (old : BreakerRecord) : s.breakerReport first k old .fault
    = if old.status = .fault then s else s.fault (breakerBerth k) (failKind k) := rfl

theorem breakerReport_closed (first : Bool) (old : BreakerRecord) : s.breakerReport first k old .closed
    = if old.status = .closed then s else if old.command = .close then s.startBlanking (breakerBerth k)
      else (s.startBlanking (breakerBerth k)).fault (breakerBerth k) (failKind k) := rfl

/-! ## A delivery that completes nothing -/

theorem breakerDelivery_moving (first : Bool) (h : d.status = .moving) : s.breakerDelivery first k d = s.breakerStored k d := by
  rw [breakerDelivery_eq, h, breakerReport_moving]
  exact commandEnd_unread (.inl (by rw [breakerStored_breaker]; exact h))

theorem breakerDelivery_fault (first : Bool) (h : d.status = .fault) : s.breakerDelivery first k d
    = if (s.breaker k).status = .fault then s.breakerStored k d else (s.breakerStored k d).fault (breakerBerth k) (failKind k) := by
  rw [breakerDelivery_eq, h, breakerReport_fault]
  refine commandEnd_unread (.inr ?_)
  have hstored : ((s.breakerStored k d).breaker k).status = .fault := by
    rw [breakerStored_breaker]
    exact h
  split
  · exact hstored
  · exact (congrArg Prod.fst (((SameReports.refl _).fault _).breaker k) :).trans hstored

/-- CLOSED with no CLOSE in force: a change of status starts the blanking and is a fault (R75, R124). -/
theorem breakerDelivery_unasked (first : Bool) (h : d.status = .closed) (hc : (s.breaker k).command ≠ .close) : s.breakerDelivery first k d
    = if (s.breaker k).status = .closed then s.breakerStored k d
      else ((s.breakerStored k d).startBlanking (breakerBerth k)).fault (breakerBerth k) (failKind k) := by
  have hstored : ((s.breakerStored k d).breaker k).status = .closed ∧ ((s.breakerStored k d).breaker k).command ≠ .close := by
    rw [breakerStored_breaker]
    exact ⟨h, hc⟩
  rw [breakerDelivery_eq, h, breakerReport_closed, if_neg hc]
  split
  · exact commandEnd_closed hstored.1 hstored.2
  · have hblank : ((s.breakerStored k d).startBlanking (breakerBerth k)).breaker k = (s.breakerStored k d).breaker k :=
      setSuperv_breaker _ _ _ _
    refine commandEnd_closed ((congrArg Prod.fst (((SameReports.refl _).fault _).breaker k) :).trans ?_) (fault_command _ ?_)
    · rw [hblank]
      exact hstored.1
    · rw [hblank]
      exact hstored.2

/-- OPEN with no command in force: a change from CLOSED or MOVING is presented as an uncommanded open (R75). -/
theorem breakerDelivery_uncommanded (first : Bool) (h : d.status = .open) (hc : (s.breaker k).command = .none) : s.breakerDelivery first k d
    = if (s.breaker k).status = .closed ∨ (s.breaker k).status = .moving then (s.breakerStored k d).presentUncommandedOpen first k
      else s.breakerStored k d := by
  have hstored : ((s.breakerStored k d).breaker k).status = .open ∧ ((s.breakerStored k d).breaker k).command = .none := by
    rw [breakerStored_breaker]
    exact ⟨h, hc⟩
  rw [breakerDelivery_eq, h, breakerReport_open]
  have hiff : ((s.breaker k).status = .closed ∨ (s.breaker k).status = .moving) ∧ (s.breaker k).command = .none
      ↔ ((s.breaker k).status = .closed ∨ (s.breaker k).status = .moving) := and_iff_left hc
  rw [if_congr hiff rfl rfl]
  refine commandEnd_none ?_
  split
  · rw [presentUncommandedOpen_breaker first hstored.2 hstored.1]
    exact hstored.2
  · exact hstored.2

/-- OPEN under a CLOSE: a withdrawn one settles two cycles after its withdrawal (R79). -/
theorem breakerDelivery_settles (first : Bool) (h : d.status = .open) (hc : (s.breaker k).command = .close) : s.breakerDelivery first k d
    = if (s.breaker k).withdrawn = true ∧ 2 ≤ (s.ext - (s.breaker k).withdrawCycle).toNat then
        ((s.breakerStored k d).closeOver k none).openComplete k
      else s.breakerStored k d := by
  have hext : (s.breakerStored k d).ext = s.ext := by
    unfold State.breakerStored
    cases k <;> rfl
  rw [breakerDelivery_eq, h, breakerReport_open, if_neg fun i => absurd (hc.symm.trans i.2) (by decide), commandEnd_settles, hext,
    breakerStored_breaker]
  · rw [breakerStored_breaker]
    exact hc
  · rw [breakerStored_breaker]
    exact h

/-- OPEN under an OPEN completes it (R79). -/
theorem breakerDelivery_opens (first : Bool) (h : d.status = .open) (hc : (s.breaker k).command = .open) :
    s.breakerDelivery first k d = ((s.breakerStored k d).clearOpen k).openComplete k := by
  rw [breakerDelivery_eq, h, breakerReport_open, if_neg fun i => absurd (hc.symm.trans i.2) (by decide), commandEnd_opens]
  · rw [breakerStored_breaker]
    exact hc
  · rw [breakerStored_breaker]
    exact h

/-- The state in which a completed close is read, with the blanking that its report starts (R75, R124). -/
def State.closeRead (s : State) (k : Breaker) (d : BreakerReport) : State :=
  if (s.breaker k).status = .closed then s.breakerStored k d else (s.breakerStored k d).startBlanking (breakerBerth k)

/-- CLOSED under a CLOSE completes it (R79). -/
theorem breakerDelivery_closes (first : Bool) (h : d.status = .closed) (hc : (s.breaker k).command = .close) :
    s.breakerDelivery first k d = ((s.closeRead k d).closeEnded k).closeComplete k := by
  have hr : (s.closeRead k d).breaker k = (s.breakerStored k d).breaker k := by
    unfold State.closeRead
    split
    · rfl
    · exact setSuperv_breaker _ _ _ _
  rw [breakerDelivery_eq, h, breakerReport_closed, if_pos hc]
  refine commandEnd_closes ?_ ?_
  · exact (congrArg BreakerRecord.command (hr.trans (breakerStored_breaker s k d))).trans hc
  · exact (congrArg BreakerRecord.status (hr.trans (breakerStored_breaker s k d))).trans h

end
end Sys2Proof.Machine

/-! PROOFS. What a breaker's completed close and open do to its session (06), and what an uncommanded open does to session and
supervision in either order (06, 07). -/

namespace Sys2Proof.Machine

open Sys2Proof

section
variable {s t : State} {b : Berth} {k : Breaker}

/-! ## A completed close (R97, R99, R100) -/

theorem pbCloseComplete_billing (h : (s.session b).state = .energising) : ∃ u,
    BillingOnly b (s.setSession b { s.session b with metering := true, phase := .cableLive }) u
      ∧ s.pbCloseComplete b = u.setSync b (startAlignment (s.sync b)) := by
  have hm := (BillingOnly.refl b (s.setSession b { s.session b with metering := true, phase := .cableLive })).startMetering
    (s.session b).number (s.session b).account (0 < (s.superv b).attempts)
  refine ⟨_, hm, ?_⟩
  unfold State.pbCloseComplete
  rw [if_pos h]
  dsimp only
  rw [hm.sync, setSession_sync]

/-- PB's close complete in ENERGISING starts the metering and the alignment (R83, R97). -/
theorem pbCloseComplete_live (h : (s.session b).state = .energising) :
    ((s.pbCloseComplete b).session b).metering = true ∧ ((s.pbCloseComplete b).session b).phase = .cableLive
      ∧ ((s.pbCloseComplete b).session b).state = .energising ∧ ((s.pbCloseComplete b).sync b).alignment = .collecting
      ∧ ((s.pbCloseComplete b).sync b).collected = 0 ∧ ((s.pbCloseComplete b).sync b).angleSum = 0
      ∧ ((s.pbCloseComplete b).sync b).cableOffset = none := by
  have hsession := (pbCloseComplete_session s b b).trans (if_pos ⟨rfl, h⟩)
  obtain ⟨u, -, hu⟩ := pbCloseComplete_billing h
  rw [hsession, hu, setSync_sync_self]
  exact ⟨rfl, rfl, h, rfl, rfl, rfl, rfl⟩

theorem sbCloseComplete_state (h : (s.session b).state = .syncing) :
    ((s.sbCloseComplete b).session b).state = if (s.session b).abortPending then .parting else .parallel := by
  unfold State.sbCloseComplete
  rw [if_pos h]
  split <;> rw [enterState_session_self] <;> rfl

theorem closeComplete_breaker (s : State) (k : Breaker) : (s.closeComplete k).breaker k = s.breaker k := by
  cases k with
  | pb b =>
    change (s.pbCloseComplete b).breaker _ = _
    by_cases h : (s.session b).state = .energising
    · obtain ⟨u, hb, hu⟩ := pbCloseComplete_billing h
      rw [hu, setSync_breaker, hb.breaker, setSession_breaker]
    · exact congrArg (State.breaker · _) (if_neg h)
  | sb b =>
    change (s.sbCloseComplete b).breaker _ = _
    unfold State.sbCloseComplete
    split
    · split
      · exact enterState_breaker _ _ _ _
      · exact enterState_breaker _ _ _ _
    · rfl

theorem closeComplete_blank (s : State) (k : Breaker) :
    ((s.closeComplete k).superv (breakerBerth k)).blank = (s.superv (breakerBerth k)).blank := by
  cases k with
  | pb b => exact congrArg Supervision.blank (pbCloseComplete_superv s b b)
  | sb b =>
    change ((s.sbCloseComplete b).superv b).blank = (s.superv b).blank
    unfold State.sbCloseComplete
    split
    · split
      · rw [enterState_superv_self]
        rfl
      · rw [enterState_superv_self]
        rfl
    · rfl

theorem touches_closeComplete (s : State) (k : Breaker) : Touches anyBerth s (s.closeComplete k) := by
  cases k with
  | pb b => exact touches_pbCloseComplete trivial s
  | sb b => exact .ite (.ite (touches_enterState trivial s _) (touches_enterState trivial s _)) (.refl _ s)

/-! ## A completed open (R100, R112, R115) -/

theorem idleEntry_ended (s : State) (b : Berth) : ((s.idleEntry b).session b).state = .idle ∧ ((s.idleEntry b).session b).drain = .done
    ∧ ((s.idleEntry b).session b).metering = false ∧ (s.idleEntry b).isLatched (.berth b) 5 = true := by
  rw [idleEntry_session_self]
  refine ⟨rfl, rfl, rfl, ?_⟩
  unfold State.idleEntry
  exact latchBerth_isLatched_self _ _ .sessionEnded

theorem tryIdle_done (hd : (s.session b).drain = .done) : ((s.tryIdle b).session b).drain = .done := by
  unfold State.tryIdle
  split
  · exact (idleEntry_ended s b).2.1
  · exact hd

/-- A session that is done with its drain and holds nothing is ready for IDLE (R115). -/
theorem readyForIdle_drained {r : Session} (hs : r.state = .draining) (hd : r.drain = .done) (h0 : r.starting = 0) (h1 : r.bound = 0) :
    readyForIdle r = true := by simp [readyForIdle, hs, hd, h0, h1]

theorem releaseEach_holding_none (s : State) (b : Berth) :
    (s.releaseEach (s.modulesOf b)).countIn b .starting = 0 ∧ (s.releaseEach (s.modulesOf b)).countIn b .bound = 0 := by
  have h := releaseBerth_held s b
  rw [State.releaseBerth, held_of_mpm (releaseModules_mpm s b _)] at h
  exact Nat.add_eq_zero_iff.1 h

theorem held_pos_iff : 0 < s.held b ↔ (s.modulesOf b).any (fun m => isHolding (s.module m)) = true := by
  rw [Nat.pos_iff_ne_zero, ne_eq, held_eq_zero_iff, List.any_eq_true]
  push Not
  exact ⟨fun ⟨m, h1, h2⟩ => ⟨m, mem_modulesOf.2 h2, h1⟩, fun ⟨m, h1, h2⟩ => ⟨m, h2, mem_modulesOf.1 h1⟩⟩

/-- The release of a drained berth takes its session to IDLE when modules were held, and leaves it as it was otherwise (R115). -/
theorem releaseBerth_drained (hs : (s.session b).state = .draining) (hd : (s.session b).drain = .done) :
    (s.releaseBerth b).session b = s.session b ∧ ¬ 0 < s.held b
      ∨ ((s.releaseBerth b).session b).state = .idle ∧ ((s.releaseBerth b).session b).drain = .done
        ∧ ((s.releaseBerth b).session b).metering = false ∧ (s.releaseBerth b).isLatched (.berth b) 5 = true := by
  by_cases hheld : 0 < s.held b
  · right
    obtain ⟨h0, h1⟩ := releaseEach_holding_none s b
    have hready : readyForIdle ((s.releaseEach (s.modulesOf b)).recounted b) = true :=
      readyForIdle_drained ((congrArg Session.state (releaseEach_session s _ b)).trans hs)
        ((congrArg Session.drain (releaseEach_session s _ b)).trans hd) h0 h1
    unfold State.releaseBerth
    rw [releaseModules_eq, if_pos (held_pos_iff.1 hheld), changeOfHoldings_of_ready hready]
    exact idleEntry_ended _ b
  · left
    refine ⟨?_, hheld⟩
    unfold State.releaseBerth
    rw [releaseModules_eq, if_neg fun h => hheld (held_pos_iff.2 h), releaseEach_session]

theorem readyForIdle_idle {r : Session} (h : r.state = .idle) : readyForIdle r = false := by
  cases k : readyForIdle r
  · rfl
  · rcases readyForIdle_state k with k | k <;> exact absurd (h.symm.trans k) (by decide)

/-- PB's open complete in drain step PB ends the drain: nothing metered, nothing held, and IDLE when the session knows of no holdings or
hears of their end (R115, R116). -/
theorem pbDrained_ends (hs : (s.session b).state = .draining) :
    ((s.pbDrained b).session b).drain = .done ∧ ((s.pbDrained b).session b).metering = false ∧ (s.pbDrained b).held b = 0
      ∧ ((s.session b).starting = 0 ∧ (s.session b).bound = 0 ∨ 0 < s.held b →
        ((s.pbDrained b).session b).state = .idle ∧ (s.pbDrained b).isLatched (.berth b) 5 = true) := by
  obtain ⟨u, hu⟩ : ∃ u, u = (s.setSession b { s.session b with drain := .done }).unmetered b := ⟨_, rfl⟩
  have hpb : s.pbDrained b = (u.releaseBerth b).tryIdle b := by rw [hu]; rfl
  have hsession : u.session b = { s.session b with drain := .done, metering := false } := by
    rw [hu, unmetered_session, setSession_session_self]
  have hheld : u.held b = s.held b := by
    obtain ⟨v, -, hv⟩ := unmetered_billing (s.setSession b { s.session b with drain := .done }) b
    have hmpm : ((s.setSession b { s.session b with drain := .done }).unmetered b).mpm = s.mpm := by
      unfold State.unmetered
      dsimp only
      split
      · rw [setSession_mpm, endMetering_mpm, setSession_mpm]
      · rfl
    rw [hu, held_of_mpm hmpm]
  have hzero : (s.pbDrained b).held b = 0 := by
    rw [hpb, held_of_mpm (tryIdle_mpm _ _), releaseBerth_held]
  rw [hpb] at hzero ⊢
  refine (releaseBerth_drained (s := u) (b := b) (by rw [hsession]; exact hs) (by rw [hsession])).elim ?same ?ended
  case same =>
    rintro ⟨hsame, hnone⟩
    rw [hsession] at hsame
    refine ⟨tryIdle_done (by rw [hsame]), ?_, hzero, fun h => ?_⟩
    · unfold State.tryIdle
      split
      · exact (idleEntry_ended _ b).2.2.1
      · rw [hsame]
    · obtain ⟨h0, h1⟩ := h.resolve_right (by rwa [← hheld])
      have hready : readyForIdle ((u.releaseBerth b).session b) = true := by
        rw [hsame]
        exact readyForIdle_drained hs rfl h0 h1
      rw [tryIdle_of_ready hready]
      exact ⟨(idleEntry_ended _ b).1, (idleEntry_ended _ b).2.2.2⟩
  case ended =>
    rintro ⟨hidle, hdrain, hmeter, hlatched⟩
    rw [tryIdle_of_not_ready (readyForIdle_idle hidle)]
    exact ⟨hdrain, hmeter, releaseBerth_held u b, fun _ => ⟨hidle, hlatched⟩⟩

theorem pbOpenComplete_draining (hs : (s.session b).state = .draining) (hd : (s.session b).drain = .pb) :
    s.pbOpenComplete b = s.pbDrained b := by
  unfold State.pbOpenComplete
  rw [hs]
  exact if_pos hd

/-- PB's open complete in FAULTED ends the metering (R117). -/
theorem pbOpenComplete_unmeters (hs : (s.session b).state = .faulted) :
    ((s.pbOpenComplete b).session b).state = .faulted ∧ ((s.pbOpenComplete b).session b).metering = false := by
  rw [pbOpenComplete_faulted hs]
  split
  · rw [setSession_session_self, endMetering_session]
    exact ⟨hs, rfl⟩
  case isFalse h => exact ⟨hs, Bool.eq_false_iff.2 h⟩

theorem sbOpenComplete_parting (hs : (s.session b).state = .parting) : s.sbOpenComplete b = s.shipReturned b := by
  unfold State.sbOpenComplete
  rw [hs]

theorem sbOpenComplete_syncing (hs : (s.session b).state = .syncing) :
    ((s.sbOpenComplete b).session b).state = if (s.session b).abortPending then .connected else .syncing := by
  unfold State.sbOpenComplete
  rw [hs]
  dsimp only
  split
  · rw [enterState_session_self]
    rfl
  · exact hs

theorem sbOpenComplete_draining (hs : (s.session b).state = .draining) (hd : (s.session b).drain = .sb) :
    s.sbOpenComplete b = s.sbDrained b := by
  unfold State.sbOpenComplete
  rw [hs]
  exact if_pos hd

/-- Step PB entered with PB neither OPEN nor under a command issues its OPEN (R115, R78). -/
theorem drainPb_issues (hc : (s.breaker (.pb b)).command = .none) (ho : (s.breaker (.pb b)).status ≠ .open) :
    s.drainPb b = (s.setSession b { s.session b with drain := .pb }).issueOpen (.pb b) := by
  unfold State.drainPb
  dsimp only
  rw [openRequest_none_notOpen (by rw [setSession_breaker]; exact hc) (by rw [setSession_breaker]; exact ho)]
  rfl

theorem drainPb_drain (hs : (s.session b).state = .draining) : ((s.drainPb b).session b).drain ≠ .sb := by
  have hsession : (((s.setSession b { s.session b with drain := .pb }).openRequest (.pb b)).1.session b)
      = { s.session b with drain := .pb } := by rw [openRequest_session, setSession_session_self]
  unfold State.drainPb
  dsimp only
  split
  · rw [(pbDrained_ends (by rw [hsession]; exact hs)).1]
    decide
  · rw [hsession]
    exact DrainStep.noConfusion

/-- SB's open complete in drain step SB takes the drain on: to step PB with PB's OPEN issued, or to its end (R115). -/
theorem sbDrained_goesOn (hs : (s.session b).state = .draining) : ((s.sbDrained b).session b).drain ≠ .sb
    ∧ ((s.session b).pbTaken = false → (s.breaker (.pb b)).command = .none → (s.breaker (.pb b)).status ≠ .open →
      ((s.sbDrained b).session b).drain = .pb ∧ ((s.sbDrained b).breaker (.pb b)).command = .open) := by
  unfold State.sbDrained
  split
  case isTrue ht =>
    refine ⟨?_, fun h => absurd (ht.symm.trans h) (by decide)⟩
    rw [tryIdle_done (by rw [setSession_session_self])]
    decide
  case isFalse =>
    refine ⟨drainPb_drain hs, fun _ hc ho => ?_⟩
    rw [drainPb_issues hc ho]
    unfold State.issueOpen
    rw [setBreaker_breaker_self, setBreaker_session, setSession_session_self]
    exact ⟨rfl, rfl⟩

/-! ## An uncommanded open, in either order (R117, R129, R130) -/

theorem classFor_of_cfs (h : t.cfs = s.cfs) (c : FaultKind) : t.classFor c = s.classFor c := by
  unfold State.classFor
  rw [h]

theorem warnFault_session (s : State) (b : Berth) (c : FaultKind) : (s.warnFault b c).session b = s.session b := rfl

theorem warnFault_warned (s : State) (b : Berth) (c : FaultKind) : ((s.warnFault b c).superv b).warnedKind = some c := by
  unfold State.warnFault
  rw [latchBerth_superv, setSuperv_superv_self]

theorem onShipBus_iff (st : SessionState) :
    onShipBus st = true ↔ st = .parallel ∨ st = .rampIn ∨ st = .shore ∨ st = .recall ∨ st = .rampOut := by cases st <;> decide

theorem presentUncommandedOpen_sb (h : onShipBus (s.session b).state = true) (first : Bool) :
    s.presentUncommandedOpen first (.sb b) = if first then (s.fault b .sbOpened).sbUncommandedOpen b
      else (s.enterState b .connected).fault b .sbOpened := by
  have hopen : s.sbUncommandedOpen b = s.enterState b .connected := if_pos h
  have hfault (t : State) : t.uncommandedOpenFault (.sb b) (s.session b).state = t.fault b .sbOpened := if_pos h
  cases first
  · exact (hfault _).trans (congrArg (State.fault · b .sbOpened) hopen)
  · exact congrArg (State.sbUncommandedOpen · b) (hfault s)

/-- An uncommanded SB open of class WARN takes the session to CONNECTED with the warning (R117, R130). -/
theorem presentUncommandedOpen_sb_warns (h : onShipBus (s.session b).state = true) (hw : s.classFor .sbOpened = .warn) (first : Bool) :
    ((s.presentUncommandedOpen first (.sb b)).session b).state = .connected
      ∧ ((s.presentUncommandedOpen first (.sb b)).superv b).warnedKind = some .sbOpened := by
  have hi : (s.session b).state ≠ .idle := fun k => by rw [k] at h; cases h
  rw [presentUncommandedOpen_sb h]
  split
  · have hopen : (s.warnFault b .sbOpened).sbUncommandedOpen b = (s.warnFault b .sbOpened).enterState b .connected := if_pos h
    rw [fault_warn hi hw, hopen, enterState_session_self, enterState_superv_self]
    exact ⟨rfl, warnFault_warned s b _⟩
  · have hi' : ((s.enterState b .connected).session b).state ≠ .idle := by
      rw [enterState_session_self]
      exact SessionState.noConfusion
    rw [fault_warn hi' ((classFor_of_cfs (enterState_cfs s b _) _).trans hw)]
    refine ⟨?_, warnFault_warned _ b _⟩
    rw [warnFault_session, enterState_session_self]
    rfl

/-- What a fault that trips leaves of a session not yet FAULTED (R130). -/
theorem fault_trips {c : FaultKind} (hi : (s.session b).state ≠ .idle) (hf : (s.session b).state ≠ .faulted) (hw : s.classFor c ≠ .warn)
    (he : (s.session b).endReason ≠ some .fault) :
    ((s.fault b c).session b).state = .faulted ∧ ((s.fault b c).superv b).tripKind = some c := by
  obtain ⟨hstate, -, -, -, hsup, -⟩ := trip_kept (k := c) (tripClassFor (s.superv b).attempts (s.classFor c)) hi he
  rw [fault_trip hi hf hw, hsup]
  exact ⟨hstate, rfl⟩

/-- An uncommanded SB open of another class trips the berth (R117, R130). -/
theorem presentUncommandedOpen_sb_trips (h : onShipBus (s.session b).state = true) (hw : s.classFor .sbOpened ≠ .warn)
    (he : (s.session b).endReason ≠ some .fault) (first : Bool) :
    ((s.presentUncommandedOpen first (.sb b)).session b).state = .faulted
      ∧ ((s.presentUncommandedOpen first (.sb b)).superv b).tripKind = some .sbOpened := by
  have hi : (s.session b).state ≠ .idle := fun k => by rw [k] at h; cases h
  have hf : (s.session b).state ≠ .faulted := fun k => by rw [k] at h; cases h
  rw [presentUncommandedOpen_sb h]
  split
  · have ht := fault_trips hi hf hw he
    have hstay : (s.fault b .sbOpened).sbUncommandedOpen b = s.fault b .sbOpened := if_neg (by rw [ht.1]; decide)
    rwa [hstay]
  · have hstate : ((s.enterState b .connected).session b).state = .connected := by
      rw [enterState_session_self]
      rfl
    refine fault_trips (by rw [hstate]; decide) (by rw [hstate]; decide) ?_ ?_
    · rwa [classFor_of_cfs (enterState_cfs s b _)]
    · rw [enterState_session_self]
      exact he

/-- An uncommanded PB open of class WARN ends the session with the cable in use, in either order (R117, R130). -/
theorem presentUncommandedOpen_pb_warns (hp : plugInUse (s.session b) = true) (hw : s.classFor .pbFail = .warn) (first : Bool) :
    ((s.presentUncommandedOpen first (.pb b)).session b).endReason = some .plugOpened
      ∧ (((s.presentUncommandedOpen first (.pb b)).session b).state = .draining
        ∨ ((s.presentUncommandedOpen first (.pb b)).session b).state = .idle) := by
  have hi : (s.session b).state ≠ .idle := fun k => by
    unfold plugInUse at hp
    rw [k] at hp
    cases hp
  have hf : (s.session b).state ≠ .faulted := fun k => by
    unfold plugInUse at hp
    rw [k] at hp
    cases hp
  have hopen (t : State) (ht : t.session b = s.session b) : (t.pbUncommandedOpen b) = t.enterDraining b .plugOpened
      ((t.breaker (.sb b)).status != .open) := if_pos (by rw [ht]; exact hp)
  cases first
  · have hd := enterDraining_drained s b .plugOpened ((s.breaker (.sb b)).status != .open)
    have hclass : (s.pbUncommandedOpen b).classFor .pbFail = .warn :=
      (classFor_of_cfs (by rw [hopen s rfl]; exact cfs_of_outer (enterDraining_outer _ _ _ _)) _).trans hw
    rw [← hopen s rfl] at hd
    have hsame : ((s.presentUncommandedOpen false (.pb b)).session b) = (s.pbUncommandedOpen b).session b := by
      change (State.session (if _ then s.pbUncommandedOpen b else (s.pbUncommandedOpen b).fault b .pbFail) b) = _
      split
      · rfl
      · by_cases hidle : ((s.pbUncommandedOpen b).session b).state = .idle
        · rw [fault_idle hidle]
        · rw [fault_warn hidle hclass]
          rfl
    rw [hsame]
    exact ⟨hd.reason, hd.state⟩
  · have hfault : s.uncommandedOpenFault (.pb b) (s.session b).state = s.warnFault b .pbFail :=
      (if_neg hf).trans (fault_warn hi hw)
    have heq : s.presentUncommandedOpen true (.pb b) = (s.warnFault b .pbFail).pbUncommandedOpen b :=
      congrArg (State.pbUncommandedOpen · b) hfault
    have hd := enterDraining_drained (s.warnFault b .pbFail) b .plugOpened (((s.warnFault b .pbFail).breaker (.sb b)).status != .open)
    rw [← hopen (s.warnFault b .pbFail) (warnFault_session s b _)] at hd
    rw [heq]
    exact ⟨hd.reason, hd.state⟩

end
end Sys2Proof.Machine

/-! PROOFS. The statement about the deliveries of modules and plug breakers (04, 05), put together: what goes on and what is stored, then
the rules by the state of the module and by the breaker's status and command. -/

namespace Sys2Proof.Machine

open Sys2Proof

section
variable {s t u : State} {b : Berth} {k : Breaker} {d : BreakerReport} {f : Arrival} {n : NodeIx}

/-! ## A CLOSE that the delivery completes (R79, R81) -/

theorem closeRead_breaker (s : State) (k : Breaker) (d : BreakerReport) :
    (s.closeRead k d).breaker k = { s.breaker k with status := d.status, ready := d.ready, offset := d.offset } := by
  unfold State.closeRead
  split
  · exact breakerStored_breaker s k d
  · exact (setSuperv_breaker _ _ _ _).trans (breakerStored_breaker s k d)

theorem breakerStored_rest (s : State) (k : Breaker) (d : BreakerReport) :
    (s.breakerStored k d).ext = s.ext ∧ (s.breakerStored k d).cfs = s.cfs ∧ (s.breakerStored k d).superv = s.superv
      ∧ (s.breakerStored k d).session = s.session := by
  unfold State.breakerStored
  cases k <;> exact ⟨rfl, rfl, rfl, rfl⟩

theorem closeRead_rest (s : State) (k : Breaker) (d : BreakerReport) :
    (s.closeRead k d).ext = s.ext ∧ (s.closeRead k d).cfs = s.cfs ∧ (s.closeRead k d).session = s.session := by
  obtain ⟨h1, h2, -, h3⟩ := breakerStored_rest s k d
  unfold State.closeRead
  split
  · exact ⟨h1, h2, h3⟩
  · exact ⟨h1, h2, h3⟩

/-- A report other than a repeated CLOSED starts the blanking (R124). -/
theorem closeRead_blank (h : (s.breaker k).status ≠ .closed) :
    ((s.closeRead k d).superv (breakerBerth k)).blank = 4 * (s.berthEntry (breakerBerth k)).blank.toNat := by
  unfold State.closeRead
  rw [if_neg h]
  unfold State.startBlanking State.berthEntry
  rw [setSuperv_superv_self, (breakerStored_rest s k d).2.1]
  rfl

theorem breakerEntry_of_cfs (h : t.cfs = s.cfs) (k : Breaker) : t.breakerEntry k = s.breakerEntry k := by
  unfold State.breakerEntry
  rw [h]

/-- What a completed CLOSE leaves of the breaker and of the blanking, and what its session and alignment do then. -/
theorem breakerDelivery_completes (first : Bool) (h : d.status = .closed) (hc : (s.breaker k).command = .close) :
    let t := s.breakerDelivery first k d
    (t.breaker k).withdrawn = false ∧ (t.breaker k).command = (if (s.breaker k).withdrawn then .open else .none)
      ∧ ((s.breaker k).measuring = true → t.isLatched (.berth (breakerBerth k)) 1 = true ∧ (t.breaker k).measuring = false
        ∧ (t.breaker k).lastMeasured
          = plausible (s.breakerEntry k) (((s.ext - (s.breaker k).issue).toNat : Int) * 250 + d.offset - 250))
      ∧ ((s.breaker k).status ≠ .closed → (t.superv (breakerBerth k)).blank = 4 * (s.berthEntry (breakerBerth k)).blank.toNat) := by
  obtain ⟨hext, hcfs, -⟩ := closeRead_rest s k d
  obtain ⟨hw, hcmd, hm⟩ := closeEnded_record (s.closeRead k d) k
  rw [closeRead_breaker, hext, breakerEntry_of_cfs hcfs] at hm
  rw [closeRead_breaker] at hcmd
  dsimp only
  rw [breakerDelivery_closes first h hc, closeComplete_breaker]
  refine ⟨hw, hcmd, fun hopen => ?_, fun hst => ?_⟩
  · obtain ⟨hl, hm'⟩ := hm hopen
    exact ⟨(touches_closeComplete _ k).latched _ _ hl, hm'⟩
  · rw [closeComplete_blank, (closeEnded_only _ k).superv, closeRead_blank hst]

theorem closeEnded_session (s : State) (k : Breaker) (d : BreakerReport) (c : Berth) :
    ((s.closeRead k d).closeEnded k).session c = s.session c :=
  ((closeEnded_only _ k).session c).trans (congrFun (closeRead_rest s k d).2.2 c)

theorem breakerDelivery_closes_pb (first : Bool) (h : d.status = .closed) (hc : (s.breaker (.pb b)).command = .close)
    (hst : (s.session b).state = .energising) : let t := s.breakerDelivery first (.pb b) d
    (t.session b).metering = true ∧ (t.session b).phase = .cableLive ∧ (t.session b).state = .energising
      ∧ (t.sync b).alignment = .collecting ∧ (t.sync b).collected = 0 ∧ (t.sync b).angleSum = 0 ∧ (t.sync b).cableOffset = none := by
  dsimp only
  rw [breakerDelivery_closes first h hc]
  exact pbCloseComplete_live (by rw [closeEnded_session]; exact hst)

theorem breakerDelivery_closes_sb (first : Bool) (h : d.status = .closed) (hc : (s.breaker (.sb b)).command = .close)
    (hst : (s.session b).state = .syncing) :
    ((s.breakerDelivery first (.sb b) d).session b).state = if (s.session b).abortPending then .parting else .parallel := by
  have hsession := closeEnded_session s (.sb b) d b
  rw [breakerDelivery_closes first h hc, ← hsession]
  exact sbCloseComplete_state (by rw [hsession]; exact hst)

/-! ## A CLOSE that settles, and an OPEN completed (R79) -/

theorem breakerStored_session (s : State) (k : Breaker) (d : BreakerReport) (c : Berth) : (s.breakerStored k d).session c = s.session c :=
  (breakerStored_only s k d).session c

/-- What is left of a withdrawn CLOSE that has settled. -/
theorem breakerDelivery_settled (first : Bool) (h : d.status = .open) (hc : (s.breaker k).command = .close)
    (hw : (s.breaker k).withdrawn = true) (hn : 2 ≤ (s.ext - (s.breaker k).withdrawCycle).toNat) : let t := s.breakerDelivery first k d
    (t.breaker k).command = .none ∧ (t.breaker k).withdrawn = false
      ∧ ((s.breaker k).measuring = true → (t.breaker k).measuring = false ∧ (t.breaker k).lastMeasured = none)
      ∧ (k = .sb (breakerBerth k) → (s.session (breakerBerth k)).state = .syncing → (s.session (breakerBerth k)).abortPending = true →
        (t.session (breakerBerth k)).state = .connected) := by
  obtain ⟨hcmd, hwith, hm⟩ := closeOver_record (s.breakerStored k d) k none
  rw [breakerStored_breaker] at hm
  dsimp only
  rw [breakerDelivery_settles first h hc, if_pos ⟨hw, hn⟩, openComplete_breaker]
  refine ⟨hcmd, hwith, hm, fun hk hst ha => ?_⟩
  have hsession (c : Berth) : ((s.breakerStored k d).closeOver k none).session c = s.session c :=
    ((closeOver_only _ k none).session c).trans (breakerStored_session s k d c)
  cases k with
  | pb c => exact nomatch hk
  | sb c =>
    refine (sbOpenComplete_syncing (by rw [hsession]; exact hst)).trans ?_
    rw [hsession]
    exact if_pos ha

/-- The state in which an OPEN has completed, before its session hears of it (R79). -/
def State.openRead (s : State) (k : Breaker) (d : BreakerReport) : State := (s.breakerStored k d).clearOpen k

theorem openRead_only (s : State) (k : Breaker) (d : BreakerReport) : BreakerOnly k s (s.openRead k d) :=
  (breakerStored_only s k d).setBreaker _

theorem breakerDelivery_opened (first : Bool) (h : d.status = .open) (hc : (s.breaker k).command = .open) :
    s.breakerDelivery first k d = (s.openRead k d).openComplete k := breakerDelivery_opens first h hc

theorem openRead_record (s : State) (k : Breaker) (d : BreakerReport) :
    ((s.openRead k d).breaker k).command = .none ∧ ((s.openRead k d).breaker k).limitReported = false := by
  unfold State.openRead State.clearOpen
  rw [setBreaker_breaker_self]
  exact ⟨rfl, rfl⟩

/-- What PB's OPEN completed does to its session (R115 to R117). -/
theorem breakerDelivery_opens_pb (first : Bool) (h : d.status = .open) (hc : (s.breaker (.pb b)).command = .open) :
    let t := s.breakerDelivery first (.pb b) d
    ((s.session b).state = .draining → (s.session b).drain = .pb →
        (t.session b).drain = .done ∧ (t.session b).metering = false ∧ t.held b = 0
          ∧ ((s.session b).starting = 0 ∧ (s.session b).bound = 0 ∨ 0 < s.held b →
            (t.session b).state = .idle ∧ t.isLatched (.berth b) 5 = true))
      ∧ ((s.session b).state = .faulted → (t.session b).state = .faulted ∧ (t.session b).metering = false) := by
  have honly := openRead_only s (.pb b) d
  dsimp only
  rw [breakerDelivery_opened first h hc]
  generalize s.openRead (.pb b) d = u at *
  rw [← honly.session b, ← held_of_mpm honly.mpm b]
  have hpb : u.openComplete (.pb b) = u.pbOpenComplete b := rfl
  refine ⟨fun hs hd => ?_, fun hs => pbOpenComplete_unmeters hs⟩
  rw [hpb, pbOpenComplete_draining hs hd]
  exact pbDrained_ends hs

/-- What SB's OPEN completed does to its session (R100, R112, R115). -/
theorem breakerDelivery_opens_sb (first : Bool) (h : d.status = .open) (hc : (s.breaker (.sb b)).command = .open) :
    let t := s.breakerDelivery first (.sb b) d
    ((s.session b).state = .parting → (t.session b).state = .connected ∧ t.isLatched (.berth b) 4 = true)
      ∧ ((s.session b).state = .syncing → (t.session b).state = (if (s.session b).abortPending then .connected else .syncing))
      ∧ ((s.session b).state = .draining → (s.session b).drain = .sb → (t.session b).drain ≠ .sb
        ∧ ((s.session b).pbTaken = false → (s.breaker (.pb b)).command = .none → (s.breaker (.pb b)).status ≠ .open →
          (t.session b).drain = .pb ∧ (t.breaker (.pb b)).command = .open)) := by
  have honly := openRead_only s (.sb b) d
  dsimp only
  rw [breakerDelivery_opened first h hc]
  generalize s.openRead (.sb b) d = u at *
  rw [← honly.session b, ← honly.others (.pb b) (by simp)]
  have hsb : u.openComplete (.sb b) = u.sbOpenComplete b := rfl
  refine ⟨fun hs => ?_, fun hs => sbOpenComplete_syncing hs, fun hs hd => ?_⟩
  · rw [hsb, sbOpenComplete_parting hs]
    exact shipReturned_connected u b
  · rw [hsb, sbOpenComplete_draining hs hd]
    exact sbDrained_goesOn hs

/-! ## An uncommanded open (R75, R117, R129) -/

theorem breakerDelivery_uncommanded_sb (first : Bool) (h : d.status = .open) (hc : (s.breaker (.sb b)).command = .none)
    (hr : (s.breaker (.sb b)).status = .closed ∨ (s.breaker (.sb b)).status = .moving) (hst : onShipBus (s.session b).state = true) :
    let t := s.breakerDelivery first (.sb b) d
    (s.classFor .sbOpened = .warn → (t.session b).state = .connected ∧ (t.superv b).warnedKind = some .sbOpened)
      ∧ (s.classFor .sbOpened ≠ .warn → (s.session b).endReason ≠ some .fault →
        (t.session b).state = .faulted ∧ (t.superv b).tripKind = some .sbOpened) := by
  have hsession := breakerStored_session s (.sb b) d b
  have hclass : (s.breakerStored (.sb b) d).classFor .sbOpened = s.classFor .sbOpened := classFor_of_cfs (breakerStored_rest s _ d).2.1 _
  dsimp only
  rw [breakerDelivery_uncommanded first h hc, if_pos hr, ← hclass, ← hsession]
  rw [← hsession] at hst
  exact ⟨fun hw => presentUncommandedOpen_sb_warns hst hw first, fun hw he => presentUncommandedOpen_sb_trips hst hw he first⟩

theorem breakerDelivery_uncommanded_pb (first : Bool) (h : d.status = .open) (hc : (s.breaker (.pb b)).command = .none)
    (hr : (s.breaker (.pb b)).status = .closed ∨ (s.breaker (.pb b)).status = .moving) (hp : plugInUse (s.session b) = true)
    (hw : s.classFor .pbFail = .warn) : let t := s.breakerDelivery first (.pb b) d
    (t.session b).endReason = some .plugOpened ∧ ((t.session b).state = .draining ∨ (t.session b).state = .idle) := by
  have hclass : (s.breakerStored (.pb b) d).classFor .pbFail = s.classFor .pbFail := classFor_of_cfs (breakerStored_rest s _ d).2.1 _
  dsimp only
  rw [breakerDelivery_uncommanded first h hc, if_pos hr]
  exact presentUncommandedOpen_pb_warns (by rw [breakerStored_session]; exact hp) (hclass.trans hw) first

theorem plugInUse_of_state {r : Session} (h : r.state = .connected ∨ r.state = .syncing ∨ r.state = .parallel ∨ r.state = .rampIn
    ∨ r.state = .shore ∨ r.state = .recall ∨ r.state = .rampOut ∨ r.state = .parting) : plugInUse r = true := by
  unfold plugInUse
  rcases h with h | h | h | h | h | h | h | h <;> rw [h]

/-! ## The frame and the marks of a delivery (R1, R8, R9) -/

/-- What a delivery's reply leaves when its effects stay within the blocks of the berths. -/
theorem delivery_sent {j : FrameKind} (hout : t.ringOut = (s.arrived j n f).ringOut) (hrif : t.rif = (s.arrived j n f).rif)
    (hmfe : t.mfe = (s.arrived j n f).mfe) (g : RingFrame) :
    ((t.send [g]).health n).delivered = true ∧ (t.send [g]).mfe = s.mfe ∧ (t.send [g]).ringOut = [g] := by
  obtain ⟨⟨r, hr⟩, -, hhealth, -⟩ := arrived_eq s j n f
  refine ⟨?_, ?_, ?_⟩
  · rw [send_health]
    unfold State.health
    rw [hrif]
    exact congrArg Health.delivered ((hhealth n).trans (if_pos rfl))
  · rw [send_mfe, hmfe, hr]
  · have hnone : t.ringOut = [] := hout.trans (by rw [hr])
    exact congrArg (· ++ _) hnone

theorem modDelivery_answers (s : State) (o : DeliveryOrder) (f : Arrival) (n : NodeIx) (m : ModuleId) (h : Settled s)
    (hg : GoodFrame s .mod f) (ht : FirstOnTime s .mod n f) (hruns : s.cycleRuns = true)
    (hm : moduleOf (s.nodeEntry n).target = some m) : Answers (exec (.modDelivery o f) s) fun t =>
      (t.module m).reported = reportedOf (byteAt f.body 0) ∧ (t.module m).kva = natOf (field f.body 1 2)
        ∧ (t.module m).breaker = statusOf (byteAt f.body 3) ∧ (t.module m).selector = selectorOf (byteAt f.body 4)
        ∧ (t.module m).output = intOf (field f.body 5 2) ∧ (t.health n).delivered = true ∧ t.mfe = s.mfe
        ∧ ∃ g, t.ringOut = [g] ∧ g.dest = f.dest ∧ g.source = f.source ∧ g.kindByte = f.kindHigh ++ nibbleOf .mod
          ∧ g.length = f.length ∧ g.cycle = f.cycle ∧ g.crc = crc16 (headerBytes g ++ g.body)
          ∧ g.body.take 7 = f.body.take 7
          ∧ t = ((s.arrived .mod n f).moduleDelivery m (moduleReport f.body)).send [g] := by
  refine ⟨_, exec_delivered h hg ht, ?_⟩
  have hd : (s.surveyed .mod f).deliver (arrivalOrder .mod o) .mod n f.body = (s.arrived .mod n f).moduleDelivery m (moduleReport f.body) := by
    rw [deliver_surveyed, if_pos hruns]
    unfold State.handOn
    rw [hm]
  have hparts (u : State) := forwarded_parts (k := .mod) u rfl hg (s.nodeEntry n).target
  rw [hd]
  obtain ⟨hhealth, hmfe, hout⟩ := delivery_sent (t := (s.arrived .mod n f).moduleDelivery m (moduleReport f.body)) (s := s) (n := n) (f := f)
    (moduleDelivery_ringOut _ _ _) (moduleDelivery_rif _ _ _) (moduleDelivery_mfe _ _ _)
    ((if (arrivalOrder .mod o).sectionFirst then s.surveyed .mod f
      else (s.arrived .mod n f).moduleDelivery m (moduleReport f.body)).forwarded .mod (s.nodeEntry n).target (arrivalFrame (nibbleOf .mod) f))
  have hr := moduleDelivery_reading (s.arrived .mod n f) m (moduleReport f.body)
  simp only [moduleReading, Prod.mk.injEq] at hr
  obtain ⟨h1, h2, h3, h4, h5⟩ := hr
  obtain ⟨p1, p2, p3, p4, p5, p6, p7⟩ := hparts (if (arrivalOrder .mod o).sectionFirst then s.surveyed .mod f
      else (s.arrived .mod n f).moduleDelivery m (moduleReport f.body))
  exact ⟨h1, h2, h3, h4, h5, hhealth, hmfe, _, hout, p1, p2, p3, p4, p5, p6, p7, rfl⟩

theorem brkDelivery_answers (s : State) (o : DeliveryOrder) (f : Arrival) (n : NodeIx) (b : Berth) (h : Settled s)
    (hg : GoodFrame s .brk f) (ht : FirstOnTime s .brk n f) (hruns : s.cycleRuns = true)
    (hb : berthOf (s.nodeEntry n).target = some b) : Answers (exec (.brkDelivery o f) s) fun t =>
      (t.breaker (.pb b)).status = statusOf (byteAt f.body 0) ∧ (t.breaker (.pb b)).ready = readyOf (byteAt f.body 1)
        ∧ (t.breaker (.pb b)).offset = offsetOf (byteAt f.body 2) ∧ (t.health n).delivered = true ∧ t.mfe = s.mfe
        ∧ ∃ g, t.ringOut = [g] ∧ g.dest = f.dest ∧ g.source = f.source ∧ g.kindByte = f.kindHigh ++ nibbleOf .brk
          ∧ g.length = f.length ∧ g.cycle = f.cycle ∧ g.crc = crc16 (headerBytes g ++ g.body)
          ∧ g.body.take 3 = f.body.take 3
          ∧ t = ((s.arrived .brk n f).breakerDelivery o.supervisionFirst (.pb b) (breakerReportAt f.body 0)).send [g] := by
  refine ⟨_, exec_delivered h hg ht, ?_⟩
  have hd : (s.surveyed .brk f).deliver (arrivalOrder .brk o) .brk n f.body
      = (s.arrived .brk n f).breakerDelivery o.supervisionFirst (.pb b) (breakerReportAt f.body 0) := by
    rw [deliver_surveyed, if_pos hruns]
    unfold State.handOn
    rw [hb]
    rfl
  have hparts (u : State) := forwarded_parts (k := .brk) u rfl hg (s.nodeEntry n).target
  have hr := breakerDelivery_reading (s.arrived .brk n f) o.supervisionFirst (.pb b) (breakerReportAt f.body 0)
  obtain ⟨t, hteq⟩ : ∃ t, t = (s.arrived .brk n f).breakerDelivery o.supervisionFirst (.pb b) (breakerReportAt f.body 0) := ⟨_, rfl⟩
  rw [hd, ← hteq]
  rw [← hteq] at hr
  obtain ⟨hhealth, hmfe, hout⟩ := delivery_sent (t := t) (s := s) (n := n) (f := f)
    (by rw [hteq]; exact breakerDelivery_ringOut _ _ _ _) (by rw [hteq]; exact breakerDelivery_rif _ _ _ _)
    (by rw [hteq]; exact breakerDelivery_mfe _ _ _ _)
    ((if (arrivalOrder .brk o).sectionFirst then s.surveyed .brk f else t).forwarded .brk (s.nodeEntry n).target (arrivalFrame (nibbleOf .brk) f))
  simp only [reading, Prod.mk.injEq] at hr
  obtain ⟨h1, h2, h3⟩ := hr
  obtain ⟨p1, p2, p3, p4, p5, p6, p7⟩ := hparts (if (arrivalOrder .brk o).sectionFirst then s.surveyed .brk f else t)
  refine ⟨?_, ?_, ?_, hhealth, hmfe, _, hout, p1, p2, p3, p4, p5, p6, p7, rfl⟩
  · rw [send_breaker]
    exact h1
  · rw [send_breaker]
    exact h2
  · rw [send_breaker]
    exact h3

end

/-- Settles O12: the two deliveries, then the module's rules state by state, then the breaker's by status and command. -/
theorem unitDeliveries : Obligations.UnitDeliveries := by
  refine ⟨fun s o f n m h hg ht hruns hm => modDelivery_answers s o f n m h hg ht hruns hm,
    fun s o f n b h hg ht hruns hb => brkDelivery_answers s o f n b h hg ht hruns hb, fun s m d => ?module, fun s first k d => ?breaker⟩
  case module =>
    intro r t wrong opened sound
    refine ⟨fun hf hb h => @moduleDelivery_fails s m d hf hb h _, fun hs hr hrun hsel hop hq => moduleDelivery_queues hs hr.1 hr.2 hrun hsel hop hq,
      fun hs hr hno hop => moduleDelivery_waits hs hr.1 hr.2 hno hop, fun hs hr hop hb => moduleDelivery_binds hs hr.1 hop hb,
      fun hs hr hp hop hb => moduleDelivery_opened hs hr.1 hp hop hb, fun hs hp hr hb => moduleDelivery_stopped hs hp hr hb,
      fun hs hr hp hno => moduleDelivery_stops hs hr.1 hr.2 hp hno,
      fun hs => ⟨fun hr hb hop hl => moduleDelivery_recovers hs hr hb hop hl, fun hno => moduleDelivery_staysFailed hs hno⟩,
      fun h => moduleDelivery_idle h, fun i hi h => moduleDelivery_module_ne hi h⟩
  case breaker =>
    intro r b kind u blanked t st
    have hkind : failKind k = kind := by cases k <;> rfl
    have hblanked : (s.breakerStored k d).startBlanking b = blanked := by
      unfold State.startBlanking State.berthEntry
      rw [(breakerStored_rest s k d).2.1]
      rfl
    refine ⟨fun h => breakerDelivery_moving first h, fun h => ?fault, fun h hc => ?unasked, fun h hc => ?closes, fun h hc => ?uncommanded,
      fun h hc => ?settles, fun h hc => ?opens⟩
    case fault =>
      have ht := breakerDelivery_fault (s := s) (k := k) first h
      rw [hkind] at ht
      exact ⟨fun hst => ht.trans (if_pos hst), fun hst => ht.trans (if_neg hst)⟩
    case unasked =>
      have ht := breakerDelivery_unasked first h hc
      rw [hkind, hblanked] at ht
      exact ⟨fun hst => ht.trans (if_pos hst), fun hst => ht.trans (if_neg hst)⟩
    case closes =>
      obtain ⟨hw, hcmd, hm, hblank⟩ := breakerDelivery_completes first h hc
      refine ⟨hw, hcmd, hm, hblank, fun hk hst => ?_, fun hk hst => ?_⟩
      · cases k with
        | pb c => exact breakerDelivery_closes_pb first h hc hst
        | sb c => exact nomatch hk
      · cases k with
        | pb c => exact nomatch hk
        | sb c => exact breakerDelivery_closes_sb first h hc hst
    case uncommanded =>
      have ht := breakerDelivery_uncommanded (s := s) (k := k) first h hc
      refine ⟨fun hst => ht.trans (if_neg ?_), fun hst => ⟨ht.trans (if_pos hst), fun hk hs => ?_, fun hk hw hs => ?_⟩⟩
      · rintro (i | i) <;> rcases hst with j | j <;> exact absurd (i.symm.trans j) (by decide)
      · cases k with
        | pb c => exact nomatch hk
        | sb c => exact breakerDelivery_uncommanded_sb first h hc hst ((onShipBus_iff _).2 hs)
      · cases k with
        | pb c => exact breakerDelivery_uncommanded_pb first h hc hst (plugInUse_of_state hs) hw
        | sb c => exact nomatch hk
    case settles =>
      have ht := breakerDelivery_settles (s := s) (k := k) first h hc
      refine ⟨fun hno => ht.trans (if_neg ?_), fun hw hn => breakerDelivery_settled first h hc hw hn⟩
      rintro ⟨hw, hn⟩
      exact hno.elim (fun i => absurd (hw.symm.trans i) (by decide)) fun i => absurd hn (not_le.2 i)
    case opens =>
      obtain ⟨hcmd, hlimit⟩ := openRead_record s k d
      have hk : (s.breakerDelivery first k d).breaker k = (s.openRead k d).breaker k := by
        rw [breakerDelivery_opened first h hc, openComplete_breaker]
      refine ⟨(congrArg BreakerRecord.command hk).trans hcmd, (congrArg BreakerRecord.limitReported hk).trans hlimit, ?_⟩
      cases k with
      | pb c =>
        obtain ⟨hdrained, hfaulted⟩ := breakerDelivery_opens_pb (s := s) (b := c) first h hc
        exact ⟨fun _ => hdrained, fun _ => hfaulted, (fun i => nomatch i), (fun i => nomatch i), (fun i => nomatch i)⟩
      | sb c =>
        obtain ⟨hparting, hsyncing, hdraining⟩ := breakerDelivery_opens_sb (s := s) (b := c) first h hc
        exact ⟨(fun i => nomatch i), (fun i => nomatch i), fun _ => hparting, fun _ => hsyncing, fun _ => hdraining⟩

end Sys2Proof.Machine
